-- ==== Sys2Proof/Word.lean ====
section
/-! DEFINITION. The plain types of data that the other files use: bytes, words and sparse tables. -/

namespace Sys2Proof

/-- One byte. -/
abbrev Byte := BitVec 8

/-- A 32-bit register word (**R11**). -/
abbrev Word := BitVec 32

/-- A 64-bit register or counter (**R11**). -/
abbrev DWord := BitVec 64

/-- A byte string, first byte first. -/
abbrev Bytes := List Byte

/-- A sparse table: pairs of a key and an entry, keys rising, one pair for a key.
A key that no pair carries has the table's default entry. -/
abbrev Tbl (α : Type) := List (Nat × α)

end Sys2Proof
end

