-- ==== Sys2Proof/Syntax.lean ====
section
/-! DEFINITION. The commands and events of the module: one constructor of `Instr` for each row of
spec/opcode_table.json, with the operands that the row's rule gives it.  What a row reads from outside the
module (host memory, a card, a wire, a sensor, the outcome of a check the model does not compute) is an operand. -/

namespace Sys2Proof

/-- The 64-byte request descriptor of **R74**, field by field. -/
structure Desc where
  /-- Offset 0x00: command code, high byte the group. -/
  command : BitVec 16 := 0
  /-- Offset 0x02: [1:0] class, [7:2] reserved. -/
  cls : BitVec 8 := 0
  /-- Offset 0x03: [0] PAN, [1] NO_IRQ, [2] INLINE, [3] FWD, [7:4] reserved. -/
  flags : BitVec 8 := 0
  /-- Offset 0x04. -/
  tag : BitVec 32 := 0
  /-- Offset 0x08. -/
  keyA : BitVec 32 := 0
  /-- Offset 0x0C. -/
  keyB : BitVec 32 := 0
  /-- Offset 0x10. -/
  domain : BitVec 16 := 0
  /-- Offset 0x12. -/
  panDigits : BitVec 8 := 0
  /-- Offset 0x13. -/
  slice : BitVec 8 := 0
  /-- Offset 0x14. -/
  inLen : BitVec 32 := 0
  /-- Offset 0x18; with INLINE, input bytes 0-7, byte 0 in [7:0]. -/
  inAddr : BitVec 64 := 0
  /-- Offset 0x20, reserved; with INLINE, input bytes 8-15. -/
  inl2 : BitVec 64 := 0
  /-- Offset 0x28. -/
  outAddr : BitVec 64 := 0
  /-- Offset 0x30. -/
  outCap : BitVec 32 := 0
  /-- Offset 0x34: ten bytes of packed BCD, byte 0x34 in [79:72] (digits read from the left). -/
  pan : BitVec 80 := 0
  /-- Offset 0x3E. -/
  p0 : BitVec 16 := 0
  deriving DecidableEq, Repr

/-- The two paths into the MGT_ window (**R459**). -/
inductive MPath where
  /-- PCIe BAR0. -/
  | bar0
  /-- The SMBus sideband. -/
  | smbus
  deriving DecidableEq, Repr

/-- The outcome of the two signature checks of a signature block (**R34**), as the verifier found them. -/
structure Verdict where
  /-- ML-DSA-87 signature verifies and its padding is zero. -/
  mldsa : Bool := true
  /-- ECDSA P-384 signature verifies. -/
  ecdsa : Bool := true
  deriving DecidableEq, Repr

/-- What a custodian card answers (**R367**). -/
structure CardReply where
  /-- The card answered within 5 s. -/
  answers : Bool := true
  /-- Custodian ID of INFO. -/
  custodian : BitVec 16 := 0
  /-- The card's signature verifies under the roster entry's key. -/
  sigOk : Bool := true
  /-- VERIFIED byte of AUTHENTICATE. -/
  verified : BitVec 8 := 1
  /-- The card was removed during the operation. -/
  removed : Bool := false
  /-- Component of GET_COMPONENT, `none` when its tag fails. -/
  component : Option Bytes := none
  deriving DecidableEq, Repr

/-- What one launch of a management command brings with it from outside (**R466**-**R468**). -/
structure LaunchEnv where
  /-- Bytes that the input DMA read from host memory delivers; `none` when the read fails. -/
  hostIn : Option Bytes := some []
  /-- A BAR0 and an SMBus write of MGT_CMD met in one cycle: the code the SMBus wrote (**R468**). -/
  dual : Option (BitVec 16) := none
  /-- Verdict on the signature block of the input. -/
  sig : Verdict := {}
  /-- Verdict on a firmware bundle's own signature block (**R371**). -/
  bundle : Verdict := {}
  /-- What the custodian card answers. -/
  card : CardReply := {}
  /-- Programmed flash reads back as written (**R58**). -/
  readBack : Bool := true
  /-- Flash bytes of the staged image read without an uncorrectable error (**R51** 0x02). -/
  flashOk : Bool := true
  /-- Tamper sources whose condition is present as an UNLOCK is checked (**R408**, TMP_ACTIVE). -/
  tmpActive : BitVec 11 := 0
  /-- Cells that fail a window of the start-up test at an exit from SLEEP (**R241** step 2). -/
  badCells : List Nat := []
  /-- The known-answer tests of **R241** step 3 pass at an exit from SLEEP. -/
  entKat : Bool := true
  deriving DecidableEq, Repr

/-- One launch: the path, the descriptor in MGT_DESC0-15 as it stands, and what comes from outside. -/
structure Launch where
  /-- The path of the MGT_CMD write. -/
  path : MPath := .bar0
  /-- MGT_DESC0-15 at the cycle of the write. -/
  desc : Desc := {}
  /-- The outside of the launch. -/
  env : LaunchEnv := {}
  deriving DecidableEq, Repr

/-- A write that reached a doorbell page of BAR2 (**R68**, **R308**). -/
structure DbWrite where
  /-- Doorbell page 0-255: the slice. -/
  page : BitVec 8 := 0
  /-- Queue number 0-15 of the doorbell. -/
  queue : BitVec 4 := 0
  /-- Width of the write in bytes. -/
  width : Nat := 4
  /-- The write is naturally aligned. -/
  aligned : Bool := true
  /-- The value written. -/
  value : Word := 0
  /-- PASID of the TLP prefix, if the request carries one. -/
  pasid : Option (BitVec 20) := none
  deriving DecidableEq, Repr

/-- One record of an LKU batch (**R272**), its operand of 32 bytes as eight words. -/
structure BatchRec where
  /-- Byte 0. -/
  op : BitVec 8 := 0
  /-- Byte 1. -/
  table : BitVec 8 := 0
  /-- Bytes 2-15 other than the result are zero. -/
  reservedZero : Bool := true
  /-- Bytes 16-47: eight words, least significant byte first. -/
  operand : List Word := []
  deriving DecidableEq, Repr

/-- What the checks of one image slot at a start find outside the model (**R51** 0x02, 0x07, 0x08). -/
structure SlotEnv where
  /-- Every byte within the recorded length reads. -/
  flashOk : Bool := true
  /-- Verdict on the signature block. -/
  sig : Verdict := {}
  deriving DecidableEq, Repr

/-- What a start meets outside the model (**R440**). -/
structure StartEnv where
  /-- Goral A passes its self-test and its firmware measures as its bundle says (**R413**). -/
  coreA : Bool := true
  /-- As `coreA`, Goral B. -/
  coreB : Bool := true
  /-- Slot A's checks. -/
  slotA : SlotEnv := {}
  /-- Slot B's checks. -/
  slotB : SlotEnv := {}
  /-- Cells that fail a window of the start-up test (**R241** step 2). -/
  badCells : List Nat := []
  /-- The known-answer tests of **R241** step 3 pass. -/
  entKat : Bool := true
  /-- The reserve capacitor reached its floor (**R440** step 1). -/
  capFloor : Bool := true
  /-- Retention kept its contents (false: the cell gave out). -/
  retention : Bool := true
  deriving DecidableEq, Repr

/-- The kinds of PCIe reset (**R475**, first row). -/
inductive PcieResetKind where
  | perst
  | hotReset
  | linkDown
  | flr
  deriving DecidableEq, Repr

/-- What one received fabric frame brought outside its body: the port, the sender's session and the checks that
the data mover made on it (**R278**, **R279**). -/
structure FrameHead where
  /-- Receiving port, 0 or 1. -/
  port : Nat := 0
  /-- SESSION field: index of the receiver's session. -/
  session : Nat := 0
  /-- MESSAGE field. -/
  message : Nat := 0
  /-- SEQUENCE field of the message's last frame. -/
  sequence : Nat := 0
  /-- ACK field. -/
  ack : Nat := 0
  /-- FLAGS.ENSIGN. -/
  ensign : Bool := false
  /-- The AES-256-GCM tag verified. -/
  tagOk : Bool := true
  /-- SENDER field: node ID. -/
  sender : Nat := 0
  /-- TX_TIME field. -/
  txTime : Nat := 0
  /-- Serialisation time of the message's frames at the receiving port's rate, ns. -/
  serial : Nat := 0
  deriving DecidableEq, Repr

/-- A membership certificate as the receiver reads it (**R281**). -/
structure Cert where
  /-- Magic, version and reserved fields are as **R281** says. -/
  formatOk : Bool := true
  /-- 1 node, 2 tenant endpoint. -/
  role : Nat := 1
  /-- Node: [0] may own, [1] may stand by. -/
  flags : BitVec 8 := 0
  /-- Cluster ID. -/
  cluster : BitVec 64 := 0
  /-- Node ID, or 0xFFFF. -/
  node : Nat := 0xFFFF
  /-- Slice of a tenant endpoint. -/
  slice : Nat := 0
  /-- Serial. -/
  serial : BitVec 64 := 0
  /-- Not before, seconds. -/
  notBefore : Nat := 0
  /-- Not after, seconds. -/
  notAfter : Nat := 0
  /-- Owner fingerprint. -/
  ownerFpr : Bytes := []
  /-- SHA-256 of the subject key: the identity fingerprint. -/
  fpr : Bytes := []
  deriving DecidableEq, Repr

/-- A handshake message SESSION HELLO, ACCEPT or FINISH as received (**R282**). -/
structure Handshake where
  /-- Body length, version and reserved fields are right. -/
  formatOk : Bool := true
  /-- Handshake ID of MESSAGE (**R283**). -/
  hid : BitVec 32 := 0
  /-- Receiving port. -/
  port : Nat := 0
  /-- The sender's session index. -/
  index : Nat := 0
  /-- The certificate carried. -/
  cert : Cert := {}
  /-- Verdict on the certificate's owner signature. -/
  certSig : Verdict := {}
  /-- The sender's signature and confirmation verify (**R285** SUBJECT). -/
  subjectOk : Bool := true
  /-- The sender is a tenant endpoint (SENDER 0xFFFF). -/
  tenant : Bool := false
  deriving DecidableEq, Repr

/-- A snapshot item (**R298**) as unsealed. -/
structure SnapItem where
  /-- 1 PUT, 2 DELETE, 3 LIMIT, 4 LARGE. -/
  kind : Nat := 1
  /-- Slice. -/
  slice : Nat := 0
  /-- Handle. -/
  handle : Nat := 0
  /-- LIMIT: the committed L. -/
  limit : Nat := 0
  /-- PUT: key record type, attributes, confirmation and material; LARGE: bytes. -/
  recType : Nat := 1
  /-- PUT: the 16 attribute bytes. -/
  attrs : Bytes := []
  /-- PUT: the confirmation block. -/
  confirm : Bytes := []
  /-- PUT: the material; with handle 0 and slice 0 the domain key set. -/
  material : Bytes := []
  /-- PUT: public half. -/
  pub : Bytes := []
  /-- PUT: header flags of **R358**. -/
  flags : BitVec 8 := 0
  /-- PUT: stamp. -/
  stamp : Nat := 0
  /-- PUT: lines of the large region. -/
  largeLines : Nat := 0
  /-- PUT: next index of a stateful key. -/
  nextIdx : Nat := 0
  deriving DecidableEq, Repr

/-- A triple (domain, pennant) of a burgee, its owner being the sender (**R289**). -/
structure Triple where
  /-- Domain ID. -/
  domain : Nat
  /-- Pennant. -/
  pennant : Nat
  deriving DecidableEq, Repr

/-- The body of a session BURGEE (**R289**). -/
structure Burgee where
  /-- FLAGS: [0] may own, [1] may stand by, [2] MTIME locked, [3] ACK_ONLY, [4] tentative, [5] READY. -/
  flags : BitVec 8 := 0
  /-- NODE. -/
  node : Nat := 0
  /-- T_E in units of 10 us. -/
  te : Nat := 25
  /-- DELAY_RX0. -/
  delay0 : Nat := 0xFFFFFFFF
  /-- DELAY_RX1. -/
  delay1 : Nat := 0xFFFFFFFF
  /-- The triples. -/
  triples : List Triple := []
  deriving DecidableEq, Repr

/-- A completion record's fields as a RESPONSE body carries them (**R78**, **R90**). -/
structure RespBody where
  /-- TAG: the forwarding tag. -/
  tag : BitVec 32 := 0
  /-- STATUS. -/
  status : BitVec 16 := 0
  /-- RETRIED flag. -/
  retried : Bool := false
  /-- METER_SKIPPED flag. -/
  skipped : Bool := false
  /-- DETAIL. -/
  detail : BitVec 32 := 0
  /-- OUT_LEN output bytes. -/
  output : Bytes := []
  deriving DecidableEq, Repr

/-- The commands and events of the module, one constructor for each row of the table. -/
inductive Instr where
  /-- SQ_TAIL_DOORBELL (**R68**): Host writes a submission queue tail doorbell in BAR2, arming descriptor fetch for that queue. -/
  | sqTailDoorbell (w : DbWrite)
  /-- CQ_HEAD_DOORBELL (**R73**): Host writes a completion queue head doorbell, freeing the completion entries before the new head. -/
  | cqHeadDoorbell (w : DbWrite)
  /-- DESCRIPTOR_FETCH (**R70**): The host data mover reads up to eight descriptors from a queue once a completion entry is free, reserving one completion entry per descriptor. -/
  | descriptorFetch
  /-- DESCRIPTOR_ARRIVAL (**R70**): The descriptor read completes; the descriptors are held and their input reads are issued or deferred by class. -/
  | descriptorArrival (slice : Nat) (queue : Nat) (descs : Option (List Desc))
  /-- LANDING_ROOM_FREED (**R309**): Room frees in a landing area and a waiting input read proceeds. -/
  | landingRoomFreed
  /-- REQUEST_LAND (**R71**): The last input byte of a request stands in scratchpad with the slice colour; T_E starts and the descriptor is checked and admitted or refused. -/
  | requestLand (rid : Nat) (input : Option Bytes)
  /-- TOKEN_REFILL (**R107**): Every 1 µs each slice bucket gains rate tokens exactly through its remainder, capped at the depth. -/
  | tokenRefill
  /-- NON_ENSIGN_DISPATCH (**R309**): A sequencer takes a held PENNON or STREAMER request, reserves its output and reads its input, landing it. -/
  | nonEnsignDispatch (seqr : Nat)
  /-- SEQUENCER_FREE (**R111**): A sequencer finishes a request and takes the next queued work by class and tenant order. -/
  | sequencerFree (seqr : Nat)
  /-- OPERATION_BOUNDARY (**R111**): An engine unit reaches an operation, chunk or segment boundary and takes its next operation. -/
  | operationBoundary (pool : Nat) (unit : Nat)
  /-- PIN_TRANSLATE (**R122**): Decodes a PIN block under KEY_A and re-encodes it in the output format under KEY_B. -/
  | pinTranslate (rid : Nat) (spUe : Option Nat)
  /-- PIN_VERIFY_PVV (**R124**): Verifies a PIN against a PIN verification value. -/
  | pinVerifyPvv (rid : Nat) (spUe : Option Nat)
  /-- PIN_VERIFY_OFFSET (**R125**): Verifies a PIN against an offset by the decimalisation method. -/
  | pinVerifyOffset (rid : Nat) (spUe : Option Nat)
  /-- PIN_VERIFY_COMPARE (**R126**): Compares a PIN block with a reference PIN block. -/
  | pinVerifyCompare (rid : Nat) (spUe : Option Nat)
  /-- PVV_GENERATE (**R124**): Generates a PIN verification value. -/
  | pvvGenerate (rid : Nat) (spUe : Option Nat)
  /-- OFFSET_GENERATE (**R125**): Generates a PIN offset. -/
  | offsetGenerate (rid : Nat) (spUe : Option Nat)
  /-- CVV_VERIFY (**R128**): Verifies a card verification value. -/
  | cvvVerify (rid : Nat) (spUe : Option Nat)
  /-- CVV_GENERATE (**R128**): Generates a card verification value. -/
  | cvvGenerate (rid : Nat) (spUe : Option Nat)
  /-- ARQC_VERIFY (**R129**): Verifies an EMV ARQC under a derived session key. -/
  | arqcVerify (rid : Nat) (spUe : Option Nat)
  /-- ARQC_VERIFY_ARPC (**R130**): Verifies an ARQC and then computes its ARPC. -/
  | arqcVerifyArpc (rid : Nat) (spUe : Option Nat)
  /-- ARPC_GENERATE (**R130**): Computes an ARPC without verifying the ARQC. -/
  | arpcGenerate (rid : Nat) (spUe : Option Nat)
  /-- SCRIPT_MAC (**R131**): Computes an EMV script MAC under a derived session key. -/
  | scriptMac (rid : Nat) (spUe : Option Nat)
  /-- SCRIPT_ENCRYPT (**R131**): Encrypts EMV script data under a derived session key. -/
  | scriptEncrypt (rid : Nat) (spUe : Option Nat)
  /-- MAC_GENERATE (**R133**): Generates an ISO 9797-1 or CMAC MAC. -/
  | macGenerate (rid : Nat) (spUe : Option Nat)
  /-- MAC_VERIFY (**R133**): Verifies an ISO 9797-1 or CMAC MAC in fixed time. -/
  | macVerify (rid : Nat) (spUe : Option Nat)
  /-- DUKPT_PIN_TRANSLATE (**R135**): Derives the DUKPT PIN key and translates the PIN block. -/
  | dukptPinTranslate (rid : Nat) (spUe : Option Nat)
  /-- DUKPT_MAC_VERIFY (**R136**): Verifies a MAC under a DUKPT-derived key. -/
  | dukptMacVerify (rid : Nat) (spUe : Option Nat)
  /-- DUKPT_DECRYPT (**R136**): Decrypts data under a DUKPT-derived key. -/
  | dukptDecrypt (rid : Nat) (spUe : Option Nat)
  /-- DUKPT_IK_EXPORT (**R136**): Exports a DUKPT initial key as a key block. -/
  | dukptIkExport (rid : Nat) (spUe : Option Nat)
  /-- ENCRYPT (**R159**): Encrypts data in ECB, CBC or CTR mode. -/
  | encrypt (rid : Nat) (spUe : Option Nat)
  /-- DECRYPT (**R159**): Decrypts data in ECB, CBC or CTR mode. -/
  | decrypt (rid : Nat) (spUe : Option Nat)
  /-- GCM_ENCRYPT (**R159**): Encrypts and tags data with AES-GCM. -/
  | gcmEncrypt (rid : Nat) (spUe : Option Nat)
  /-- GCM_DECRYPT (**R160**): Decrypts AES-GCM data and releases plaintext only after the tag matches. -/
  | gcmDecrypt (rid : Nat) (spUe : Option Nat)
  /-- KEY_IMPORT (**R142**): Imports an X9.143 key block and stores the key under KEY_B. -/
  | keyImport (rid : Nat) (spUe : Option Nat)
  /-- KEY_EXPORT (**R143**): Exports a key as an X9.143 key block under a K1 key. -/
  | keyExport (rid : Nat) (spUe : Option Nat)
  /-- KEY_GENERATE (**R137**): Generates a symmetric key with the given attributes. -/
  | keyGenerate (rid : Nat) (spUe : Option Nat)
  /-- KEY_DELETE (**R363**): Deletes a key's entry, commits the deletion and releases its lines. -/
  | keyDelete (rid : Nat) (spUe : Option Nat)
  /-- KEY_INFO (**R137**): Returns a key's attribute record and check value. -/
  | keyInfo (rid : Nat) (spUe : Option Nat)
  /-- KEY_COMPONENTS_COMBINE (**R150**): Combines custodian-delivered components into a stored key. -/
  | keyComponentsCombine (rid : Nat) (spUe : Option Nat)
  /-- KEY_ATTEST (**R370**): Outputs a key statement signed by the layer key. -/
  | keyAttest (rid : Nat) (spUe : Option Nat)
  /-- PUBLIC_KEY_IMPORT (**R182**): Validates and stores a public key. -/
  | publicKeyImport (rid : Nat) (spUe : Option Nat)
  /-- PUBLIC_KEY_EXPORT (**R182**): Outputs the public key or public half of a key pair. -/
  | publicKeyExport (rid : Nat) (spUe : Option Nat)
  /-- SHA256_BLOCKS (**R164**): Applies SHA-256 compressions to a supplied state. -/
  | sha256Blocks (rid : Nat) (spUe : Option Nat)
  /-- SHA512_BLOCKS (**R164**): Applies SHA-512 compressions to a supplied state. -/
  | sha512Blocks (rid : Nat) (spUe : Option Nat)
  /-- KECCAK_ABSORB (**R164**): Absorbs blocks into a Keccak state. -/
  | keccakAbsorb (rid : Nat) (spUe : Option Nat)
  /-- KECCAK_SQUEEZE (**R164**): Squeezes output blocks from a Keccak state. -/
  | keccakSqueeze (rid : Nat) (spUe : Option Nat)
  /-- HMAC_GENERATE (**R165**): Generates an HMAC from stored inner and outer states. -/
  | hmacGenerate (rid : Nat) (spUe : Option Nat)
  /-- HMAC_VERIFY (**R165**): Verifies an HMAC in fixed time. -/
  | hmacVerify (rid : Nat) (spUe : Option Nat)
  /-- RANDOM (**R85**): Returns OUT_CAP random bytes from the class's DRBG instances. -/
  | random (rid : Nat) (spUe : Option Nat)
  /-- RSA_SIGN (**R178**): Signs a digest with a blinded RSA CRT private key and checks the result. -/
  | rsaSign (rid : Nat) (spUe : Option Nat)
  /-- RSA_VERIFY (**R178**): Verifies an RSA signature. -/
  | rsaVerify (rid : Nat) (spUe : Option Nat)
  /-- RSA_DECRYPT (**R186**): Decrypts with RSA using implicit rejection or OAEP. -/
  | rsaDecrypt (rid : Nat) (spUe : Option Nat)
  /-- RSA_ENCRYPT (**R178**): Encrypts with an RSA public key. -/
  | rsaEncrypt (rid : Nat) (spUe : Option Nat)
  /-- RSA_KEYGEN (**R178**): Generates an RSA key pair. -/
  | rsaKeygen (rid : Nat) (spUe : Option Nat)
  /-- ECDSA_SIGN (**R179**): Signs a digest with ECDSA. -/
  | ecdsaSign (rid : Nat) (spUe : Option Nat)
  /-- ECDSA_VERIFY (**R185**): Verifies an ECDSA signature. -/
  | ecdsaVerify (rid : Nat) (spUe : Option Nat)
  /-- EDDSA_SIGN (**R179**): Signs a message with Ed25519 or Ed448. -/
  | eddsaSign (rid : Nat) (spUe : Option Nat)
  /-- EDDSA_VERIFY (**R185**): Verifies an EdDSA signature by the cofactored equation. -/
  | eddsaVerify (rid : Nat) (spUe : Option Nat)
  /-- ECDH_DERIVE (**R179**): Derives a shared secret and stores it as a symmetric key. -/
  | ecdhDerive (rid : Nat) (spUe : Option Nat)
  /-- EC_KEYGEN (**R179**): Generates an elliptic-curve key pair. -/
  | ecKeygen (rid : Nat) (spUe : Option Nat)
  /-- MOD_EXP (**R178**): Computes a public modular exponentiation. -/
  | modExp (rid : Nat) (spUe : Option Nat)
  /-- MOD_MUL (**R178**): Computes a public modular multiplication. -/
  | modMul (rid : Nat) (spUe : Option Nat)
  /-- MLKEM_KEYGEN (**R203**): Generates an ML-KEM key pair. -/
  | mlkemKeygen (rid : Nat) (spUe : Option Nat)
  /-- MLKEM_ENCAPS (**R203**): Encapsulates to an ML-KEM key. -/
  | mlkemEncaps (rid : Nat) (spUe : Option Nat)
  /-- MLKEM_DECAPS (**R205**): Decapsulates in shares with implicit rejection. -/
  | mlkemDecaps (rid : Nat) (spUe : Option Nat)
  /-- MLDSA_KEYGEN (**R207**): Generates an ML-DSA key pair. -/
  | mldsaKeygen (rid : Nat) (spUe : Option Nat)
  /-- MLDSA_SIGN (**R209**): Signs with masked ML-DSA through the rejection loop. -/
  | mldsaSign (rid : Nat) (spUe : Option Nat) (iters : Nat)
  /-- MLDSA_VERIFY (**R210**): Verifies an ML-DSA signature. -/
  | mldsaVerify (rid : Nat) (spUe : Option Nat)
  /-- SLHDSA_KEYGEN (**R214**): Generates an SLH-DSA key pair. -/
  | slhdsaKeygen (rid : Nat) (spUe : Option Nat)
  /-- SLHDSA_SIGN (**R214**): Signs with SLH-DSA and verifies before release. -/
  | slhdsaSign (rid : Nat) (spUe : Option Nat)
  /-- SLHDSA_VERIFY (**R214**): Verifies an SLH-DSA signature. -/
  | slhdsaVerify (rid : Nat) (spUe : Option Nat)
  /-- STATEFUL_KEYGEN (**R217**): Generates a stateful hash-based key and stores its tree nodes. -/
  | statefulKeygen (rid : Nat) (spUe : Option Nat)
  /-- STATEFUL_SIGN (**R218**): Allocates and burns an index and signs with a stateful key. -/
  | statefulSign (rid : Nat) (spUe : Option Nat)
  /-- STATEFUL_VERIFY (**R220**): Verifies a stateful hash-based signature. -/
  | statefulVerify (rid : Nat) (spUe : Option Nat)
  /-- STATEFUL_REMAINING (**R220**): Returns the indices not yet burned. -/
  | statefulRemaining (rid : Nat) (spUe : Option Nat)
  /-- HQC_KEYGEN (**R222**): Generates an HQC key pair. -/
  | hqcKeygen (rid : Nat) (spUe : Option Nat)
  /-- HQC_ENCAPS (**R222**): Encapsulates to an HQC key. -/
  | hqcEncaps (rid : Nat) (spUe : Option Nat)
  /-- HQC_DECAPS (**R223**): Decapsulates HQC with implicit rejection. -/
  | hqcDecaps (rid : Nat) (spUe : Option Nat)
  /-- MCELIECE_KEYGEN (**R224**): Generates a Classic McEliece key pair on dedicated lanes by repeated attempts. -/
  | mcelieceKeygen (rid : Nat) (spUe : Option Nat)
  /-- MCELIECE_ENCAPS (**R222**): Encapsulates to a stored Classic McEliece key. -/
  | mcelieceEncaps (rid : Nat) (spUe : Option Nat)
  /-- MCELIECE_DECAPS (**R223**): Decapsulates Classic McEliece with implicit rejection. -/
  | mcelieceDecaps (rid : Nat) (spUe : Option Nat)
  /-- HYBRID_KEM_KEYGEN (**R226**): Generates an ML-KEM-768 and X25519 key pair. -/
  | hybridKemKeygen (rid : Nat) (spUe : Option Nat)
  /-- HYBRID_ENCAPS (**R226**): Encapsulates to a hybrid key and combines the secrets. -/
  | hybridEncaps (rid : Nat) (spUe : Option Nat)
  /-- HYBRID_DECAPS (**R226**): Decapsulates a hybrid ciphertext and combines the secrets. -/
  | hybridDecaps (rid : Nat) (spUe : Option Nat)
  /-- HYBRID_SIGN_KEYGEN (**R227**): Generates an ML-DSA-65 and P-256 key pair. -/
  | hybridSignKeygen (rid : Nat) (spUe : Option Nat)
  /-- HYBRID_SIGN (**R227**): Produces both hybrid signatures. -/
  | hybridSign (rid : Nat) (spUe : Option Nat) (iters : Nat)
  /-- HYBRID_VERIFY (**R87**): Verifies both hybrid signatures and returns OK only if both verify. -/
  | hybridVerify (rid : Nat) (spUe : Option Nat)
  /-- ECHO (**R323**): Returns its input. -/
  | echo (rid : Nat) (spUe : Option Nat)
  /-- METER_LATCH (**R321**): Latches the tenant's own slice metering interval. -/
  | meterLatch (rid : Nat) (spUe : Option Nat)
  /-- METER_READ (**R323**): Returns the newest ring entries of the slice. -/
  | meterRead (rid : Nat) (spUe : Option Nat)
  /-- SLICE_INFO (**R323**): Returns the slice's budget, queue and token state. -/
  | sliceInfo (rid : Nat) (spUe : Option Nat)
  /-- CORE_COMPLETION_INTERRUPT (**R194**): A core finishing a detached operation places a completion task in its class queue. -/
  | coreCompletionInterrupt (pool : Nat) (unit : Nat)
  /-- RELEASE_STEP (**R194**): A free sequencer takes a completion task, formats the output and writes the completion. -/
  | releaseStep (seqr : Nat)
  /-- REQUEST_FORWARD (**R293**): A sequencer runs forwarding microcode and the fabric data mover sends the REQUEST to the owner. -/
  | requestForward (rid : Nat)
  /-- BLIND_WAIT_RESUME (**R188**): A command waiting for blocked consumer 3 starts when blinding is available again. -/
  | blindWaitResume
  /-- RNG_WAIT_RESUME (**R244**): A command waiting for a consumer-2 instance at its hard stop proceeds after a reseed. -/
  | rngWaitResume
  /-- POWER_STATE_RUN (**R435**): Moves the module from READY to RUN, arming admission, unless RUN_HOLD forbids. -/
  | powerStateRun (l : Launch)
  /-- POWER_STATE_READY (**R436**): Moves to READY: from RUN disarming and draining, from SLEEP training the link and running entropy start-up. -/
  | powerStateReady (l : Launch)
  /-- POWER_STATE_SLEEP (**R437**): Moves from READY to SLEEP, closing sessions and taking the link and ports down. -/
  | powerStateSleep (l : Launch)
  /-- READY_DRAIN_DONE (**R436**): When no request remains in execution engine clocks stop and vault memory enters self-refresh. -/
  | readyDrainDone
  /-- IMAGE_STAGE (**R58**): Programs one chunk of a new image into the inactive slot; the last chunk writes the staged record. -/
  | imageStage (l : Launch)
  /-- IMAGE_ACTIVATE (**R59**): Checks the staged image, re-seals, commits and applies it, remaining READY. -/
  | imageActivate (l : Launch)
  /-- QUEUE_CREATE (**R67**): Creates a slice queue pair with a PASID. -/
  | queueCreate (l : Launch)
  /-- QUEUE_DELETE (**R67**): Deletes a queue with no outstanding request. -/
  | queueDelete (l : Launch)
  /-- SLICE_RESET_DRAIN (**R313**): Resets a slice after letting its fetched requests complete. -/
  | sliceResetDrain (l : Launch)
  /-- SLICE_RESET_SQUASH (**R313**): Resets a slice ending its uncompleted requests with TENANT_RESET. -/
  | sliceResetSquash (l : Launch)
  /-- SLICE_RESET_DONE (**R312**): A RESETTING slice with no outstanding transfer releases its lines, removes queues and returns to ACTIVE. -/
  | sliceResetDone (slice : Nat)
  /-- SLICE_FREEZE (**R312**): Stops fetching for a slice and drains its in-flight work. -/
  | sliceFreeze (l : Launch)
  /-- SLICE_FREEZE_DONE (**R312**): The freeze drain ends and the slice becomes FROZEN. -/
  | sliceFreezeDone (slice : Nat)
  /-- SLICE_THAW (**R312**): Returns a FROZEN slice to ACTIVE and resumes fetching. -/
  | sliceThaw (l : Launch)
  /-- SLICE_SAVE (**R316**): Seals a frozen slice into a blob for a target offer. -/
  | sliceSave (l : Launch)
  /-- SLICE_RESTORE_PREPARE (**R315**): Generates and outputs a signed migration offer. -/
  | sliceRestorePrepare (l : Launch)
  /-- SLICE_RESTORE (**R318**): Restores a slice from a blob, re-creating its queues. -/
  | sliceRestore (l : Launch)
  /-- DRAIN_CEILING_EXPIRY (**R313**): A PENNON or STREAMER request still running when the drain ceiling passes is ended. -/
  | drainCeilingExpiry (slice : Option Nat)
  /-- OFFER_EXPIRY (**R315**): A held migration offer is discarded at its expiry. -/
  | offerExpiry (slice : Nat)
  /-- ROSTER_RESERVATION_EXPIRY (**R318**): The 60 s session places reserved for roster endpoints lapse. -/
  | rosterReservationExpiry (slice : Nat)
  /-- METER_LATCH_ALL (**R321**): Latches every enabled slice's metering interval. -/
  | meterLatchAll (l : Launch)
  /-- MINUTE_LATCH (**R321**): At each 60 s MTIME boundary every enabled slice's counters switch interval. -/
  | minuteLatch
  /-- RING_ENTRY_WRITTEN (**R321**): A closed interval is written to the slice's ring. -/
  | ringEntryWritten (slice : Nat)
  /-- LOG_CLEAR_MAIN (**R427**): Empties the main logbook under dual control. -/
  | logClearMain (l : Launch)
  /-- LOG_CLEAR_RESERVE (**R427**): Empties the reserve logbook under dual control. -/
  | logClearReserve (l : Launch)
  /-- LOG_CLEAR_BOTH (**R427**): Empties both logbooks under dual control. -/
  | logClearBoth (l : Launch)
  /-- WARDEN_SWITCHBACK (**R417**): Makes a planned Warden fail-over to the standby core. -/
  | wardenSwitchback (l : Launch)
  /-- UNLOCK (**R408**): Lifts a lock under two approvals, resealing a new vault seed after an erase. -/
  | unlock (l : Launch)
  /-- LIFECYCLE_REQUEST_INTEGRATOR (**R385**): Moves MAKER to INTEGRATOR, burning DS and deriving the identity. -/
  | lifecycleRequestIntegrator (l : Launch)
  /-- LIFECYCLE_REQUEST_FIELDED (**R385**): Moves INTEGRATOR to FIELDED under a signed request. -/
  | lifecycleRequestFielded (l : Launch)
  /-- LIFECYCLE_REQUEST_RETURNED (**R385**): Moves FIELDED to RETURNED, erasing user secrets first. -/
  | lifecycleRequestReturned (l : Launch)
  /-- SCRAP (**R385**): Moves any state to SCRAPPED, erasing secrets and killing DS. -/
  | scrap (l : Launch)
  /-- LCS_ENERGY_WAIT (**R384**): A transition whose capacitor charge is still short after 1 s completes with REFUSED_STATE. -/
  | lcsEnergyWait
  /-- OWNER_ENROL (**R365**): Enrols the owner root. -/
  | ownerEnrol (l : Launch)
  /-- OWNER_ENROL_ROSTER (**R366**): Installs a custodian roster, discarding held approvals. -/
  | ownerEnrolRoster (l : Launch)
  /-- IDENTITY_ATTEST (**R369**): Outputs a signed identity statement. -/
  | identityAttest (l : Launch)
  /-- VAULT_RESEAL_STAGE (**R371**): Writes a firmware bundle chunk into the inactive firmware slot. -/
  | vaultResealStage (l : Launch)
  /-- VAULT_RESEAL_COMMIT (**R372**): Checks the staged bundle and seals VS to the new measurements. -/
  | vaultResealCommit (l : Launch)
  /-- VAULT_RESEAL_ABANDON (**R371**): Generates and seals a new VS and erases the key store. -/
  | vaultResealAbandon (l : Launch)
  /-- VAULT_REKEY (**R373**): Starts replacing the vault seed and re-encrypting vault memory. -/
  | vaultRekey (l : Launch)
  /-- REKEY_RANGE_DONE (**R373**): A 16 MiB range is re-encrypted; after the last, key sets and slot records are rewritten. -/
  | rekeyRangeDone
  /-- CUSTODIAN_SESSION_OPEN (**R367**): Authenticates a custodian card and opens a session. -/
  | custodianSessionOpen (l : Launch)
  /-- CUSTODIAN_SESSION_APPROVE (**R147**): Has the card sign an approval, optionally fetching a component. -/
  | custodianSessionApprove (l : Launch)
  /-- CUSTODIAN_SESSION_WITHDRAW (**R147**): Withdraws a held approval. -/
  | custodianSessionWithdraw (l : Launch)
  /-- CUSTODIAN_SESSION_CLOSE (**R147**): Closes a custodian session. -/
  | custodianSessionClose (l : Launch)
  /-- CUSTODIAN_SESSION_STATUS (**R147**): Lists held approvals. -/
  | custodianSessionStatus (l : Launch)
  /-- MEMBERSHIP_INSTALL (**R304**): Installs a membership certificate and seeds and rekeys sessions. -/
  | membershipInstall (l : Launch)
  /-- DOMAIN_CREATE (**R296**): Creates a domain from an owner-signed grant and claims it. -/
  | domainCreate (l : Launch)
  /-- DOMAIN_SET_STANDBY (**R296**): Names a new standby and claims with pennant + 1. -/
  | domainSetStandby (l : Launch)
  /-- DOMAIN_HANDOVER (**R302**): Sends a final delta and asks the standby to claim the domain. -/
  | domainHandover (l : Launch)
  /-- ENGINE_ABORT (**R195**): Stops and clears a unit, ending its commands with ABORTED. -/
  | engineAbort (l : Launch)
  /-- LKU_TRIE_INSERT (**R253**): Inserts a prefix into the trie. -/
  | lkuTrieInsert (index : BitVec 16) (irq : Bool)
  /-- LKU_TRIE_DELETE (**R253**): Deletes a prefix from the trie. -/
  | lkuTrieDelete (index : BitVec 16) (irq : Bool)
  /-- LKU_TRIE_REPLACE (**R270**): Replaces a prefix's domain. -/
  | lkuTrieReplace (index : BitVec 16) (irq : Bool)
  /-- LKU_TRIE_READ (**R270**): Reads a prefix's domain. -/
  | lkuTrieRead (index : BitVec 16) (irq : Bool)
  /-- LKU_TRIE_SEARCH (**R254**): Searches the trie for a PAN. -/
  | lkuTrieSearch (index : BitVec 16) (irq : Bool)
  /-- LKU_EM_INSERT (**R265**): Inserts an exact-match entry after checking the record line. -/
  | lkuEmInsert (index : BitVec 16) (irq : Bool)
  /-- LKU_EM_DELETE (**R266**): Deletes an exact-match entry. -/
  | lkuEmDelete (index : BitVec 16) (irq : Bool)
  /-- LKU_EM_REPLACE (**R266**): Replaces an exact-match entry whole. -/
  | lkuEmReplace (index : BitVec 16) (irq : Bool)
  /-- LKU_EM_READ (**R270**): Reads an exact-match entry. -/
  | lkuEmRead (index : BitVec 16) (irq : Bool)
  /-- LKU_DOMAIN_READ (**R270**): Reads a domain-table entry. -/
  | lkuDomainRead (index : BitVec 16) (irq : Bool)
  /-- LKU_PEER_READ (**R270**): Reads a peer-table entry. -/
  | lkuPeerRead (index : BitVec 16) (irq : Bool)
  /-- LKU_STASH_READ (**R270**): Reads a stash entry. -/
  | lkuStashRead (index : BitVec 16) (irq : Bool)
  /-- LKU_BATCH (**R272**): Processes records of lookup operations from host memory in order. -/
  | lkuBatch (irq : Bool) (records : Option (List BatchRec))
  /-- STASH_RETRY (**R266**): Every 1 ms and after each freeing delete the unit tries to move stash entries into buckets. -/
  | stashRetry
  /-- TRIE_NODE_FREE (**R273**): An unlinked trie node is freed 0.6 µs after its unlink. -/
  | trieNodeFree
  /-- TRIE_SCRUB (**R256**): The trie words are scrubbed once per second, correcting single-bit errors. -/
  | trieScrub (node : Nat) (word : Nat) (bits : Nat)
  /-- TMP_FUSE_CMD (**R405**): A write requests permanent disabling of a tamper source by fuse. -/
  | tmpFuseCmd (key : BitVec 16) (source : BitVec 8)
  /-- FUSE_BURN_DONE (**R444**): A fuse burn outside a transition completes and its result is read back. -/
  | fuseBurnDone (readBack : Bool)
  /-- ENT_RAW_CTRL (**R247**): A write enables or disables raw sample capture of a cell. -/
  | entRawCtrl (path : MPath) (value : Word)
  /-- ENT_RAW_DATA (**R247**): A read returns and removes the oldest captured word. -/
  | entRawData (path : MPath)
  /-- LOG_SEL (**R431**): A write selects a logbook record to fetch into the window. -/
  | logSel (path : MPath) (value : Word)
  /-- LOG_SEL_FETCH_DONE (**R431**): The selected record stands in the window and BUSY clears. -/
  | logSelFetchDone
  /-- PWR_CELL_FAULT_CLEAR (**R455**): Clearing a latched cell fault bit makes the charger re-enter its phase. -/
  | pwrCellFaultClear (path : MPath) (value : Word)
  /-- REG64_LOW_READ (**R11**): A read of a 64-bit register's low word latches its high word. -/
  | reg64LowRead (path : MPath) (offset : Nat)
  /-- REGISTER_ACCESS_INVALID (**R11**): An access of wrong width or alignment reads zero, writes nothing and is logged. -/
  | registerAccessInvalid (path : MPath) (offset : Nat) (width : Nat) (write : Bool)
  /-- REGISTER_WRITE (**R13**): A host write to a register without its own row applies by access type, ignoring RO, post-load RWI and WDN fields. -/
  | registerWrite (path : MPath) (offset : Nat) (value : Word) (env : LaunchEnv)
  /-- MSIX_UNMASK (**R471**): Unmasking a vector sends a message pending in the PBA. -/
  | msixUnmask (vector : Nat)
  /-- PASID_UNMAPPED (**R308**): A BAR2 request with an unmapped or foreign PASID is refused as completer abort and logged. -/
  | pasidUnmapped (page : BitVec 8) (pasid : BitVec 20) (posted : Bool)
  /-- PCIE_REQUEST_REFUSED (**R464**): A BAR request before the IDE stream is Secure receives Unsupported Request or is discarded. -/
  | pcieRequestRefused (bar : Nat) (posted : Bool)
  /-- CONFIG_REQUEST (**R476**): A configuration request before READY receives Configuration Request Retry Status. -/
  | configRequest (offset : Nat) (pasid : Option Bool)
  /-- PCIE_RESET (**R475**): PERST_N, hot reset, link down or FLR resets the host path and removes slice queues. -/
  | pcieReset (kind : PcieResetKind)
  /-- PERST_N_RELEASE (**R476**): After PERST_N release the link trains and configuration succeeds within 100 ms. -/
  | perstNRelease
  /-- D3HOT_ENTRY (**R465**): The function enters D3hot and issues no DMA. -/
  | d3hotEntry
  /-- D0_RETURN (**R465**): Return to D0 from D3hot resets the host path. -/
  | d0Return
  /-- BUS_MASTER_DISABLE (**R465**): Clearing Bus Master Enable stops DMA. -/
  | busMasterDisable
  /-- PASID_ENABLE_CLEAR (**R463**): Clearing PASID Enable while queues exist resets the host path. -/
  | pasidEnableClear
  /-- SPDM_MESSAGE (**R464**): An SPDM or IDE_KM object on the DOE mailbox is processed, including key programming. -/
  | spdmMessage (secured : Bool) (keyProg : Bool)
  /-- IDE_STREAM_SECURE (**R464**): The IDE stream enters the Secure state and DMA may run. -/
  | ideStreamSecure
  /-- IDE_STREAM_INSECURE (**R464**): The IDE stream leaves the Secure state and DMA stops. -/
  | ideStreamInsecure
  /-- MOD_RST_N (**R475**): A module warm reset held 10 µs starts the module with cause 3, keeping vault memory. -/
  | modRstN (low : Nat) (taken : Bool) (env : StartEnv)
  /-- SMBUS_TELEMETRY (**R474**): Returns the 32-byte telemetry block. -/
  | smbusTelemetry (pec : Bool)
  /-- SMBUS_POWER (**R473**): Launches POWER_STATE with a module-built descriptor. -/
  | smbusPower (target : BitVec 8) (pec : Bool)
  /-- SMBUS_SET_ADDR (**R473**): Sets the BAR0 offset for SMBus access. -/
  | smbusSetAddr (addr : Word) (pec : Bool)
  /-- SMBUS_READ (**R473**): Reads 4 bytes at the address and advances it. -/
  | smbusRead
  /-- SMBUS_WRITE (**R473**): Writes 4 bytes to a permitted MGT_ address and advances it. -/
  | smbusWrite (value : Word) (pec : Bool) (env : LaunchEnv)
  /-- SMBUS_READ_BURST (**R473**): Reads 32 bytes at the address and advances it. -/
  | smbusReadBurst
  /-- SMBUS_WRITE_BURST (**R473**): Writes 32 bytes to a permitted MGT_ address and advances it. -/
  | smbusWriteBurst (values : List Word) (pec : Bool) (env : LaunchEnv)
  /-- SMBUS_UNKNOWN_COMMAND (**R472**): An unknown command byte or bad PEC is NACKed with no effect. -/
  | smbusUnknownCommand (byte : BitVec 8)
  /-- LCS_READ (**R391**): JTAG instruction returning the life-cycle copies and state. -/
  | lcsRead
  /-- DBG_CHALLENGE (**R391**): JTAG instruction returning the fingerprint and a fresh nonce. -/
  | dbgChallenge
  /-- DBG_AUTH (**R390**): JTAG instruction taking a debug authorisation and opening its scope in RETURNED. -/
  | dbgAuth (auth : Bytes) (sig : Verdict)
  /-- DBG_STATUS (**R391**): JTAG instruction returning the debug authorisation status. -/
  | dbgStatus
  /-- DBG_MEM (**R389**): JTAG instruction making a debug master access through its MPU. -/
  | dbgMem (addr : Nat) (len : Nat) (data : Option Bytes)
  /-- EXTEST (**R491**): Boundary-scan external test outside RUN. -/
  | extest
  /-- SAMPLE_PRELOAD (**R491**): Boundary-scan sample and preload. -/
  | samplePreload
  /-- IDCODE (**R492**): Returns the fixed IDCODE 0x1726_054B. -/
  | idcode
  /-- HIGHZ (**R491**): Places outputs at high impedance outside RUN. -/
  | highz
  /-- CLAMP (**R491**): Clamps outputs from the boundary register outside RUN. -/
  | clamp
  /-- EXTEST_PULSE (**R491**): IEEE 1149.6 pulse test outside RUN. -/
  | extestPulse
  /-- EXTEST_TRAIN (**R491**): IEEE 1149.6 train test outside RUN. -/
  | extestTrain
  /-- BYPASS (**R491**): Selects the bypass register, also for any unpermitted instruction. -/
  | bypass
  /-- TAP_RESET (**R493**): TRST_N low holds the TAP in reset, selecting IDCODE. -/
  | tapReset
  /-- VIN_VALID (**R440**): VIN valid starts the module from OFF or RESERVE through the start sequence. -/
  | vinValid (env : StartEnv)
  /-- DOMAIN_RELOAD_LOCAL (**R362**): After sessions form and a burgee from every alive peer arrives, stored domains are written LOCAL. -/
  | domainReloadLocal (domain : Nat)
  /-- START_END_TIMEOUT (**R441**): A cluster member waiting for burgees ends its start at the 3.0 s bound. -/
  | startEndTimeout
  /-- VIN_LOCKOUT (**R445**): Undervoltage or overvoltage lockout switches to the reserve and clears secrets. -/
  | vinLockout (mv : Nat) (cellMv : Nat) (tempMax : Int)
  /-- RESERVE_ENTRY (**R445**): After any running burn completes the Warden and sideband domains go off and the module is in RESERVE. -/
  | reserveEntry
  /-- RESERVE_EXHAUSTION (**R407**): The cell falls below cut-off or is removed, confirming an ERASE_LOCK and powering down. -/
  | reserveExhaustion (cellMv : Nat)
  /-- CAP_FLOOR_REACHED (**R443**): The reserve capacitor reaches its 16 mJ floor. -/
  | capFloorReached
  /-- CAP_FULL_REACHED (**R443**): The reserve capacitor reaches full charge, letting a transition start. -/
  | capFullReached
  /-- CELL_TEMP_READING (**R448**): The thermistor is read and the charger derates, holds or steps down its current. -/
  | cellTempReading (ohms : Nat) (temp : Int)
  /-- CHARGE_STEP_RESTORE (**R451**): After 10 min with a rise below 3 °C one current step is restored. -/
  | chargeStepRestore
  /-- CHARGER_PHASE_CHANGE (**R449**): The cell reaches cut-off, the CV level, termination or a recharge threshold and the phase changes. -/
  | chargerPhaseChange (cellMv : Nat) (cellUa : Int)
  /-- PRECHARGE_TIMEOUT (**R455**): Cut-off not reached in 30 min stops charging. -/
  | prechargeTimeout
  /-- CHARGE_TIMEOUT (**R455**): CC and CV exceed their limit and charging stops. -/
  | chargeTimeout
  /-- CELL_FAULT (**R455**): A cell fault appears, setting its bit, CELL_FAULT_N and a record. -/
  | cellFault (code : Nat)
  /-- CELL_FAULT_RECHECK (**R455**): Every 60 s a non-latched cell fault is rechecked. -/
  | cellFaultRecheck (cellMv : Nat) (ohms : Nat)
  /-- CELL_INSERTED (**R454**): A cell becomes present again and the gauge resets to rated. -/
  | cellInserted (cellMv : Nat)
  /-- COULOMB_COUNTER_TICK (**R453**): Every 1 s the counter integrates cell current. -/
  | coulombCounterTick (ua : Int)
  /-- QEST_DAILY_UPDATE (**R454**): Each day Q_est loses its temperature-weighted calendar term. -/
  | qestDailyUpdate (meanTemp : Int)
  /-- UNIT_CLOCK_STOP (**R438**): A unit's clock stops after 2 µs without an operation. -/
  | unitClockStop (pool : Nat) (unit : Nat)
  /-- JUNCTION_TEMP_SAMPLE (**R104**): Every 1 ms junction temperature is sampled and the throttle level may rise or fall. -/
  | junctionTempSample (temps : List Int)
  /-- KNOWN_ANSWER_TEST (**R166**): Every 100 ms each unit runs a known-answer test at a boundary. -/
  | knownAnswerTest (pool : Nat) (unit : Nat) (pass : Bool)
  /-- UNIT_CHECK_FAILURE (**R190**): A release check or parity failure retires the unit and re-executes its operations elsewhere. -/
  | unitCheckFailure (pool : Nat) (unit : Nat) (cause : Nat)
  /-- SPARE_SWITCH_IN (**R190**): The Warden switches a spare in under the retired unit's logical number. -/
  | spareSwitchIn (pool : Nat) (unit : Nat)
  /-- MASK_RESEED (**R157**): Every 1 ms each AES and Markhor lane mask generator is reseeded from consumer 3. -/
  | maskReseed (pool : Nat) (unit : Nat)
  /-- HEALTH_WINDOW_END (**R234**): Each 1,024-sample window of a cell is judged by the repetition and proportion tests. -/
  | healthWindowEnd (cell : Nat) (samples : List Bool)
  /-- BALANCING_PERIOD_END (**R233**): Each 4,096-sample period adjusts the cell trim. -/
  | balancingPeriodEnd (cell : Nat) (ones : Nat)
  /-- SEED_BLOCK_CLOSE (**R236**): A seed block reaching 384 credited bits is derived into a ready seed. -/
  | seedBlockClose
  /-- ENT_CHECKPOINT (**R238**): Every 10 ms the Warden compares cell counters and retires failing cells. -/
  | entCheckpoint
  /-- RESEED_DUE (**R243**): An instance's calls reach the interval or 1 s passes since its reseed. -/
  | reseedDue (inst : Nat)
  /-- DRBG_RESEED (**R243**): At a call boundary with a seed ready a due instance reseeds. -/
  | drbgReseed (inst : Nat)
  /-- DRBG_WARDEN_REINSTANTIATE (**R246**): After a LOCK the consumer-4 instances are re-instantiated from new seeds. -/
  | drbgWardenReinstantiate
  /-- SCRUB_READ (**R346**): Patrol scrub reads and corrects the next vault line. -/
  | scrubRead (symbols : Nat)
  /-- ROW_REMAP_COPY_DONE (**R347**): The row copy completes and accesses move to the reserve row. -/
  | rowRemapCopyDone
  /-- KEY_STORE_COMMIT (**R360**): Every 2 ms pending record changes commit to the flash key store. -/
  | keyStoreCommit
  /-- KEY_STORE_COMPACTION (**R360**): The log-structured key store is compacted between commits. -/
  | keyStoreCompaction
  /-- CARD_INSERTED (**R144**): A card-present contact held low for 10 ms reports insertion. -/
  | cardInserted (port : Nat)
  /-- CARD_REMOVED (**R486**): Card removal deactivates the card and closes its session. -/
  | cardRemoved (port : Nat)
  /-- CARD_OVERCURRENT (**R486**): A card drawing above the limit is deactivated. -/
  | cardOvercurrent (port : Nat)
  /-- CARD_TIMEOUT (**R367**): A card silent for 5 s ends its session. -/
  | cardTimeout (port : Nat)
  /-- CARD_SESSION_EXPIRY (**R367**): A card session key is cleared 900 s after OPEN. -/
  | cardSessionExpiry (port : Nat)
  /-- APPROVAL_WINDOW_EXPIRY (**R149**): A held approval is discarded when its window expires. -/
  | approvalWindowExpiry (number : Nat)
  /-- TAMPER_ALARM (**R395**): A monitor confirms an alarm and its response locks and possibly erases. -/
  | tamperAlarm (source : Nat) (detail : Word)
  /-- SEED_KILL_DONE (**R398**): The seed kill programs the wrapped-seed fields to zero and sets SEED_KILLED. -/
  | seedKillDone
  /-- WARDEN_CORE_FAILURE (**R414**): Watchdog, lockup, memory error, self-test or measure failure fails the active core and the standby takes over. -/
  | wardenCoreFailure (cause : Nat) (standbyOk : Bool) (selfTest : Bool)
  /-- FAILED_CORE_SELF_TEST (**R417**): The unpowered failed core is self-tested and becomes standby or retired. -/
  | failedCoreSelfTest (pass : Bool)
  /-- WARDEN_CHECKPOINT (**R415**): Every 10 ms and after each state change a checkpoint is written. -/
  | wardenCheckpoint
  /-- LOG_STAGING_FLUSH (**R424**): The Warden writes staged events into the main logbook. -/
  | logStagingFlush
  /-- PORT_LINK_CHANGE (**R276**): A fabric port link comes up or goes down after negotiation. -/
  | portLinkChange (port : Nat) (up : Bool)
  /-- PAUSE_FRAME (**R276**): An IEEE 802.3 PAUSE frame pauses transmission. -/
  | pauseFrame (port : Nat) (on : Bool)
  /-- ADDRESS_RESOLUTION (**R276**): An ARP request or neighbour solicitation for the module's address is answered. -/
  | addressResolution (port : Nat) (own : Bool)
  /-- FOREIGN_FRAME (**R276**): A frame not of accepted traffic is dropped and counted. -/
  | foreignFrame (port : Nat)
  /-- PTP_MESSAGE (**R277**): A PTP message disciplines MTIME and may unlock it. -/
  | ptpMessage (offset : Int)
  /-- PTP_LOCK (**R277**): MTIME within ±100 ns for 1 s becomes locked and session validity is rechecked. -/
  | ptpLock (offset : Int)
  /-- REASSEMBLY_TIMEOUT (**R280**): Segments of a message incomplete 10 ms after the first are discarded. -/
  | reassemblyTimeout (session : Nat) (message : Nat)
  /-- REQUEST_MESSAGE (**R90**): A REQUEST from a peer or tenant session is reassembled and lands for admission. -/
  | requestMessage (head : FrameHead) (desc : Desc) (input : Bytes)
  /-- RESPONSE_MESSAGE (**R92**): A RESPONSE ends its forwarding record and E writes the completion. -/
  | responseMessage (head : FrameHead) (body : RespBody)
  /-- SESSION_BURGEE (**R289**): A session burgee marks the peer alive, updates delays and learns its triples. -/
  | sessionBurgee (head : FrameHead) (body : Burgee)
  /-- ACK_ONLY_BURGEE (**R280**): An acknowledgement-only burgee advances ACK without liveness. -/
  | ackOnlyBurgee (head : FrameHead)
  /-- BEACON (**R288**): A discovery beacon of the cluster may start a handshake. -/
  | beacon (cluster : BitVec 64) (fpr : Bytes) (node : Nat) (flags : BitVec 8)
  /-- CLAIM_MESSAGE (**R297**): A CLAIM updates the domain owner and standby. -/
  | claimMessage (head : FrameHead) (domain : Nat) (reason : Nat) (pennant : Nat) (owner : Nat) (standby : Nat) (sequence : Nat)
  /-- SNAPSHOT_MESSAGE (**R298**): The standby stores a SNAPSHOT and replies STORED or REJECT. -/
  | snapshotMessage (head : FrameHead) (domain : Nat) (kind : Nat) (pennant : Nat) (sequence : Nat) (items : Option (List SnapItem))
  /-- SNAPSHOT_INSTALL (**R298**): The standby installs a stored delta's items. -/
  | snapshotInstall (domain : Nat)
  /-- RESYNC_REQUEST (**R301**): The owner sends a full snapshot to a standby. -/
  | resyncRequest (head : FrameHead) (domain : Nat) (pennant : Nat)
  /-- RESYNC_STORED (**R298**): A stored acknowledgement commits index blocks and advances handover. -/
  | resyncStored (head : FrameHead) (domain : Nat) (pennant : Nat) (sequence : Nat)
  /-- RESYNC_REJECT (**R298**): A standby cannot store and the owner logs FAB_STANDBY_FULL. -/
  | resyncReject (head : FrameHead) (domain : Nat) (pennant : Nat)
  /-- RESYNC_HANDOVER (**R302**): The standby claims the domain. -/
  | resyncHandover (head : FrameHead) (domain : Nat) (pennant : Nat)
  /-- SESSION_HELLO (**R282**): A responder checks a HELLO and sends ACCEPT. -/
  | sessionHello (h : Handshake)
  /-- SESSION_ACCEPT (**R284**): The initiator checks ACCEPT, derives keys and sends FINISH. -/
  | sessionAccept (h : Handshake)
  /-- SESSION_FINISH (**R284**): The responder checks FINISH, opens the session and sends a burgee. -/
  | sessionFinish (h : Handshake)
  /-- SESSION_CLOSE (**R286**): A CLOSE ends a session. -/
  | sessionClose (head : FrameHead) (reason : Nat)
  /-- RETRANSMIT_TIMER (**R280**): An unacknowledged message is retransmitted after 50 µs or 1 ms. -/
  | retransmitTimer (session : Nat) (message : Nat)
  /-- STALE_SESSION (**R280**): A message unacknowledged for 1 s closes its session. -/
  | staleSession (session : Nat)
  /-- ACK_DELAY_EXPIRY (**R280**): With ACK advanced and no frame sent in 2 µs, an acknowledgement-only burgee is sent. -/
  | ackDelayExpiry (session : Nat)
  /-- HELLO_RESEND (**R283**): No ACCEPT in 100 ms sends a new HELLO. -/
  | helloResend (hid : BitVec 32)
  /-- FINISH_TIMEOUT (**R283**): A responder without FINISH in 100 ms abandons the handshake. -/
  | finishTimeout (hid : BitVec 32)
  /-- SESSION_CONFIRM_TIMEOUT (**R283**): An initiator without an authenticated frame 100 ms after FINISH restarts. -/
  | sessionConfirmTimeout (session : Nat)
  /-- SESSION_REKEY (**R286**): A new handshake starts after 24 h or before SEQUENCE reaches 2^40. -/
  | sessionRekey (session : Nat)
  /-- BEACON_PERIOD (**R288**): Every 1 s each enabled port sends a beacon. -/
  | beaconPeriod
  /-- BURGEE_PERIOD (**R289**): Every 10 ms a burgee is sent on each session and due deltas go to standbys. -/
  | burgeePeriod
  /-- BURGEE_MISSED (**R290**): Each 10 ms without a burgee increments MISSED; at 3 the peer is lost. -/
  | burgeeMissed (node : Nat)
  /-- PATH_UNMARK (**R290**): A port without a burgee from the peer for 30 ms is unmarked. -/
  | pathUnmark (node : Nat) (port : Nat)
  /-- NODE_ID_ASSIGN (**R291**): 100 ms after the first session the module takes a tentative node ID. -/
  | nodeIdAssign
  /-- NODE_ID_CONFIRM (**R291**): After 30 ms without conflict the tentative ID is assigned and stored. -/
  | nodeIdConfirm
  /-- BUS_MASTER_ENABLE (**R465**): Setting Bus Master Enable again lets the module resume descriptor fetch and the completion writes that waited while it was clear. -/
  | busMasterEnable
  /-- POSTED_WRITE_CREDIT_RETURN (**R94**): The host returns PCIe posted-write credits, or the link returns to L0, and completions held back by the lack of them are written, late by the time lost. -/
  | postedWriteCreditReturn
  deriving DecidableEq, Repr

end Sys2Proof
end

