-- ==== Sys2Proof/Decode.lean ====
section
/-! DEFINITION. Commands from the bits of spec/opcode_table.json. -/

namespace Sys2Proof

/-- The command that a word of the table's bits spells.  No row of the table gives bits (its rows are commands and
events, **R2**), so no word spells a command. -/
def decodeTableWord (_nbits _w : Nat) : Option Instr := none

end Sys2Proof
end

