-- ==== Sys2Proof/Config.lean ====
section
/-! DEFINITION. What one implementation fixes and the manual does not, and the free values: constants with no body,
so that nothing can be proved of their values. -/

namespace Sys2Proof.Config

/-- Free bits (log entry 7): the *n*-th value that the module draws, of any width.  Every draw reads
`State.freeCtr` and advances it. -/
opaque freeBits (w : Nat) : Nat → BitVec w

/-- Free digits and choices (log entry 7): a natural number for the *n*-th draw, unbounded. -/
opaque freeNat : Nat → Nat

/-- The DRAM row of a vault line (**R347** names rows and gives no mapping; log entry 20). -/
opaque rowOf : Nat → Nat

/-- The 16-bit CRC of a DS row (**R353** names no polynomial; log entry 21). -/
opaque dsCrc : BitVec 256 → BitVec 16

/-- The ML-DSA-65 key pair that ML-DSA.KeyGen_internal of FIPS 204 makes of a seed of 32 bytes (**R364**; log entry 9): public
key, then private key. -/
opaque dsaOfSeed : List (BitVec 8) → List (BitVec 8) × List (BitVec 8)

/-- Outputs of the post-quantum key generations (log entry 9): family, parameter code, the seed's number; the public
key, then the private key. -/
opaque pqKeygen : Nat → Nat → Nat → List (BitVec 8) × List (BitVec 8)

/-- Encapsulation: family, parameter code, public key, the randomness's number; ciphertext, then secret. -/
opaque pqEncaps : Nat → Nat → List (BitVec 8) → Nat → List (BitVec 8) × List (BitVec 8)

/-- Decapsulation with implicit rejection: family, parameter code, private key, ciphertext; secret. -/
opaque pqDecaps : Nat → Nat → List (BitVec 8) → List (BitVec 8) → List (BitVec 8)

/-- Signature: family, parameter code, private key, context, message (or external mu), external-mu flag, index or the
randomness's number (0 deterministic). -/
opaque pqSign : Nat → Nat → List (BitVec 8) → List (BitVec 8) → List (BitVec 8) → Bool → Nat → List (BitVec 8)

/-- Verification: family, parameter code, public key, context, message (or external mu), external-mu flag,
signature. -/
opaque pqVerify : Nat → Nat → List (BitVec 8) → List (BitVec 8) → List (BitVec 8) → Bool → List (BitVec 8) → Bool

/-- The message representative mu of an ML-DSA computation: parameter code, public key, context, message. -/
opaque mldsaMu : Nat → List (BitVec 8) → List (BitVec 8) → List (BitVec 8) → List (BitVec 8)

/-- The words of the MPU regions that the Warden derives from a memory plan (**R345**; the placing of regions is its
own; log entry 29): plan, master, region, word 0-3. -/
opaque mpuWord : List (Nat × Nat) → Nat → Nat → Nat → BitVec 32

/-- What a firmware bundle carries (**R371** gives no layout; log entry 40): version, mW and mU of its contents. -/
opaque bundleOf : List (BitVec 8) → Nat × List (BitVec 8) × List (BitVec 8)

end Sys2Proof.Config
end

