-- ==== Sys2Proof/Machine/State.lean ====
section
/-! DEFINITION. The state of the module as plain data, group by group, and its value at reset.
Each field's comment gives its width, the rules that name it and what it is.  A field whose reset value no rule
states carries [DC 3]; a field that is the model's own and not the spec's carries [M n], n the log entry. -/

namespace Sys2Proof.Machine

/-- Power states (**R434**). -/
inductive PState where
  | off | reserve | sleep | ready | run | starting
  deriving DecidableEq, Repr

/-- Life-cycle states (**R378**). -/
inductive LState where
  | maker | integrator | fielded | returned | scrapped | invalid
  deriving DecidableEq, Repr

/-- Slice states (**R311**). -/
inductive SState where
  | disabled | active | resetting | freezing | frozen | saved
  deriving DecidableEq, Repr

/-- Request classes (**R74** CLASS 1-3). -/
inductive RClass where
  | ensign | pennon | streamer
  deriving DecidableEq, Repr

-- The structure image (chapter *The structure image*) --------------------------------------------------------

/-- One pool of the engine partition (**R36**). -/
structure PoolCfg where
  reserve : Nat := 0        -- 8; R36; ENSIGN reservation
  shared : Nat := 0         -- 8; R36; shared remainder
  dedicated : Nat := 0      -- 8; R36; dedicated units (Oryx and code)
  deriving DecidableEq, Repr

/-- One tenant entry (**R39**). -/
structure Tenant where
  flags : BitVec 8 := 0     -- 8; R39; [0] enabled [1] host [2] network [3] ENSIGN [4] STREAMER [5] migration
  weight : Nat := 0         -- 16; R39; PENNON weight
  rate : Nat := 0           -- 32; R39; ENSIGN tokens per second
  depth : Nat := 0          -- 32; R39; bucket depth
  msixBase : Nat := 0       -- 16; R39; first MSI-X vector
  msixCount : Nat := 0      -- 16; R39; vectors
  queues : Nat := 0         -- 8; R39; submission queues
  depthLog2 : Nat := 0      -- 8; R39; queue depth, log2
  deriving DecidableEq, Repr

/-- The fabric section (**R44**). -/
structure FabCfg where
  cluster : BitVec 64 := 0  -- 64; R44; cluster ID, 0 standalone
  mode0 : Nat := 0          -- 8; R44; port 0 mode
  mode1 : Nat := 0          -- 8; R44; port 1 mode
  families : BitVec 8 := 0  -- 8; R44; [0] IPv4 [1] IPv6
  ptpDomain : Nat := 0      -- 8; R44; IEEE 1588 domain number
  udpPort : Nat := 48710    -- 16; R44; UDP port
  hop : Nat := 35           -- 16; R44; hop allowance, us
  addr0 : Bytes := []       -- 128; R44; port 0 address
  addr1 : Bytes := []       -- 128; R44; port 1 address
  plen0 : Nat := 0          -- 8; R44; port 0 prefix length
  plen1 : Nat := 0          -- 8; R44; port 1 prefix length
  role : BitVec 8 := 0      -- 8; R44; [0] may own [1] may stand by
  gw0 : Bytes := []         -- 128; R44; port 0 gateway
  gw1 : Bytes := []         -- 128; R44; port 1 gateway
  node : Nat := 0xFFFF      -- 16; R44; fixed node ID or 0xFFFF
  deriving DecidableEq, Repr

/-- The reserve profile (**R47**). -/
structure Profile where
  chemistry : Nat := 1      -- 8; R47; 1 Li-ion, 2 LiFePO4
  rated : Nat := 0          -- 16; R47; mAh
  maxCharge : Nat := 0      -- 16; R47; mA
  cv : Nat := 0             -- 16; R47; mV
  cutoff : Nat := 0         -- 16; R47; mV
  tLow : Nat := 0           -- 8; R47; degrees C
  tHigh : Nat := 0          -- 8; R47; degrees C
  ntcR25 : Nat := 0         -- 16; R47; units of 100 ohm
  ntcBeta : Nat := 0        -- 16; R47; K
  term : Nat := 0           -- 16; R47; termination current, mA
  deriving DecidableEq, Repr

/-- The contents of an image that the Warden applies (**R29**, **R36**-**R49**). -/
structure ImageCfg where
  level : Nat := 0                 -- 9; R32; rollback level
  minor : Nat := 0                 -- 32; R32; rollback minor
  commitOtp : Bool := false        -- 1; R32; COMMIT_OTP flag
  permitted : BitVec 16 := 0       -- 16; R32; permitted states
  ownerFpr : Bytes := []           -- 256; R32; owner fingerprint
  binding : Bytes := []            -- 256; R32; identity binding
  measure : Bytes := []            -- 384; R35; image measurement mI
  pools : List PoolCfg := []       -- 7 x 64; R36; engine partition, pools 1-7
  te : Nat := 25                   -- 16; R38; T_E in units of 10 us
  wPennon : Nat := 1               -- 8; R38; PENNON weight
  wStreamer : Nat := 1             -- 8; R38; STREAMER weight
  drain : Nat := 1                 -- 16; R38; drain ceiling, ms
  tenants : Tbl Tenant := []       -- 256 x 256; R39; enabled slices' entries
  pasids : List (Nat × Nat) := []  -- 1024 x 32; R42; (PASID, slice), rising
  plan : List (Nat × Nat) := []    -- 6 x 128; R43; (base, size) in MiB, types 1-6
  fabric : FabCfg := {}            -- 1024; R44; fabric section
  response : Word := 0x0035403F    -- 32; R45; response word
  loopEn : BitVec 4 := 0           -- 4; R45; loop enable mask
  loopWin : List (Nat × Nat) := [] -- 4 x 32; R45; loop windows (min, max), units of 10 ohm
  profile : Profile := {}          -- 256; R47; reserve profile
  cond : Nat := 1                  -- 8; R48; conditioning
  threshold : Nat := 16            -- 8; R48; retirement threshold
  minCells : Nat := 8              -- 8; R48; minimum healthy cells
  drbgAssign : List Nat := []      -- 16 x 8; R48; consumer of each instance
  reseedCalls : Nat := 65536       -- 32; R48; reseed call interval
  smbAddr : Nat := 0x5A            -- 8; R49; SMBus address
  mgtFlags : BitVec 8 := 7         -- 8; R49; [0] SMBus [1] mailbox [2] power-state commands [3] IDE required
  ideStream : Nat := 0             -- 8; R49; IDE stream ID
  gpio : List Nat := [0, 0, 0, 0]  -- 4 x 8; R49; GPIO functions
  deriving DecidableEq, Repr

/-- One image slot of internal flash with its 64-byte record (**R30**, **R355**). -/
structure Slot where
  seqNo : Nat := 0               -- 32; R30; activation sequence number, 0 staged
  len : Nat := 0                 -- 32; R30; image length
  crcOk : Bool := false          -- 32; R30; the record's CRC-32 matches it
  seedFor : Option Bytes := none -- 320; R355; wrapped vault seed: the measurement M of its K_seal, none all zero [M 17]
  seed : Nat := 0                -- 256; R355; the vault seed in the wrap, by its number [M 17]
  content : Bytes := []          -- 4 MiB; R30; image bytes
  deriving DecidableEq, Repr

/-- A staging in progress (**R58**). -/
structure Staging where
  next : Nat := 0           -- 32; R58; offset expected
  total : Nat := 0          -- 32; R58; total length expected
  deriving DecidableEq, Repr

/-- Image state and registers (**R30**, **R53**, **R62**-**R64**). -/
structure Img where
  slotA : Slot := {}                    -- 4 MiB + 512; R30; slot A
  slotB : Slot := {}                    -- 4 MiB + 512; R30; slot B
  cfg : Option ImageCfg := none         -- image; R29; the loaded image's contents (IMG_STATUS.LOADED)
  slotActive : Bool := false            -- 1; R62; SLOT, true B
  fallback : Bool := false              -- 1; R62; FALLBACK
  staged : Bool := false                -- 1; R62; STAGED
  busy : Bool := false                  -- 1; R62; BUSY
  staging : Option Staging := none      -- 64; R58; staging in progress
  rejOffset : Nat := 0                  -- 16; R63; IMG_REJECT.OFFSET
  rejSection : Nat := 0                 -- 8; R63; IMG_REJECT.SECTION
  rejCode : Nat := 0                    -- 8; R63; IMG_REJECT.CODE
  vaultCtr : Option (Nat × Nat) := none -- 41; R53; vault counter record (level, minor)
  deriving DecidableEq, Repr

-- Requests, queues, admission ---------------------------------------------------------------------------------

/-- Where a request came from (**R66**, **R90**). -/
inductive Origin where
  /-- A host queue of the slice. -/
  | host (queue : Nat)
  /-- A tenant session of the fabric, with the message's ID. -/
  | tenant (session message : Nat)
  /-- A peer's forwarded REQUEST, with the message's ID. -/
  | peer (session message : Nat)
  deriving DecidableEq, Repr

/-- How far a request has come. -/
inductive Phase where
  /-- ENSIGN: waits for landing room before its input read (**R309**). -/
  | waitRoom
  /-- Its input read is outstanding (**R70**). -/
  | reading
  /-- PENNON or STREAMER: descriptor held, not dispatched (**R309**). -/
  | held
  /-- Landed and admitted, waits for a sequencer (**R111**). -/
  | queued
  /-- A sequencer runs it. -/
  | executing
  /-- Waits for blinding bytes (**R188**). -/
  | blindWait
  /-- Waits for command randomness (**R244**). -/
  | rngWait
  /-- Its sequencer has detached; the unit runs alone (**R194**). -/
  | detached
  /-- Its completion task waits for a sequencer (**R194**). -/
  | releaseQueued
  /-- Waits for a forwarding record (**R293**). -/
  | waitFwd
  /-- Admitted for forwarding, waits for the forwarding microcode (**R110**). -/
  | fwdQueued
  /-- Sent to the owner (**R293**). -/
  | forwarded
  /-- METER_LATCH: waits for its ring entry (**R321**). -/
  | waitLatch
  /-- Its change waits for the flash store's commit (**R360**). -/
  | waitCommit
  /-- Its completion waits for DMA to be possible (**R94**, **R465**). -/
  | waitWrite
  deriving DecidableEq, Repr

/-- A key record (**R358**), its material as unwrapped under the domain's DRK. -/
structure KeyRec where
  typ : Nat := 1                    -- 8; R358; 1 symmetric, 2 key pair, 3 public key, 4 stateful, 5 KEM secret
  vol : Bool := false               -- 1; R358; VOLATILE
  large : Bool := false             -- 1; R358; LARGE
  prov : Bool := false              -- 1; R358; PROVISIONAL
  handle : Nat := 0                 -- 32; R358; handle
  slice : Nat := 0                  -- 8; R358; slice
  domain : Nat := 0                 -- 16; R358; domain
  attrs : Bytes := []               -- 128; R358, R137; attributes
  confirm : Bytes := []             -- 128; R358; confirmation
  material : Bytes := []            -- model; R359; key material, unwrapped [M 10]
  pub : Bytes := []                 -- model; R359; public key, in the encoding of R182 [M 10]
  largeRef : Nat := 0               -- 32; R358; first line in the large region
  largeLines : Nat := 0             -- 32; R358; lines in the large region
  stamp : Nat := 0                  -- 64; R358; stamp
  lines : Nat := 1                  -- 16; R358; record length in lines
  nextIdx : Nat := 0                -- 64; R218; N
  limit : Nat := 0                  -- 64; R218; L
  tagOk : Bool := true              -- model; R359; the wrapped material passes its tag [M 10]
  deriving DecidableEq, Repr

/-- A result that waits: status, DETAIL and output of a request (**R78**, **R80**). -/
structure Result where
  status : Nat := 0         -- 16; R80; completion status
  detail : Nat := 0         -- 32; R80; DETAIL
  output : Bytes := []      -- 8 x OUT_LEN; R72; output bytes
  store : Option KeyRec := none -- model; R194; key record that the release stores
  forwarded : Bool := false -- 1; R79; FORWARDED
  node : Nat := 0           -- 14; R78; NODE
  skipped : Bool := false   -- 1; R79; METER_SKIPPED
  deriving DecidableEq, Repr

/-- One request that the module has fetched or received and not completed (**R65**). -/
structure Req where
  rid : Nat                             -- model; R65; number in order of fetch [M 5]
  desc : Desc := {}                     -- 512; R74; descriptor
  slice : Nat := 0                      -- 8; R76; slice
  origin : Origin := .host 0            -- model; R66, R90; queue or session
  phase : Phase := .held                -- model; R70, R309; progress
  input : Bytes := []                   -- 8 x IN_LEN; R71; input bytes in scratchpad
  landAt : Nat := 0                     -- 64; R71; MTIME of landing, T_E starts
  heldAt : Nat := 0                     -- 64; R309; MTIME at which it was held
  domain : Nat := 0                     -- 16; R75; domain resolved
  work : List (Nat × Nat) := []         -- 8 x 32; R105; (resource, cycles) charged
  calls : List (Nat × Nat) := []        -- model; R244; (instance, calls) committed
  seqr : Option Nat := none             -- 6; R111; sequencer that runs it
  retried : Option (Nat × Nat) := none  -- 16; R79, R80; (pool, logical unit) of the re-execution
  lateRetire : Bool := false            -- 1; R94; admitted before a second retirement within T_E
  fwdTag : Nat := 0                     -- 32; R91; forwarding tag
  owner : Nat := 0                      -- 14; R293; owner node
  index : Option Nat := none            -- 64; R218; stateful index allocated
  approvals : Bool := false             -- 1; R148; approvals are reserved for it
  latchSeq : Nat := 0                   -- 32; R321; ring sequence that a METER_LATCH waits for
  drbgWait : Bool := false              -- 1; R244; its consumer-2 draw has waited
  result : Option Result := none        -- model; R194, R360; result that waits to be written
  change : Option (Nat × Nat) := none   -- model; R295, R499; (slice, handle) of a committed stored change
  deriving DecidableEq, Repr

/-- One queue pair of a slice (**R66**). -/
structure Queue where
  depth : Nat := 64           -- 17; R66; entries
  pasid : Nat := 0            -- 20; R66; PASID
  sqBase : Nat := 0           -- 64; R67; submission queue base
  cqBase : Nat := 0           -- 64; R67; completion queue base
  head : Nat := 0             -- 16; R78; index after the last submission entry fetched
  issued : Nat := 0           -- 16; R70; index after the last submission entry read for
  tail : Nat := 0             -- 16; R68; tail rung
  cqTail : Nat := 0           -- 16; R72; next completion entry to write
  cqHead : Nat := 0           -- 16; R73; completion head rung
  phase : Bool := true        -- 1; R73; PHASE written next
  reserved : Nat := 0         -- 17; R70; completion entries reserved by fetched requests
  reads : List Nat := []      -- model; R70; descriptors asked for by each outstanding read
  stopped : Bool := false     -- 1; R308; stopped by a descriptor read fault
  paused : Bool := false      -- 1; R310; fetch paused
  deriving DecidableEq, Repr

/-- The counters of one metering interval and class (**R319**). -/
structure ClassMeter where
  ops : Tbl Nat := []         -- 16 x 32; R319; operations per command group index
  busy : Nat := 0             -- 64; R319; busy ns
  bytesIn : Nat := 0          -- 64; R319; bytes in
  bytesOut : Nat := 0         -- 64; R319; bytes out
  refused : Nat := 0          -- 32; R319; refusals
  skipped : Nat := 0          -- 32; R319; completions with METER_SKIPPED
  deriving DecidableEq, Repr

/-- One metering interval or ring entry (**R322**). -/
structure RingEntry where
  seqNo : Nat := 0                 -- 32; R322; sequence
  reason : Nat := 0                -- 8; R322; reason
  moved : Bool := false            -- 1; R322; MOVED
  start : Nat := 0                 -- 64; R322; interval start
  stop : Nat := 0                  -- 64; R322; interval end
  source : Nat := 0                -- 16; R322; source node ID for RESTORE
  ensign : ClassMeter := {}        -- 768; R322; class 0
  pennon : ClassMeter := {}        -- 768; R322; class 1
  streamer : ClassMeter := {}      -- 768; R322; class 2
  deriving DecidableEq, Repr

/-- A migration offer held at the target (**R315**). -/
structure Offer where
  id : Nat := 0               -- 64; R315; offer ID
  expiry : Nat := 0           -- 64; R315; expiry MTIME
  keys : Nat := 0             -- model; R315; its two ephemeral key pairs, by the number of their draw [M 7]
  deriving DecidableEq, Repr

/-- One tenant slice (**R311**-**R321**). -/
structure Slice where
  state : SState := .disabled          -- 3; R311; state
  resetDone : Bool := false            -- 1; R325; SLC_STATUS.RESET_DONE
  qerr : BitVec 16 := 0                -- 16; R325; SLC_QERR.DESC_FAULT
  level : Nat := 0                     -- 33; R107; token level, units of 2^-16 token
  rem : Nat := 0                       -- 20; R107; remainder of the refill
  rr : Nat := 0                        -- 4; R70; queue served next by the mover [DC 3]
  meter : RingEntry := {}              -- 2560; R319; open interval
  ring : List RingEntry := []          -- 64 x 2560; R321; ring, newest first
  ringSeq : Nat := 0                   -- 32; R322; sequence of the newest ring entry
  latching : List RingEntry := []      -- model; R321; closed intervals not yet in the ring, oldest first
  drainFrom : Nat := 0                 -- 64; R313; MTIME of the SLICE_RESET or SLICE_FREEZE that drains
  squash : Bool := false               -- 1; R313; its reset is a squash
  offer : Option Offer := none         -- 128; R315; offer held
  roster : List (Bytes × Nat) := []    -- 64 x 320; R317; endpoints (fingerprint, serial) closed at freeze
  reservedPlaces : List (Bytes × Nat) := [] -- model; R318; roster places reserved, with their ends
  deriving DecidableEq, Repr

/-- Admission state and registers (**R101**-**R114**). -/
structure Adm where
  backlog : Tbl Nat := []           -- 8 x 64; R105; A_r in core cycles, resources 1-8
  throttle : Nat := 0               -- 2; R114; ADM_STATUS.THROTTLE
  lastRaise : Option Nat := none    -- 64; R104; MTIME of the last raise
  coolSince : Option Nat := none    -- 64; R104; MTIME since which every sample lies below 95 C
  parkBefore : Option (List Nat) := none -- model; R104; requests admitted before the raise (PARK_PENDING)
  refBudget : Nat := 0              -- 32; R114; ADM_REFUSED_BUDGET
  refCapacity : Nat := 0            -- 32; R114; ADM_REFUSED_CAPACITY
  refRng : Nat := 0                 -- 32; R114; ADM_REFUSED_RNG
  refState : Nat := 0               -- 32; R114; ADM_REFUSED_STATE
  refPath : Nat := 0                -- 32; R114; ADM_REFUSED_PATH
  admitted : Nat := 0               -- 64; R114; ADM_ADMITTED
  teRwi : BitVec 8 := 0x19          -- 8; R114; ADM_T_E.T_E while no image is loaded
  poolRwi : Tbl Nat := []           -- 8 x 8; R114; ADM_POOL RESERVED while no image is loaded
  busyClass : Tbl Nat := []         -- model; R112; busy time per (pool, class), cycles
  busyTenant : Tbl Nat := []        -- model; R112; busy time per (pool, class, slice), cycles
  deriving DecidableEq, Repr

/-- The request paths: queues, requests, doorbell order (**R66**-**R73**). -/
structure Rqs where
  queues : Tbl Queue := []          -- model; R66; queue of (slice, number), key 16 x slice + number
  order : List Nat := []            -- model; R70; slices in the order of their doorbells
  live : List Req := []             -- model; R65; requests not completed, in order of fetch
  nextRid : Nat := 1                -- model; R65; number of the next request [M 5]
  held : List (Nat × Nat) := []     -- model; R94; (rid, 0) of completions withheld, in order [M 5]
  readyDrain : Option Nat := none   -- model; R436; MTIME of POWER_STATE READY while it drains
  deriving DecidableEq, Repr

-- Engines ------------------------------------------------------------------------------------------------------

/-- One logical unit of a pool (**R17**, **R173**). -/
structure EUnit where
  present : Bool := true            -- 1; R430; present (WDN_UNITS)
  phys : Nat := 0                   -- 8; R17; physical number
  parked : Bool := false            -- 1; R103; parked by throttling
  parkDue : Bool := false           -- 1; R104; parks at its next boundary
  ctx0 : Option Nat := none         -- model; R173; ENSIGN request in context 0
  ctx1 : Option Nat := none         -- model; R173; PENNON or STREAMER request in context 1
  clock : Bool := false             -- 1; R438; clock running
  kat : Bool := false               -- 1; R166; known-answer test due before further work
  testFirst : Bool := false         -- 1; R195; takes no work before its known-answer test
  lastMismatch : Option Nat := none -- 64; R167; MTIME of the last KEY_CHECK_MISMATCH on the lane
  deriving DecidableEq, Repr

/-- Fault fields shared by ENG_ORYX_FAULT, ENG_MKH_FAULT and ENG_CODE_FAULT (**R197**, **R230**). -/
structure FaultReg where
  katFails : Nat := 0               -- 8; R197, R230; KAT_FAILS
  checkFails : Nat := 0             -- 8; R197, R230; CHECK_FAILS
  lastUnit : Nat := 0               -- 8; R197, R230; LAST_UNIT
  lastCause : Nat := 0              -- 8; R197, R230; LAST_CAUSE
  deriving DecidableEq, Repr

/-- Engine pools and their registers (**R169**, **R197**, **R230**). -/
structure Eng where
  units : Tbl EUnit := []           -- model; R16, R17; logical units, key 256 x pool + logical
  sparesUsed : Tbl (List Nat) := [] -- model; R16; physical units of a pool already switched in or retired
  retiredAt : Tbl Nat := []         -- model; R94; MTIME of the last retirement of a pool
  fusePending : List Nat := []      -- model; R392, R384; retirement fuses still to be burned
  tasks : List Nat := []            -- model; R194; completion tasks waiting for a sequencer, oldest first
  aesLate : BitVec 16 := 0          -- 16; R169; ENG_LANE_MASK.RESEED_LATE
  mkhLate : BitVec 16 := 0          -- 16; R230; ENG_MKH_MASK.RESEED_LATE
  aesMask : Tbl Nat := []           -- 16 x 256; R156; mask generator states by the number of their seed [M 7]
  mkhMask : Tbl Nat := []           -- 16 x 256; R201; mask generator states by the number of their seed [M 7]
  aesBlocks : Nat := 0              -- 64; R169; ENG_AES_BLOCKS
  tdeaBlocks : Nat := 0             -- 64; R169; ENG_TDEA_BLOCKS
  digestComp : Nat := 0             -- 64; R169; ENG_DIGEST_COMP
  keccakPerm : Nat := 0             -- 64; R169; ENG_KECCAK_PERM
  cdLastPool : Nat := 0             -- 8; R169; ENG_CD_KAT.LAST_POOL
  cdLastUnit : Nat := 0             -- 8; R169; ENG_CD_KAT.LAST_UNIT
  cdFails : Nat := 0                -- 8; R169; ENG_CD_KAT.FAILS
  oryxOps : Nat := 0                -- 64; R197; ENG_ORYX_OPS
  oryxRejected : Nat := 0           -- 32; R197; ENG_ORYX_REJECTED
  oryxFault : FaultReg := {}        -- 32; R197; ENG_ORYX_FAULT
  aborts : Nat := 0                 -- 32; R197; ENG_ABORTS
  mkhOps : Nat := 0                 -- 64; R230; ENG_MKH_OPS
  mldsaLimit : Nat := 0             -- 32; R230; ENG_MLDSA_LIMIT
  mkhFault : FaultReg := {}         -- 32; R230; ENG_MKH_FAULT
  codeOps : Nat := 0                -- 64; R230; ENG_CODE_OPS
  codeFault : FaultReg := {}        -- 32; R230; ENG_CODE_FAULT
  burned : Nat := 0                 -- 64; R230; ENG_STATEFUL_BURNED
  statefulWait : Nat := 0           -- 16; R230; ENG_STATEFUL_WAIT
  deriving DecidableEq, Repr

-- Entropy ------------------------------------------------------------------------------------------------------

/-- One entropy cell (**R232**-**R238**). -/
structure Cell where
  state : Nat := 0                  -- 2; R249; 0 healthy, 1 excluded, 2 retired, 3 captured
  trim : Nat := 32                  -- 6; R249; trim
  fails : Nat := 0                  -- 24; R249; failed windows since start
  failAt : List Nat := []           -- model; R238; MTIME of the failed windows, newest first
  edge : Nat := 0                   -- 2; R233; consecutive periods ended with the trim at 0 or 63
  runBit : Bool := false            -- 1; R234; value of the current run of samples [DC 3]
  runLen : Nat := 0                 -- 6; R234; length of the current run of samples
  deriving DecidableEq, Repr

/-- One DRBG instance (**R243**). -/
structure Drbg where
  consumer : Nat := 4               -- 3; R249; assigned consumer
  inst : Bool := false              -- 1; R249; INSTANTIATED
  due : Bool := false               -- 1; R249; RESEED_DUE
  calls : Nat := 0                  -- 21; R249; calls since reseed
  committed : Nat := 0              -- 21; R249; committed calls
  reseedAt : Nat := 0               -- 64; R243; MTIME of the last reseed
  seed : Nat := 0                   -- 384; R243; generator state by the number of its last seed [M 7]
  deriving DecidableEq, Repr

/-- The entropy source and the instances (**R231**-**R249**). -/
structure Ent where
  cells : Tbl Cell := []            -- 64 x 32; R232; cells 0-63
  cond : Nat := 1                   -- 2; R249; conditioning in force
  threshold : Nat := 16             -- 8; R249; retirement threshold in force
  minCells : Nat := 8               -- 8; R249; minimum healthy cells in force
  interval : Nat := 65536           -- 17; R249; reseed call interval in force
  rwiPolicy : Word := 0x00081001    -- 32; R249; ENT_POLICY as written while no image is loaded
  rwiInterval : Word := 0x00010000  -- 32; R249; ENT_RESEED_INTERVAL as written while no image is loaded
  startupDone : Bool := false       -- 1; R249; STARTUP_DONE
  sourceFail : Bool := false        -- 1; R249; SOURCE_FAIL
  seeds : Nat := 0                  -- 32 x 384; R236; ready seeds held, 0-32
  blockBits : Nat := 0              -- model; R236; conditioned bits of the open block
  blockCredit : Nat := 0            -- model; R236; credit of the open block, half bits
  credit : Nat := 0                 -- 64; R249; ENT_CREDIT
  reseeds : Nat := 0                -- 64; R249; ENT_RESEEDS
  drbg : Tbl Drbg := []             -- 16 x 64; R243; instances 0-15
  rr : Tbl Nat := []                -- model; R244; next instance of consumers 2-4 in round robin [DC 3]
  capture : Bool := false           -- 1; R249; ENT_RAW_CTRL.ENABLE
  captureCell : Nat := 0            -- 6; R249; ENT_RAW_CTRL.CELL
  overrun : Bool := false           -- 1; R249; ENT_RAW_CTRL.OVERRUN
  buffer : List Word := []          -- 4096 x 32; R247; capture buffer, oldest first
  deriving DecidableEq, Repr

-- Lookup -------------------------------------------------------------------------------------------------------

/-- A domain entry (**R258**): STATE 0 UNDEFINED, 1 LOCAL, 2 REMOTE, 3 TAKEOVER. -/
structure DomainEntry where
  pennant : Nat := 0                -- 32; R258; PENNANT
  state : Nat := 0                  -- 3; R258; STATE
  sby : Bool := false               -- 1; R258; SBY
  owner : Nat := 0                  -- 14; R258; OWNER
  standby : Nat := 0                -- 14; R258; STANDBY
  deriving DecidableEq, Repr

/-- A peer entry (**R259**): STATE 0 unknown, 1 alive, 2 lost, 3 this module. -/
structure PeerEntry where
  state : Nat := 0                  -- 8; R259; STATE
  session : Option Nat := none      -- 32; R259; session up, its index
  path0 : Bool := false             -- 1; R259; port 0 path
  path1 : Bool := false             -- 1; R259; port 1 path
  mayOwn : Bool := false            -- 1; R259; may own
  mayStandby : Bool := false        -- 1; R259; may stand by
  delay0 : Nat := 0xFFFFFFFF        -- 32; R259; DELAY0 [DC 3]
  delay1 : Nat := 0xFFFFFFFF        -- 32; R259; DELAY1 [DC 3]
  missed : Nat := 0                 -- 8; R259; MISSED
  last : Nat := 0                   -- 64; R259; LAST_BURGEE
  last0 : Nat := 0                  -- 64; R290; MTIME of the last burgee through port 0
  last1 : Nat := 0                  -- 64; R290; MTIME of the last burgee through port 1
  reports0 : List Nat := []         -- 10 x 32; R292; last reports for port 0, newest first
  reports1 : List Nat := []         -- 10 x 32; R292; last reports for port 1, newest first
  rx0 : Option Nat := none          -- 32; R292; largest normalised delay received through port 0
  rx1 : Option Nat := none          -- 32; R292; largest normalised delay received through port 1
  te : Nat := 25                    -- 8; R293; T_E the peer's latest burgee reports [DC 3]
  fpr : Bytes := []                 -- 256; R281; identity fingerprint
  deriving DecidableEq, Repr

/-- An exact-match entry (**R263**). -/
structure EmEntry where
  handle : Nat := 0                 -- 32; R263; HANDLE
  slice : Nat := 0                  -- 8; R263; SLICE
  flags : BitVec 8 := 1             -- 8; R263; [0] VALID [1] PUBLIC [2] LARGE
  domain : Nat := 0                 -- 16; R263; DOMAIN
  record : Nat := 0                 -- 32; R263; RECORD, vault line index
  lines : Nat := 1                  -- 16; R263; LINES
  stamp : Nat := 0                  -- 64; R263; STAMP
  deriving DecidableEq, Repr

/-- The lookup unit (**R250**-**R274**). -/
structure Lku where
  trie : Tbl Word := []             -- 24 MiB; R251; words not zero, key 128 x node + word
  nodes : List Nat := []            -- model; R251; nodes allocated besides the root
  freeing : List Nat := []          -- model; R273; unlinked nodes not yet free
  badWords : List Nat := []         -- model; R256; uncorrectable words, key 128 x node + word
  prefixes : Nat := 0               -- 32; R274; LKU_TRIE_PREFIXES
  domains : Tbl DomainEntry := []   -- 65536 x 64; R257; domain table
  peers : Tbl PeerEntry := []       -- 16384 x 256; R257; peer table
  em : Tbl EmEntry := []            -- 2 GiB; R262; buckets, key 4 x bucket + entry [M 10]
  stash : Tbl EmEntry := []         -- 64 x 256; R250; stash
  badBuckets : List Nat := []       -- model; R264; buckets with an uncorrectable line [M 10]
  data : List Word := [0, 0, 0, 0, 0, 0, 0, 0] -- 8 x 32; R274; LKU_DATA0-7
  result : Nat := 0                 -- 8; R274; LKU_RESULT
  busy : Bool := false              -- 1; R274; BUSY
  batch : Bool := false             -- 1; R274; BATCH
  done : Bool := false              -- 1; R274; DONE
  trieFault : Bool := false         -- 1; R274; TRIE_FAULT
  stashHigh : Bool := false         -- 1; R274; STASH_HIGH
  batchAddr : DWord := 0            -- 64; R274; LKU_BATCH_ADDR
  batchCount : Nat := 0             -- 17; R274; LKU_BATCH_COUNT
  batchDone : Nat := 0              -- 17; R274; LKU_BATCH_DONE
  batchFailed : Nat := 0            -- 17; R274; LKU_BATCH_FAILED
  learned : Nat := 0                -- 32; R274; LKU_LEARN_ACCEPTED
  ignored : Nat := 0                -- 32; R274; LKU_LEARN_IGNORED
  tableFull : Nat := 0              -- 32; R274; LKU_TABLE_FULL
  scrubCorr : Nat := 0              -- 16; R274; LKU_TRIE_SCRUB.CORRECTED
  scrubUnc : Nat := 0               -- 16; R274; LKU_TRIE_SCRUB.UNCORRECTABLE
  deriving DecidableEq, Repr

-- Memory -------------------------------------------------------------------------------------------------------

/-- Scratchpad, vault memory and protection (**R326**-**R351**). -/
structure Mem where
  cells : List Host.Cell := []      -- 64 MiB + 32 GiB; R327; bytes of the internal space, unlisted bytes read 0 [DC 11]
  colours : Tbl Nat := []           -- 10 a line; R326, R348; line colours, key address / 64, unlisted lines 0x3FF
  badLines : List Nat := []         -- model; R343; vault lines beyond correction
  badWords : List Nat := []         -- model; R332; scratchpad words beyond correction
  mpuPlan : Option (List (Nat × Nat)) := none -- 54 x 16 x 128; R351; plan from which the Warden derived the MPU regions [M 29]
  trained : Bool := false           -- 1; R350; TRAINED
  formatting : Bool := false        -- 1; R350; FORMAT
  selfRefresh : Bool := false       -- 1; R350; SELF_REFRESH
  remapFull : Bool := false         -- 1; R350; REMAP_FULL
  scrub : Nat := 0                  -- 29; R350; MEM_SCRUB.LINE
  passes : Nat := 0                 -- 32; R350; MEM_SCRUB_PASSES
  vaultCe : Nat := 0                -- 32; R350; MEM_VAULT_CE
  vaultUe : Nat := 0                -- 32; R350; MEM_VAULT_UE
  lastSymbols : Nat := 0            -- 4; R350; MEM_VAULT_LAST.SYMBOLS
  lastKind : Nat := 0               -- 2; R350; MEM_VAULT_LAST.KIND
  lastColour : Nat := 0             -- 10; R350; MEM_VAULT_LAST.COLOUR
  lastRegion : Nat := 0             -- 3; R350; MEM_VAULT_LAST.REGION
  lastLine : Nat := 0               -- 29; R350; MEM_VAULT_LAST.LINE
  pprDone : Nat := 0                -- 8; R350; MEM_REMAP.PPR_DONE
  remap : List Nat := []            -- 256 entries; R347; rows remapped
  remapCopy : List Nat := []        -- model; R347; rows whose copy runs
  rowErrors : List (Nat × Nat) := [] -- model; R347; (row, scrub pass) with a corrected error
  rewritten : List Nat := []        -- model; R347; lines the Warden rewrote after an uncorrectable read
  spCe : Nat := 0                   -- 32; R350; MEM_SP_CE
  spUe : Nat := 0                   -- 32; R350; MEM_SP_UE
  spLastUe : Bool := false          -- 1; R350; MEM_SP_LAST.UE
  spLastWord : Nat := 0             -- 23; R350; MEM_SP_LAST.WORD
  spPending : List (Nat × Nat) := [] -- model; R333; (bank, bit column) marked for repair
  faultMaster : Nat := 0            -- 6; R351; MPU_FAULT_LAST.MASTER
  faultKind : Nat := 0              -- 2; R351; MPU_FAULT_LAST.KIND
  faultColour : Nat := 0            -- 10; R351; MPU_FAULT_LAST.COLOUR
  faultAddr : Nat := 0              -- 40; R351; MPU_FAULT_LAST.ADDR
  faultCount : Nat := 0             -- 32; R351; MPU_FAULT_COUNT
  debugDenied : Nat := 0            -- 32; R351; MPU_DEBUG_DENIED
  writeStatus : Nat := 0            -- 8; R351; MPU_WRITE_STATUS
  deriving DecidableEq, Repr

-- Keys ---------------------------------------------------------------------------------------------------------

/-- A change that waits for the key store's commit (**R360**). -/
inductive StoreOp where
  /-- A record written. -/
  | put (r : KeyRec)
  /-- A record deleted; its lines from `line` on are released at the commit (**R363**). -/
  | delete (slice handle line : Nat)
  /-- A new reserved limit of a stateful key (**R218**). -/
  | limit (slice handle limit : Nat)
  deriving DecidableEq, Repr

/-- A re-key in progress (**R373**). -/
structure Rekey where
  seed : Nat := 0                   -- 256; R373; the new vault seed [M 17]
  sealedFor : Bytes := []           -- 384; R373; measurement of the K_seal that wraps it
  line : Nat := 0                   -- 29; R376; KVT_REKEY.LINE
  path : Option MPath := none       -- 1; R466; path of the command, none after a start (**R502**)
  deriving DecidableEq, Repr

/-- A roster entry (**R366**). -/
structure Custodian where
  id : Nat := 0                     -- 16; R366; custodian ID
  roles : BitVec 8 := 0             -- 8; R366; [0] APPROVE [1] COMPONENT
  deriving DecidableEq, Repr

/-- Warden firmware as a slot of internal flash holds it (**R371**, **R413**). -/
structure Firmware where
  version : Nat := 0                -- 32; R371; firmware version [DC 3]
  mW : Bytes := []                  -- 384; R354; SHA-384 of the Warden firmware [DC 3]
  mU : Bytes := []                  -- 384; R354; SHA-384 of the microcode [DC 3]
  deriving DecidableEq, Repr

/-- Key vault, key store, identity and owner (**R352**-**R376**). -/
structure Kvt where
  records : Tbl KeyRec := []        -- key-record region; R358; records by first line index
  store : List KeyRec := []         -- 224 MiB; R360; flash key store
  storePending : List StoreOp := [] -- model; R360; changes not yet committed, oldest first
  storeDomains : Tbl Nat := []      -- model; R360; believed pennant of each stored domain
  storeBad : List Nat := []         -- model; R362; stored domains whose set fails to unwrap
  dks : Tbl Nat := []               -- 65536 x 512; R357; domain key set of each domain, by its number [M 7]
  cache : List (Nat × Nat) := []    -- 16 MiB; R363; cached records (slice, handle), most recent first
  hits : Nat := 0                   -- 64; R376; KVT_CACHE_HIT
  misses : Nat := 0                 -- 64; R376; KVT_CACHE_MISS
  vs : Option Nat := none           -- 256; R355; vault seed unsealed (UNSEALED), by its number [M 17]
  storeFor : Nat := 0               -- 256; R360; vault seed whose K_fks wraps the store's domain key sets, by its number [M 17]
  unsealFail : Bool := false        -- 1; R376; UNSEAL_FAIL
  storeFull : Bool := false         -- 1; R376; KEYSTORE_FULL
  reseal : Option (Bytes × Nat) := none -- 320; R372; re-seal record: measurement (mW, mU) and seed (RESEAL_PENDING)
  rekey : Option Rekey := none      -- model; R373; re-key journal (REKEY)
  rekeyLine : Nat := 0              -- 29; R376; KVT_REKEY.LINE
  identity : Bool := false          -- 1; R376; IDENTITY
  idFpr : Bytes := []               -- 256; R376; KVT_ID_FPR
  kTable : BitVec 128 := 0          -- 128; R262; K_table [DC 3]
  ownerFpr : Option Bytes := none   -- 256; R376; owner fingerprint (OWNER)
  roster : List Custodian := []     -- 32 x 72 B; R366; custodian roster
  rosterSerial : Nat := 0           -- 64; R376; KVT_ROSTER_SERIAL
  recordsBad : List Nat := []       -- model; R354; kinds of flash record whose MAC fails (1 owner, 2 roster, 3 membership)
  fw : Firmware := {}               -- 8 MiB; R413; running firmware
  fwNext : Option Firmware := none  -- 8 MiB; R371; firmware activated for the next start
  fwStaged : Option Firmware := none -- 8 MiB; R371; bundle staged in the inactive slot
  fwBytes : Bytes := []             -- 8 MiB; R371; bytes staged
  signsNothing : Bool := false      -- 1; R390; identity key pair cleared for scope [0]
  deriving DecidableEq, Repr

-- Fabric -------------------------------------------------------------------------------------------------------

/-- One Ethernet port (**R276**, **R306**). -/
structure Port where
  link : Bool := false              -- 1; R306; LINK
  pcs : Bool := false               -- 1; R306; PCS_LOCK
  paused : Bool := false            -- 1; R306; PAUSED
  fec : Nat := 0                    -- 8; R306; FEC_UNCORR
  modeRwi : Nat := 0                -- 4; R306; MODE while no image is loaded
  deriving DecidableEq, Repr

/-- A completion record (**R78**). -/
structure Cpl where
  tag : Nat := 0
  status : Nat := 0
  phase : Bool := true
  forwarded : Bool := false
  retried : Bool := false
  late : Bool := false
  skipped : Bool := false
  outLen : Nat := 0
  sqHead : Nat := 0
  sqId : Nat := 0
  timestamp : Nat := 0
  node : Nat := 0
  detail : Nat := 0
  deriving DecidableEq, Repr

/-- What the module puts on its contacts, newest first in `State.out` [M 6]. -/
inductive Out where
  /-- A posted write of bytes to host memory, with the PASID its DMA carries. -/
  | write (pasid : Option Nat) (addr : Nat) (bytes : Bytes)
  /-- A completion record written at an entry of a completion queue (**R72**). -/
  | completion (slice queue index : Nat) (c : Cpl)
  /-- A read of descriptors issued for a queue: first index, count (**R70**). -/
  | fetch (slice queue index count : Nat)
  /-- A read of a request's input (**R70**). -/
  | read (rid : Nat)
  /-- An MSI-X message (**R72**, **R470**). -/
  | msix (vector : Nat)
  /-- A register read's value (**R11**). -/
  | value (v : Word)
  /-- A fabric message: session, TYPE, MESSAGE and its TYPE-specific summary words. -/
  | message (session typ id : Nat) (words : List Nat)
  /-- A RESPONSE to a tenant or peer (**R90**). -/
  | response (session : Nat) (c : Cpl) (output : Bytes)
  /-- A REQUEST to an owner (**R91**). -/
  | request (session : Nat) (d : Desc) (input : Bytes)
  /-- A CLEAR frame: a beacon or a handshake message of this subtype (0 beacon). -/
  | clear (subtype : Nat) (hid : BitVec 32)
  /-- An answer to ARP or neighbour solicitation on a port. -/
  | address (port : Nat)
  /-- An SMBus block or byte answer. -/
  | smbus (bytes : Bytes)
  /-- An SMBus NACK. -/
  | nack
  /-- JTAG data register: width and value. -/
  | jtag (width : Nat) (v : Nat)
  /-- PCIe answer: 0 success, 1 Unsupported Request, 2 Completer Abort, 3 Configuration Request Retry. -/
  | pcie (status : Nat)
  /-- An SPDM or IDE_KM answer on the DOE mailbox. -/
  | doe
  deriving DecidableEq, Repr

/-- A message that waits for a place in its session's window (**R280**). -/
structure WaitMsg where
  typ : Nat := 0                    -- 8; R278; TYPE
  bytes : Nat := 0                  -- 32; R280; length of the message
  rid : Option Nat := none          -- model; R295; request whose RESPONSE it is
  what : Out := .doe                -- model; R280; the message, without its ID
  deriving DecidableEq, Repr

/-- A message sent on a session and not acknowledged (**R280**). -/
structure OutMsg where
  id : Nat := 0                     -- 32; R278; MESSAGE
  typ : Nat := 0                    -- 8; R278; TYPE
  bytes : Nat := 0                  -- 32; R280; length of the message
  ensign : Bool := false            -- 1; R280; ENSIGN
  sentAt : Nat := 0                 -- 64; R280; MTIME of its first transmission
  txAt : Nat := 0                   -- 64; R280; MTIME of its last transmission
  rid : Option Nat := none          -- model; R295; request whose RESPONSE it is
  deriving DecidableEq, Repr

/-- One open session (**R279**-**R287**). -/
structure Session where
  tenant : Bool := false            -- 1; R281; a tenant endpoint's session
  node : Option Nat := none         -- 14; R282; the peer's node ID, none while it has none
  slice : Nat := 0                  -- 8; R287; slice of a tenant endpoint
  fpr : Bytes := []                 -- 256; R281; fingerprint of the other side
  serial : Nat := 0                 -- 64; R281; certificate serial of the other side
  notBefore : Nat := 0              -- 64; R281; certificate validity
  notAfter : Nat := 0               -- 64; R281; certificate validity
  peerIndex : Nat := 0              -- 32; R282; the other side's session index
  mayOwn : Bool := false            -- 1; R281; certificate flag may own
  mayStandby : Bool := false        -- 1; R281; certificate flag may stand by
  openedAt : Nat := 0               -- 64; R286; MTIME of opening
  confirmed : Bool := true          -- 1; R283; an authenticated frame of the session has arrived
  keys : Nat := 0                   -- 4 x 288; R284; direction keys and salts, by their number [M 7]
  rxHigh : Option Nat := none       -- 64; R279; highest SEQUENCE received
  rxSeen : List Nat := []           -- model; R279; SEQUENCEs received within 1,024 of the highest
  txSeq : Nat := 0                  -- 64; R279; SEQUENCE sent next
  nextMsg : Nat := 1                -- 32; R278; MESSAGE sent next
  rxAcked : Nat := 0                -- 32; R280; every message ID up to this received whole
  rxDone : List Nat := []           -- model; R280; message IDs above rxAcked received whole
  ackDue : Bool := false            -- 1; R280; an acknowledgement is due
  unacked : List OutMsg := []       -- 16384 entries; R280; messages not acknowledged
  partials : List Nat := []         -- model; R280; messages whose segments are incomplete
  waiting : List WaitMsg := []      -- model; R280; messages that wait for a place, oldest first
  deriving DecidableEq, Repr

/-- A handshake in progress (**R283**). -/
structure Hs where
  hid : BitVec 32 := 0              -- 32; R283; handshake ID
  initiator : Bool := false         -- 1; R282; this side sent the HELLO
  fpr : Bytes := []                 -- 256; R282; the other side
  index : Nat := 0                  -- 32; R282; this side's session index
  peer : Session := {}              -- model; R284; the session it will open
  time : Nat := 0                   -- 64; R283; MTIME of the HELLO or ACCEPT sent
  deriving DecidableEq, Repr

/-- A provisional change held at the owner (**R295**). -/
structure Prov where
  node : Nat := 0                   -- 14; R295; entry module
  session : Nat := 0                -- 32; R295; session of the RESPONSE
  message : Nat := 0                -- 32; R295; message ID of the RESPONSE, 0 not yet sent
  rid : Nat := 0                    -- model; R295; request
  created : Bool := true            -- 1; R295; true a handle created, false a record deleted
  entry : EmEntry := {}             -- 256; R295; the entry created or deleted
  record : KeyRec := {}             -- model; R295; the record created or held
  deriving DecidableEq, Repr

/-- What the owner keeps of a domain's snapshots (**R298**). -/
structure OwnSnap where
  seqNo : Nat := 0                  -- 64; R298; sequence sent last
  pendingPut : List (Nat × Nat) := [] -- model; R298; (slice, handle) put since the last delta
  pendingDel : List (Nat × Nat) := [] -- model; R298; (slice, handle) deleted since the last delta
  limits : List (Nat × Nat × Nat × Nat) := [] -- model; R218; (sequence, slice, handle, L) requested and not stored, sequence 0 not yet sent
  stored : Nat := 0                 -- 64; R299; highest sequence the standby has stored
  rejected : Bool := false          -- 1; R298; the standby sent REJECT and has not stored since
  handover : Bool := false          -- 1; R302; a handover runs
  asked : Bool := false             -- 1; R302; the standby has been asked to claim
  former : Option Nat := none       -- 14; R301; node that owned the domain before this module took it over
  deriving DecidableEq, Repr

/-- What a standby keeps of a domain's snapshots (**R298**, **R300**). -/
structure SbySnap where
  pending : List (Nat × List SnapItem) := [] -- region of R43; R298; stored snapshots not installed, oldest first
  stored : Nat := 0                 -- 64; R298; highest sequence stored
  haveSet : Bool := false           -- 1; R357; domain key set held
  installed : Nat := 0              -- 64; R298; highest sequence installed
  deriving DecidableEq, Repr

/-- The cluster fabric (**R275**-**R306**). -/
structure Fab where
  port0 : Port := {}                -- 32; R306; port 0
  port1 : Port := {}                -- 32; R306; port 1
  ptpLocked : Bool := false         -- 1; R306; PTP_LOCKED
  ptpStepped : Bool := false        -- 1; R277; the first lock after the start has happened
  ptpOffset : Int := 0              -- 32; R306; FAB_PTP_OFFSET
  lockedAt : Option Nat := none     -- 64; R292; MTIME of the lock
  nodeId : Option Nat := none       -- 14; R306; node ID in force (ASSIGNED)
  nodeSource : Nat := 0             -- 2; R306; NODE_SOURCE
  nodeFlash : Option Nat := none    -- 14; R291; node ID assigned in an earlier start, in flash
  tentative : Option Nat := none    -- 14; R291; node ID announced as tentative
  tentativeAt : Nat := 0            -- 64; R291; MTIME of its first announcement
  conflict : Bool := false          -- 1; R306; NODE_CONFLICT
  cert : Option Cert := none        -- 6832 B; R304; installed membership certificate (MEMBER)
  seedAddrs : List Bytes := []      -- 16 x 128; R304; seed addresses
  clusterRwi : DWord := 0           -- 64; R306; FAB_CLUSTER_ID while no image is loaded
  hopRwi : BitVec 16 := 35          -- 16; R306; FAB_HOP while no image is loaded
  sessions : Tbl Session := []      -- model; R282; open sessions by index
  nextIndex : Nat := 1              -- 32; R282; session index given next [DC 3]
  hs : List Hs := []                -- 64 entries; R283; handshakes in progress
  prov : List Prov := []            -- model; R295; provisional changes
  own : Tbl OwnSnap := []           -- model; R298; snapshots as owner, by domain
  sby : Tbl SbySnap := []           -- model; R298; snapshots as standby, by domain
  nextFwd : Nat := 1                -- 32; R91; forwarding tag given next [DC 3]
  reserveLocal : List Nat := []     -- model; R441; stored domains not yet written LOCAL
  burgees : Nat := 0                -- model; R289; burgee periods, for the cycling of triples
  fwdSent : Nat := 0                -- 64; R306; FAB_FWD_SENT
  fwdLate : Nat := 0                -- 32; R306; FAB_FWD_LATE
  fwdLost : Nat := 0                -- 32; R306; FAB_FWD_LOST
  retx : Nat := 0                   -- 32; R306; FAB_RETX
  authDrop : Nat := 0               -- 32; R306; FAB_AUTH_DROP
  drop : Nat := 0                   -- 32; R306; FAB_DROP
  rejReason : Nat := 0              -- 8; R306; FAB_SESSION_REJECT.LAST_REASON
  rejCount : Nat := 0               -- 24; R306; FAB_SESSION_REJECT.COUNT
  event : BitVec 9 := 0             -- 9; R306; FAB_EVENT
  deriving DecidableEq, Repr

-- Life-cycle, tamper, Warden, logbook --------------------------------------------------------------------------

/-- A transition that waits for the reserve charge (**R384**). -/
structure Transition where
  target : Nat := 0                 -- 4; R385; target encoding
  code : Nat := 0                   -- 16; R466; command code
  path : MPath := .bar0             -- 1; R466; path of the command
  since : Nat := 0                  -- 64; R384; MTIME at which the wait began
  readBack : Bool := true           -- model; R382; its copies will read back as burned [M 4]
  deriving DecidableEq, Repr

/-- Life-cycle, fuses and debug (**R377**-**R394**). -/
structure Lcs where
  fuse : BitVec 16384 := 0x3F0000003F0000003F -- 16384; R392, R378; fuse array, MAKER in copies A-C as shipped
  state : LState := .invalid        -- 4; R394; STATE, 0xF until the decode
  copyA : Nat := 0xF                -- 4; R394; COPY_A
  copyB : Nat := 0xF                -- 4; R394; COPY_B
  copyC : Nat := 0xF                -- 4; R394; COPY_C
  mismatch : Bool := false          -- 1; R394; MISMATCH
  rolled : Bool := false            -- 1; R394; ROLLED
  decoded : Bool := false           -- 1; R379; the decode of this start has run
  xresult : Nat := 0                -- 8; R394; LCS_XSTATUS.RESULT
  xtarget : Nat := 0                -- 4; R394; LCS_XSTATUS.TARGET
  waiting : Option Transition := none -- model; R384; transition that waits for its charge (BUSY)
  scope : BitVec 2 := 0             -- 2; R394; LCS_DEBUG.SCOPE
  fuseAddr : BitVec 9 := 0          -- 9; R394; LCS_FUSE_ADDR
  dbgFail : Nat := 0                -- 32; R394; LCS_DBG_FAIL
  dbgNonce : Option Nat := none     -- 256; R391; nonce of the current DBG_CHALLENGE, by its number [M 7]
  dbgStatus : Nat := 0              -- 2; R391; DBG_STATUS [5:4]
  dsRow : Option Nat := none        -- 1; R404; DS row in use
  deriving DecidableEq, Repr

/-- Tamper and environment monitors (**R395**-**R411**). -/
structure Tmp where
  locked : Bool := false            -- 1; R411; LOCKED
  erased : Bool := false            -- 1; R411; ERASED
  seedKilled : Bool := false        -- 1; R411; SEED_KILLED
  killRunning : Bool := false       -- 1; R398; seed kill runs
  reserveAlarm : Bool := false      -- 1; R411; RESERVE_ALARM
  exhausted : Bool := false         -- 1; R411; EXHAUSTED
  exhaustMv : Nat := 0              -- 16; R426; cell mV of the exhaustion, in the flash lock record
  exhaustLog : Bool := false        -- 1; R426; RESERVE_EXHAUSTED still to be written to the main logbook
  lockSeq : Nat := 0                -- 32; R411; TMP_LOCK_SEQ
  active : BitVec 11 := 0           -- 11; R411; TMP_ACTIVE
  latched : BitVec 11 := 0          -- 11; R411; TMP_LATCHED
  response : Word := 0x0035403F     -- 32; R411; TMP_RESPONSE
  loopEn : BitVec 4 := 0            -- 4; R411; TMP_LOOP_EN
  loopWin : Tbl (Nat × Nat) := []   -- 4 x 32; R411; TMP_LOOP_WIN (min, max)
  rwiResponse : Word := 0x0035403F  -- 32; R411; TMP_RESPONSE as written while no image is loaded
  rwiLoopEn : BitVec 4 := 0         -- 4; R411; TMP_LOOP_EN as written while no image is loaded
  rwiLoopWin : Tbl Word := []       -- 4 x 32; R411; TMP_LOOP_WIN as written while no image is loaded
  loopR : Tbl Nat := []             -- 4 x 16; R411; TMP_LOOP_R
  temps : List Int := [0, 0, 0, 0]  -- 4 x 16; R411; TMP_TEMP, 1/16 degree
  volts : Tbl Nat := []             -- 6 x 16; R411; TMP_VOLT, mV
  meshFaults : Nat := 0             -- 8; R411; TMP_MESH.FAULTS
  meshTrace : Nat := 0              -- 6; R411; TMP_MESH.TRACE
  meshGen : Nat := 0                -- 64; R401; pattern generator state by the number of its seed [M 7]
  meshSeeded : Bool := false        -- 1; R401; reseeded at this start
  fuseBusy : Option Nat := none     -- 1; R411; TMP_FUSE_STATUS.BUSY with the code burned
  fuseResult : Nat := 0             -- 8; R411; TMP_FUSE_STATUS.RESULT
  shadow : Nat := 0                 -- 16; R411; TMP_SHADOW
  lastAlarm : Nat := 0              -- 64; R411; TMP_LAST_ALARM
  alarms : Nat := 0                 -- 32; R411; TMP_ALARMS
  deriving DecidableEq, Repr

/-- The Warden's cores and pennants (**R412**-**R419**, **R430**). -/
structure Wdn where
  activeB : Bool := false           -- 1; R430; ACTIVE
  aRetired : Bool := false          -- 1; R430; A_RETIRED
  bRetired : Bool := false          -- 1; R430; B_RETIRED
  standby : Bool := false           -- 1; R430; STANDBY_READY
  ckptValid : Bool := false         -- 1; R430; CKPT_VALID
  failovers : Nat := 0              -- 8; R430; FAILOVERS
  pennant : Nat := 1                -- 32; R430; WDN_PENNANT
  stage : Tbl Nat := []             -- 4 x 32; R430; WDN_STAGE0-3
  ckptSeq : Nat := 0                -- 32; R430; WDN_CKPT_SEQ
  ckptTime : Nat := 0               -- 64; R430; WDN_CKPT_TIME
  lastCause : Nat := 0              -- 8; R430; WDN_LAST_FAILOVER.CAUSE
  lastFailed : Bool := false        -- 1; R430; WDN_LAST_FAILOVER.FAILED, true B
  failTime : Nat := 0               -- 64; R430; WDN_FAILOVER_TIME
  failing : Option Bool := none     -- 1; R417; core replaced and not yet self-tested, true B
  lost : Bool := false              -- 1; R418; the Warden is lost
  ignored : Nat := 0                -- 32; R430; WDN_IGNORED
  deriving DecidableEq, Repr

/-- A logbook record (**R422**). -/
structure LogRec where
  typ : Nat := 0                    -- 12; R422; TYPE
  replayed : Bool := false          -- 1; R422; FLAGS [0]
  hardware : Bool := false          -- 1; R422; FLAGS [1]
  core : Bool := false              -- 1; R422; FLAGS [2]
  count : Nat := 1                  -- 16; R422; REPEAT
  seqNo : Nat := 0                  -- 24; R422; SEQUENCE
  first : Nat := 0                  -- 64; R422; MTIME of the first occurrence
  last : Nat := 0                   -- 64; R422; MTIME of the last occurrence
  payload : Bytes := []             -- 8 x LENGTH words; R422; payload
  deriving DecidableEq, Repr

/-- An event in the staging buffer (**R424**). -/
structure LogEvent where
  typ : Nat := 0                    -- 12; R428; event type
  hardware : Bool := false          -- 1; R422; written by hardware
  time : Nat := 0                   -- 64; R422; MTIME
  payload : Bytes := []             -- R428; payload
  deriving DecidableEq, Repr

/-- The two logbooks (**R422**-**R431**). -/
structure Log where
  main : List LogRec := []          -- logbook region; R424; main logbook, newest first
  size : Nat := 0                   -- 32; R431; LOG_SIZE
  used : Nat := 0                   -- 32; R431; LOG_USED
  full : Bool := false              -- 1; R431; FULL
  next : Nat := 0                   -- 24; R431; LOG_NEXT_SEQ
  dropped : Nat := 0                -- 32; R431; LOG_DROPPED
  staging : List LogEvent := []     -- 16 KiB; R424; staging buffer, oldest first
  clearing : Bool := false          -- 1; R431; CLEARING
  rsv : List LogRec := []           -- 16 KiB; R426; reserve logbook, newest first
  rsvUsed : Nat := 0                -- 15; R431; LOG_RSV_USED
  rsvFull : Bool := false           -- 1; R431; RSV_FULL
  rsvNext : Nat := 0                -- 24; R431; LOG_RSV_NEXT_SEQ
  rsvDropped : Nat := 0             -- 32; R431; LOG_RSV_DROPPED
  selRsv : Bool := false            -- 1; R431; LOG_SEL.RESERVE
  selSeq : Nat := 0                 -- 24; R431; LOG_SEL.SEQ
  selBusy : Bool := false           -- 1; R431; LOG_SEL_STATUS.BUSY
  window : Option LogRec := none    -- 516 x 32; R431; record in LOG_WINDOW (VALID)
  deriving DecidableEq, Repr

-- Power, host interface, custody ----------------------------------------------------------------------------------

/-- Supply, reserve and charger (**R432**-**R458**). -/
structure Pwr where
  state : PState := .starting       -- 4; R458; STATE
  startRun : Bool := false          -- 1; R440; the start's steps have run
  cause : Nat := 0                  -- 3; R458; START_CAUSE
  vinValid : Bool := false          -- 1; R458; VIN_VALID
  ovlo : Bool := false              -- 1; R458; OVLO_SEEN
  runHold : BitVec 5 := 0           -- 5; R458; RUN_HOLD, [4] NO_IMAGE [3] UNSEAL [2] LOCKED [1] LIFECYCLE [0] ENTROPY
  vinMv : Nat := 0                  -- 16; R458; PWR_VIN.MV
  power : Nat := 0                  -- 16; R458; PWR_VIN.POWER
  cap : Nat := 0                    -- 16; R458; PWR_CAP.ENERGY, units of 10 uJ
  cellMv : Nat := 0                 -- 16; R458; PWR_CELL.MV
  cellTemp : Int := 0               -- 16; R458; PWR_CELL.TEMP, 1/16 degree
  cellUa : Int := 0                 -- 32; R458; PWR_CELL_I
  phase : Nat := 0                  -- 3; R458; PWR_CHARGE.PHASE
  iset : Nat := 0                   -- 8; R458; PWR_CHARGE.ISET
  steps : Nat := 0                  -- 2; R458; PWR_CHARGE.STEPS
  ccTemp : Int := 0                 -- model; R451; cell temperature at the start of CC
  stepAt : Nat := 0                 -- 64; R451; MTIME of the last step
  fault : BitVec 8 := 0             -- 8; R458; PWR_CELL_FAULT
  remain : Nat := 0                 -- 32; R458; PWR_REMAIN, uA x s [M 19]
  qest : Nat := 0                   -- 32; R458; PWR_QEST, uA x s [M 19]
  cycleAcc : Nat := 0               -- model; R454; discharge counted towards cycles, uA x s [M 19]
  sinceDone : Nat := 0              -- model; R454; discharge counted since the last DONE, uA x s [M 19]
  cycles : Nat := 0                 -- 16; R458; PWR_GAUGE.CYCLES, units of 0.1
  absent : Bool := false            -- 1; R454; the cell has been absent
  profile : Option Profile := none  -- 256; R456; profile in force (none NO_PROFILE)
  rwiProfile : Tbl Word := []       -- 8 x 32; R458; PWR_PROFILE as written while no image is loaded
  vinLost : Nat := 0                -- 64; R458; PWR_VIN_LOST
  reserveTime : Nat := 0            -- 32; R458; PWR_RESERVE_TIME
  lockout : Bool := false           -- 1; R445; a lockout's sequence runs, RESERVE not yet entered
  deriving DecidableEq, Repr

/-- A launched management command in the mailbox (**R466**). -/
structure Held where
  code : BitVec 16 := 0             -- 16; R466; code written
  launch : Launch := {}             -- 512; R466; descriptor snapshot with its outside
  deriving DecidableEq, Repr

/-- What the running management command waits for (**R421**). -/
inductive Running where
  /-- POWER_STATE READY drains (**R436**). -/
  | readyDrain (path : MPath)
  /-- SLICE_RESET drains or squashes (**R313**). -/
  | sliceReset (slice : Nat) (path : MPath)
  /-- SLICE_FREEZE drains (**R312**). -/
  | sliceFreeze (slice : Nat) (path : MPath)
  /-- A transition waits for its charge (**R384**). -/
  | transition (code : Nat) (path : MPath)
  /-- DOMAIN_CREATE HANDOVER waits for STORED and the claim (**R302**). -/
  | handover (domain : Nat) (path : MPath)
  /-- A completed command's output waits for DMA (**R465**, **R467**). -/
  | output (code : Nat) (path : MPath) (addr : Nat) (out : Bytes)
  deriving DecidableEq, Repr

/-- The management window (**R466**-**R470**). -/
structure Mgt where
  desc : Desc := {}                 -- 512; R469; MGT_DESC0-15
  cmd : BitVec 16 := 0              -- 16; R469; MGT_CMD.CODE
  status : Nat := 0                 -- 16; R469; STATUS
  detail : Nat := 0                 -- 32; R469; MGT_DETAIL
  outLen : Nat := 0                 -- 32; R469; MGT_OUT_LEN
  doneCode : BitVec 16 := 0         -- 16; R469; MGT_DONE_CODE
  path : MPath := .bar0             -- 1; R469; PATH
  done : Bool := false              -- 1; R469; DONE
  overrun : Bool := false           -- 1; R469; OVERRUN
  held : List Held := []            -- 4 x 512; R466; mailbox, the running command excluded, oldest first
  running : Option Running := none  -- model; R421; running command that waits (BUSY)
  irq : BitVec 16 := 0              -- 16; R469; MGT_IRQ_STATUS
  irqEnable : BitVec 16 := 0        -- 16; R469; MGT_IRQ_ENABLE
  buf : List Host.Cell := []        -- 32 KiB; R469; MGT_BUF, unlisted bytes 0
  latchBar0 : Option (Nat × Word) := none  -- 32; R11; high word latched for BAR0, with its offset
  latchSmbus : Option (Nat × Word) := none -- 32; R473; high word latched for the SMBus, with its offset
  smbAddr : Nat := 0                -- 32; R473; SMBus register address
  smbPort : Nat := 0x5A             -- 7; R472; SMBus slave address in force
  mtrCurrent : Bool := false        -- 1; R325; MTR_SEL.CURRENT
  mtrSlice : Nat := 0               -- 8; R325; MTR_SEL.SLICE
  mtrAge : Nat := 0                 -- 6; R325; MTR_SEL.AGE
  mtrLast : Nat := 0                -- 64; R325; MTR_LAST_LATCH
  pasidSeen : Bool := false         -- 1; R325; SLC_PASID_FAULT.SEEN
  pasidPage : Nat := 0              -- 8; R325; SLC_PASID_FAULT.PAGE
  pasidPasid : Nat := 0             -- 20; R325; SLC_PASID_FAULT.PASID
  pasidCount : Nat := 0             -- 32; R325; SLC_PASID_COUNT
  deriving DecidableEq, Repr

/-- PCIe function state (**R460**-**R465**, **R471**). -/
structure Pcie where
  link : Bool := false              -- 1; R469; link up
  width : Nat := 0                  -- 4; R469; MGT_LINK.WIDTH negotiated, 0 down
  speed : Nat := 0                  -- 4; R469; MGT_LINK.SPEED negotiated, 0 down
  perst : Bool := false             -- 1; R475; PERST_N asserted
  busMaster : Bool := false         -- 1; R465; Bus Master Enable
  d3hot : Bool := false             -- 1; R461; D3hot
  pasidEnable : Bool := false       -- 1; R463; PASID Enable
  secure : Bool := false            -- 1; R469; IDE_SECURE
  keyed : Bool := false             -- 1; R464; IDE keys programmed
  spdm : Bool := false              -- 1; R464; SPDM secure session open
  unmasked : List Nat := []         -- 2048; R471; MSI-X vectors not masked
  pba : List Nat := []              -- 2048; R471; pending bits set
  credits : Bool := true            -- 1; R94; posted-write credits available and the link in L0 [DC 3]
  deriving DecidableEq, Repr

/-- One custodian port (**R144**, **R367**). -/
structure CardPort where
  present : Bool := false           -- 1; R485; card present
  active : Bool := false            -- 1; R486; card activated
  custodian : Option Nat := none    -- 16; R147; session open, with its custodian ID
  roles : BitVec 8 := 0             -- 8; R147; roles of the custodian
  openedAt : Nat := 0               -- 64; R367; MTIME of OPEN
  key : Nat := 0                    -- 256; R367; card session key, by its number [M 7]
  deriving DecidableEq, Repr

/-- A held approval (**R147**, **R148**). -/
structure Approval where
  number : Nat := 0                 -- 16; R147; approval number
  statement : Bytes := []           -- 512; R146; operation statement
  custodian : Nat := 0              -- 16; R147; custodian ID
  roles : BitVec 8 := 0             -- 8; R148; roles of the custodian
  port : Nat := 0                   -- 1; R147; port
  expiry : Nat := 0                 -- 64; R147; MTIME at which its window expires
  component : Option Bytes := none  -- 256; R368; component in the component buffer
  reserved : Bool := false          -- 1; R148; reserved by a running command
  deriving DecidableEq, Repr

/-- Custodian ports and approvals (**R144**-**R149**). -/
structure Cust where
  port0 : CardPort := {}            -- model; R144; port 0
  port1 : CardPort := {}            -- model; R144; port 1
  approvals : List Approval := []   -- 16 entries; R147; held approvals, oldest first
  nextNumber : Nat := 1             -- 16; R147; approval number given next [DC 3]
  deriving DecidableEq, Repr

/-- The state of the module, with the commands that wait. -/
structure State where
  pending : List Instr := []   -- model; -; commands that wait, first in first out [M 1]
  mtime : Nat := 0             -- 64; R447; MTIME, ns
  frac : Nat := 0              -- model; R447; fraction of MTIME gained in RESERVE, units of 2^-7 ns [M 2]
  img : Img := {}              -- group; R62
  rqs : Rqs := {}              -- group; R66
  slices : Tbl Slice := []     -- 256 slices; R311
  adm : Adm := {}              -- group; R114
  eng : Eng := {}              -- group; R169
  ent : Ent := {}              -- group; R249
  lku : Lku := {}              -- group; R274
  mem : Mem := {}              -- group; R350
  kvt : Kvt := {}              -- group; R376
  fab : Fab := {}              -- group; R306
  lcs : Lcs := {}              -- group; R394
  tmp : Tmp := {}              -- group; R411
  wdn : Wdn := {}              -- group; R430
  log : Log := {}              -- group; R431
  pwr : Pwr := {}              -- group; R458
  mgt : Mgt := {}              -- group; R469
  pcie : Pcie := {}            -- group; R461
  cust : Cust := {}            -- group; R144
  ir : Nat := 0x02             -- 8; R491; JTAG instruction selected, IDCODE after TAP reset
  out : List Out := []         -- model; -; what the module has put on its contacts, newest first [M 6]
  freeCtr : Nat := 0           -- model; -; number of the next free value [M 7]
  deriving DecidableEq, Repr

/-- Why a step stops. -/
inductive Fault where
  /-- Raised by VIN_LOCKOUT for a stress beyond an absolute maximum rating (**R483**: behaviour not defined).
  Safe: the model goes no further than the manual. -/
  | beyondAbsoluteMaximum
  deriving DecidableEq, Repr

/-- Why the model gives a command no meaning. -/
inductive Refusal where
  /-- Raised by the arms of `exec` for a command not modelled yet, by its mnemonic. Safe: the run stops. -/
  | notModelled (mnemonic : String)
  deriving DecidableEq, Repr

/-- The module at the first instant of a start: every register at its Reset column, the start's steps not yet run,
no command waiting [DC 3]. -/
def State.reset : State := {}

end Sys2Proof.Machine
end

