-- ==== Sys2Proof/Machine/Ops.lean ====
section
/-! DEFINITION. Named operations that the meanings share: sparse tables, byte order, memory, free values, the
logbooks, interrupts, and the small facts about the state that many rules test. -/

namespace Sys2Proof.Machine

/-- An outcome of a step of this machine. -/
abbrev Res := Host.Outcome State Fault Refusal

-- Sparse tables -----------------------------------------------------------------------------------------------

/-- The entry of a key, if the table lists one. -/
def tget? {α : Type} : Tbl α → Nat → Option α
  | [], _ => none
  | (k, v) :: t, n => if k = n then some v else tget? t n

/-- The entry of a key, or a default. -/
def tgetD {α : Type} (t : Tbl α) (n : Nat) (d : α) : α := (tget? t n).getD d

/-- The table with one entry set, keys staying in rising order. -/
def tset {α : Type} : Tbl α → Nat → α → Tbl α
  | [], n, v => [(n, v)]
  | (k, w) :: t, n, v =>
    if n < k then (n, v) :: (k, w) :: t
    else if n = k then (n, v) :: t
    else (k, w) :: tset t n v

/-- The table without a key. -/
def terase {α : Type} : Tbl α → Nat → Tbl α
  | [], _ => []
  | (k, w) :: t, n => if k = n then t else (k, w) :: terase t n

/-- The table with one entry changed, absent entries starting from a default. -/
def tupd {α : Type} (t : Tbl α) (n : Nat) (d : α) (f : α → α) : Tbl α := tset t n (f (tgetD t n d))

-- Numbers and byte strings ------------------------------------------------------------------------------------

/-- A counter of `w` bits that stops at its largest value. -/
def satAdd (w n k : Nat) : Nat := min (n + k) (2 ^ w - 1)

/-- Little-endian bytes of a number (**R10**). -/
def leBytes : Nat → Nat → Bytes
  | 0, _ => []
  | k + 1, n => BitVec.ofNat 8 n :: leBytes k (n / 256)

/-- Big-endian bytes of a number. -/
def beBytes (k n : Nat) : Bytes := (leBytes k n).reverse

/-- The number of little-endian bytes (**R10**). -/
def leNat : Bytes → Nat
  | [] => 0
  | b :: r => b.toNat + 256 * leNat r

/-- The number of big-endian bytes. -/
def beNat (l : Bytes) : Nat := l.foldl (fun a b => 256 * a + b.toNat) 0

/-- `n` bytes at an offset, zero beyond the end. -/
def bytesAt (l : Bytes) (off n : Nat) : Bytes := ((l.drop off) ++ List.replicate n 0).take n

/-- A byte string brought to a length: cut, or filled with zeros. -/
def fit (n : Nat) (l : Bytes) : Bytes := (l ++ List.replicate n 0).take n

/-- Bytewise XOR, to the shorter length. -/
def xorBytes (a b : Bytes) : Bytes := List.zipWith (· ^^^ ·) a b

/-- ASCII bytes of a string. -/
def ascii (s : String) : Bytes := s.toList.map fun c => BitVec.ofNat 8 c.toNat

/-- One bit of a natural number. -/
def nbit (n i : Nat) : Bool := n.testBit i

/-- A Bool as a number. -/
def b2n (b : Bool) : Nat := if b then 1 else 0

/-- A signed number in two's complement of `w` bits. -/
def twos (w : Nat) (i : Int) : Nat := (i % (2 ^ w : Nat)).toNat

-- Memory in canonical form --------------------------------------------------------------------------------------

/-- The byte at an address: an unlisted byte reads 0 (log entry 11). -/
def cellGet : List Host.Cell → Nat → Byte
  | [], _ => 0
  | (x, c) :: r, a => if x = a then c else cellGet r a

/-- One byte written: addresses stay rising, and a 0 leaves no entry. -/
def cellSet : List Host.Cell → Nat → Byte → List Host.Cell
  | [], a, b => if b = 0 then [] else [(a, b)]
  | (x, c) :: r, a, b =>
    if a < x then (if b = 0 then (x, c) :: r else (a, b) :: (x, c) :: r)
    else if a = x then (if b = 0 then r else (a, b) :: r)
    else (x, c) :: cellSet r a b

/-- `n` bytes read from an address up. -/
def cellsRead (m : List Host.Cell) (a : Nat) : Nat → Bytes
  | 0 => []
  | n + 1 => cellGet m a :: cellsRead m (a + 1) n

/-- A byte string written from an address up. -/
def cellsWrite : List Host.Cell → Nat → Bytes → List Host.Cell
  | m, _, [] => m
  | m, a, b :: r => cellsWrite (cellSet m a b) (a + 1) r

/-- Every byte from `a` up to `a + n - 1` at 0. -/
def cellsClear (m : List Host.Cell) (a n : Nat) : List Host.Cell :=
  m.filter fun c => !(a ≤ c.1 && c.1 < a + n)

/-- The canonical form of a cell list: addresses rising, no entry equal to what an unlisted byte reads. -/
def cellsWf : List Host.Cell → Bool
  | [] => true
  | [(_, b)] => b != 0
  | (x, b) :: (y, c) :: r => b != 0 && decide (x < y) && cellsWf ((y, c) :: r)

/-- The memory keeps its canonical form. -/
def Mem.wf (m : Mem) : Bool := cellsWf m.cells

/-- The colour of the line that holds an address (**R337**, **R348**): unlisted lines carry 0x3FF. -/
def lineColour (m : Mem) (line : Nat) : Nat := tgetD m.colours line 0x3FF

/-- One line's colour set; 0x3FF leaves no entry. -/
def setColour (m : Mem) (line c : Nat) : Mem :=
  { m with colours := if c = 0x3FF then terase m.colours line else tset m.colours line c }

/-- `n` lines' colour set. -/
def setColours (m : Mem) (line c : Nat) : Nat → Mem
  | 0 => m
  | n + 1 => setColours (setColour m line c) (line + 1) c n

/-- A release (**R337**): zero data and colour 0x3FF over `n` lines, which also ends any uncorrectable state. -/
def releaseLines (m : Mem) (line n : Nat) : Mem :=
  { m with cells := cellsClear m.cells (64 * line) (64 * n)
           colours := m.colours.filter fun p => !(line ≤ p.1 && p.1 < line + n) }

/-- The first line of vault memory in the internal space (**R327**): 0x10_0000_0000 / 64. -/
def vaultLine0 : Nat := 0x1000000000 / 64

-- Free values ---------------------------------------------------------------------------------------------------

/-- A fresh free value's number, and the state with the counter advanced (log entry 7). -/
def draw (s : State) : Nat × State := (s.freeCtr, { s with freeCtr := s.freeCtr + 1 })

/-- `n` free bytes of a draw. -/
def freeBytes (ctr n : Nat) : Bytes := leBytes n (Config.freeBits (8 * n) ctr).toNat

-- Outputs -------------------------------------------------------------------------------------------------------

/-- One more thing put on the contacts. -/
def emit (o : Out) (s : State) : State := { s with out := o :: s.out }

-- Logbooks ------------------------------------------------------------------------------------------------------

/-- Payload padded to whole words of 8 bytes (**R428**). -/
def padWords (p : Bytes) : Bytes := fit (8 * ((p.length + 7) / 8)) p

/-- Bytes of a record with a payload (**R422**). -/
def recBytes (p : Bytes) : Nat := 24 + (padWords p).length

/-- Bytes that the staging buffer holds (**R424**). -/
def stagedBytes (l : List LogEvent) : Nat := l.foldl (fun n e => n + recBytes e.payload) 0

/-- Post an event into the staging buffer, or count it as dropped when the 16 KiB are full (**R424**). -/
def logEvent (typ : Nat) (payload : Bytes) (s : State) : State :=
  if stagedBytes s.log.staging + recBytes payload ≤ 16384 then
    { s with log := { s.log with staging := s.log.staging ++ [{ typ := typ, time := s.mtime, payload := payload }] } }
  else { s with log := { s.log with dropped := satAdd 32 s.log.dropped 1 } }

/-- Write one event to the main logbook: a repeat of the last record (**R423**), a new record, or, where fewer than
64 bytes would remain, LOG_FULL and nothing more (**R424**). -/
def logWrite (coreB : Bool) (replayed : Bool) (e : LogEvent) (count : Nat) (last : Nat) (l : Log) : Log :=
  if l.full then { l with dropped := satAdd 32 l.dropped count }
  else
    let repeats := match l.main with
      | r :: _ => r.typ = e.typ && r.payload = padWords e.payload && r.replayed = replayed
      | [] => false
    if repeats then
      match l.main with
      | r :: rest => { l with main := { r with count := min 65535 (r.count + count), last := last } :: rest }
      | [] => l
    else if l.used + recBytes e.payload + 64 ≤ l.size then
      { l with
        main := { typ := e.typ, replayed := replayed, hardware := e.hardware, core := coreB, count := count,
                  seqNo := l.next, first := e.time, last := last, payload := padWords e.payload } :: l.main
        used := l.used + recBytes e.payload
        next := (l.next + 1) % 2 ^ 24 }
    else
      { l with
        main := { typ := 0xD01, core := coreB, seqNo := l.next, first := e.time, last := e.time } :: l.main
        used := l.used + 24
        next := (l.next + 1) % 2 ^ 24
        full := true
        dropped := satAdd 32 l.dropped count }

/-- The staging buffer written out (**R424**). -/
def logFlush (coreB : Bool) (l : Log) : Log :=
  l.staging.foldl (fun l e => logWrite coreB false e 1 e.time l) { l with staging := [] }

/-- The sequence number of the record that the newest posted event has or will have (**R80** DETAIL of
DEVICE_FAULT). -/
def lastSeq (s : State) : Nat :=
  match (logFlush s.wdn.activeB s.log).main with
  | r :: _ => r.seqNo
  | [] => s.log.next

/-- An event written by hardware into the reserve logbook (**R426**), by the rules of the main one. -/
def logReserve (typ : Nat) (payload : Bytes) (s : State) : State :=
  let l := s.log
  let stamp := s.mtime
  if l.rsvFull then { s with log := { l with rsvDropped := satAdd 32 l.rsvDropped 1 } }
  else
    let repeats := match l.rsv with
      | r :: _ => r.typ = typ && r.payload = padWords payload && !r.replayed
      | [] => false
    if repeats then
      match l.rsv with
      | r :: rest =>
        { s with log := { l with rsv := { r with count := min 65535 (r.count + 1), last := stamp } :: rest } }
      | [] => s
    else if l.rsvUsed + recBytes payload + 64 ≤ 16384 then
      { s with log := { l with
          rsv := { typ := typ, hardware := true, seqNo := l.rsvNext, first := stamp, last := stamp,
                   payload := padWords payload } :: l.rsv
          rsvUsed := l.rsvUsed + recBytes payload
          rsvNext := (l.rsvNext + 1) % 2 ^ 24 } }
    else
      { s with log := { l with
          rsv := { typ := 0xD01, hardware := true, seqNo := l.rsvNext, first := stamp, last := stamp } :: l.rsv
          rsvUsed := l.rsvUsed + 24
          rsvNext := (l.rsvNext + 1) % 2 ^ 24
          rsvFull := true
          rsvDropped := satAdd 32 l.rsvDropped 1 } }

-- Facts about the state -----------------------------------------------------------------------------------------

/-- Encoding of a power state (**R434**). -/
def PState.code : PState → Nat
  | .off => 0 | .reserve => 1 | .sleep => 2 | .ready => 3 | .run => 4 | .starting => 5

/-- Encoding of a life-cycle state (**R378**). -/
def LState.code : LState → Nat
  | .maker => 1 | .integrator => 2 | .fielded => 3 | .returned => 4 | .scrapped => 5 | .invalid => 0xF

/-- Encoding of a slice state (**R311**). -/
def SState.code : SState → Nat
  | .disabled => 0 | .active => 1 | .resetting => 2 | .freezing => 3 | .frozen => 4 | .saved => 5

/-- DETAIL of REFUSED_STATE (**R80**): power state, life-cycle state, bit 8 locked. -/
def stateDetail (s : State) : Nat :=
  s.pwr.state.code + 16 * s.lcs.state.code + 256 * b2n s.tmp.locked

/-- RUN outside the drain of POWER_STATE READY and the sequence of a lockout (**R436**, **R445**). -/
def running (s : State) : Bool := s.pwr.state == .run && s.rqs.readyDrain.isNone && !s.pwr.lockout

/-- ADM_STATUS.ARMED (**R114**, **R436**, **R445**): RUN, FIELDED and not locked. -/
def armed (s : State) : Bool := running s && s.lcs.state == .fielded && !s.tmp.locked

/-- The slice's record. -/
def slice (s : State) (n : Nat) : Slice := tgetD s.slices n {}

/-- The state with one slice changed. -/
def updSlice (n : Nat) (f : Slice → Slice) (s : State) : State := { s with slices := tupd s.slices n {} f }

/-- The tenant entry of a slice; an entry the image disables is the empty one. -/
def tenant (s : State) (n : Nat) : Tenant :=
  match s.img.cfg with
  | some c => tgetD c.tenants n {}
  | none => {}

/-- The slice is enabled by the loaded image (**R39**). -/
def enabled (s : State) (n : Nat) : Bool := (tenant s n).flags.getLsbD 0

/-- The queue of a slice, if it exists. -/
def queue? (s : State) (sl q : Nat) : Option Queue := tget? s.rqs.queues (16 * sl + q)

/-- The state with one queue set. -/
def setQueue (sl q : Nat) (x : Queue) (s : State) : State :=
  { s with rqs := { s.rqs with queues := tset s.rqs.queues (16 * sl + q) x } }

/-- A live request by its number. -/
def findReq (s : State) (rid : Nat) : Option Req := s.rqs.live.find? fun r => r.rid == rid

/-- The state with one live request changed. -/
def updReq (rid : Nat) (f : Req → Req) (s : State) : State :=
  { s with rqs := { s.rqs with live := s.rqs.live.map fun r => if r.rid = rid then f r else r } }

/-- The state without one live request. -/
def dropReq (rid : Nat) (s : State) : State :=
  { s with rqs := { s.rqs with live := s.rqs.live.filter fun r => r.rid != rid } }

/-- The class of a descriptor (**R74**); CLASS 0 counts as PENNON where a class is asked for. -/
def clsOf (d : Desc) : RClass :=
  if d.cls.toNat % 4 = 1 then .ensign else if d.cls.toNat % 4 = 3 then .streamer else .pennon

/-- Index of a class: 0 ENSIGN, 1 PENNON, 2 STREAMER (**R322**). -/
def RClass.idx : RClass → Nat
  | .ensign => 0 | .pennon => 1 | .streamer => 2

/-- The request is ENSIGN. -/
def Req.isEnsign (r : Req) : Bool := clsOf r.desc == .ensign

-- Interrupts ------------------------------------------------------------------------------------------------------

/-- The module may issue DMA and messages (**R464**, **R465**, **R94**). -/
def canDma (s : State) : Bool :=
  s.pcie.link && s.pcie.busMaster && !s.pcie.d3hot && s.pcie.credits &&
  (match s.img.cfg with
   | some c => !c.mgtFlags.getLsbD 3 || s.pcie.secure
   | none => true)

/-- Send an MSI-X message, or set its pending bit while it is masked (**R471**). -/
def sendMsix (v : Nat) (s : State) : State :=
  if s.pcie.unmasked.contains v && canDma s then emit (.msix v) s
  else if s.pcie.pba.contains v then s
  else { s with pcie := { s.pcie with pba := v :: s.pcie.pba } }

/-- Management event *v* (**R470**): a bit that was clear is set, and the vector is sent where it is enabled. -/
def raise (v : Nat) (s : State) : State :=
  if s.mgt.irq.getLsbD v then s
  else
    let t := { s with mgt := { s.mgt with irq := s.mgt.irq ||| BitVec.ofNat 16 (2 ^ v) } }
    if s.mgt.irqEnable.getLsbD v then sendMsix v t else t

/-- LOG raised where a logbook has become full since `old` (**R470**, vector 11). -/
def noteFull (old : State) (s : State) : State :=
  if (s.log.full && !old.log.full) || (s.log.rsvFull && !old.log.rsvFull) then raise 11 s else s

/-- The staging buffer written to the main logbook (**R424**). -/
def flushLog (s : State) : State := noteFull s { s with log := logFlush s.wdn.activeB s.log }

/-- FAB_EVENT bit set, raising FABRIC when it becomes set (**R306**). -/
def fabEvent (b : Nat) (s : State) : State :=
  if s.fab.event.getLsbD b then s
  else raise 5 { s with fab := { s.fab with event := s.fab.event ||| BitVec.ofNat 9 (2 ^ b) } }

/-- RUN_HOLD as the conditions of **R442** make it. -/
def holdBits (s : State) : BitVec 5 :=
  BitVec.ofNat 5 (16 * b2n s.img.cfg.isNone + 8 * b2n s.kvt.vs.isNone + 4 * b2n s.tmp.locked +
    2 * b2n (!(s.lcs.state == .integrator || s.lcs.state == .fielded)) + b2n (!s.ent.startupDone))

/-- RUN_HOLD recomputed (**R442**); a bit that becomes set raises POWER (**R470**). -/
def refreshHold (s : State) : State :=
  let h := holdBits s
  let t := { s with pwr := { s.pwr with runHold := h } }
  if h &&& ~~~ s.pwr.runHold = 0 then t else raise 12 t

/-- A change of power state, logged as PWR_STATE (**R435**). -/
def setPState (p : PState) (s : State) : State :=
  logEvent 0xE01 [BitVec.ofNat 8 s.pwr.state.code, BitVec.ofNat 8 p.code] { s with pwr := { s.pwr with state := p } }

/-- A checkpoint (**R415**): sequence, time and validity. -/
def checkpoint (s : State) : State :=
  { s with wdn := { s.wdn with ckptSeq := (s.wdn.ckptSeq + 1) % 2 ^ 32, ckptTime := s.mtime, ckptValid := true } }

/-- A write to an output stage by a core that carries a pennant (**R419**): refused and logged below the held one. -/
def stageWrite (st p : Nat) (s : State) (apply : State → State) : State :=
  if p < tgetD s.wdn.stage st 0 then
    logEvent 0xC06 (BitVec.ofNat 8 st :: leBytes 4 p) s
  else apply { s with wdn := { s.wdn with stage := tset s.wdn.stage st p } }

-- Fuses -----------------------------------------------------------------------------------------------------------

/-- `n` fuses from bit `i` up (**R392**). -/
def fuseField (f : BitVec 16384) (i n : Nat) : Nat := (f.toNat / 2 ^ i) % 2 ^ n

/-- Fuses blown: a fuse never returns to 0 (**R392**). -/
def fuseBlow (f : BitVec 16384) (i v : Nat) : BitVec 16384 := f ||| BitVec.ofNat 16384 (v * 2 ^ i)

/-- Number of set bits of the low `n` bits. -/
def popcount : Nat → Nat → Nat
  | 0, _ => 0
  | n + 1, v => v % 2 + popcount n (v / 2)

/-- Energy, in units of 10 uJ, that the capacitor must hold for a burn of `b` bits outside a transition (**R444**):
16 mJ and 35 uJ a bit. -/
def burnEnergy (b : Nat) : Nat := 1600 + (35 * b + 9) / 10

/-- PWR_STATUS.CAP_FULL (**R443**): 44 mJ or more. -/
def capFull (s : State) : Bool := 4400 ≤ s.pwr.cap

/-- The OTP level: rollback fuses blown (**R53**). -/
def otpLevel (s : State) : Nat := popcount 256 (fuseField s.lcs.fuse 896 256)

/-- The rollback floor (**R53**): the greater of (OTP level, 0) and the vault counter record. -/
def rollFloor (s : State) : Nat × Nat :=
  match s.img.vaultCtr with
  | some (l, m) => if otpLevel s ≤ l then (l, m) else (otpLevel s, 0)
  | none => (otpLevel s, 0)

end Sys2Proof.Machine
end

