-- ==== Sys2Proof/Machine/Ciphers.lean ====
section
/-! DEFINITION. Block ciphers of the lanes: AES (FIPS 197), DES and TDEA (FIPS 46-3), on byte strings
(**R117**-**R159**; log entry 8). -/

namespace Sys2Proof.Machine

-- AES -----------------------------------------------------------------------------------------------------------

/-- Multiplication by x in GF(2^8). -/
def xtime (b : Byte) : Byte := if b.msb then (b <<< 1) ^^^ 0x1B else b <<< 1

/-- Multiplication in GF(2^8), over the low `n` bits of the second factor. -/
def gmulN : Nat → Byte → Byte → Byte
  | 0, _, _ => 0
  | n + 1, a, b => (if b.getLsbD 0 then a else 0) ^^^ gmulN n (xtime a) (b >>> 1)

/-- Multiplication in GF(2^8). -/
def gmul (a b : Byte) : Byte := gmulN 8 a b

/-- The inverse in GF(2^8), 0 for 0: the 254th power. -/
def ginv (a : Byte) : Byte :=
  let a2 := gmul a a
  let a4 := gmul a2 a2
  let a8 := gmul a4 a4
  let a16 := gmul a8 a8
  let a32 := gmul a16 a16
  let a64 := gmul a32 a32
  let a128 := gmul a64 a64
  gmul a128 (gmul a64 (gmul a32 (gmul a16 (gmul a8 (gmul a4 a2)))))

/-- The S-box. -/
def aesSub (a : Byte) : Byte :=
  let b := ginv a
  b ^^^ b.rotateLeft 1 ^^^ b.rotateLeft 2 ^^^ b.rotateLeft 3 ^^^ b.rotateLeft 4 ^^^ 0x63

/-- The inverse S-box. -/
def aesInvSub (a : Byte) : Byte :=
  ginv (a.rotateLeft 1 ^^^ a.rotateLeft 3 ^^^ a.rotateLeft 6 ^^^ 0x05)

/-- Further words of the key schedule: the last `nk` words newest first, how many words still to make. -/
def aesExpand (nk : Nat) : Nat → Nat → Byte → List Bytes → List Bytes
  | 0, _, _, ws => ws.reverse
  | n + 1, i, rcon, ws =>
    let prev := ws.headD []
    let back := ws.getD (nk - 1) []
    if i % nk = 0 then
      let t := match prev.map aesSub with
        | a :: b :: r => (b ^^^ rcon) :: (r ++ [a])
        | r => r
      aesExpand nk n (i + 1) (xtime rcon) (xorBytes back t :: ws)
    else if 6 < nk ∧ i % nk = 4 then aesExpand nk n (i + 1) rcon (xorBytes back (prev.map aesSub) :: ws)
    else aesExpand nk n (i + 1) rcon (xorBytes back prev :: ws)

/-- A byte string cut into pieces of `n` bytes, at most `fuel` of them. -/
def chunksN (n : Nat) : Nat → Bytes → List Bytes
  | 0, _ => []
  | fuel + 1, l => if l.isEmpty then [] else l.take n :: chunksN n fuel (l.drop n)

/-- A byte string cut into pieces of `n` bytes. -/
def chunks (n : Nat) (l : Bytes) : List Bytes := chunksN n l.length l

/-- The round keys of a key of 16, 24 or 32 bytes, 16 bytes each. -/
def aesRoundKeys (key : Bytes) : List Bytes :=
  let nk := key.length / 4
  let ws := aesExpand nk (4 * (nk + 7) - nk) nk 1 (chunks 4 key).reverse
  chunks 16 ws.flatten

/-- ShiftRows on the 16 bytes of a state, column by column. -/
def shiftRows (s : Bytes) : Bytes :=
  [0, 5, 10, 15, 4, 9, 14, 3, 8, 13, 2, 7, 12, 1, 6, 11].map fun i => s.getD i 0

/-- Inverse ShiftRows. -/
def invShiftRows (s : Bytes) : Bytes :=
  [0, 13, 10, 7, 4, 1, 14, 11, 8, 5, 2, 15, 12, 9, 6, 3].map fun i => s.getD i 0

/-- One column times a circulant matrix with first row `a b c d`. -/
def mixCol (a b c d : Byte) : Bytes → Bytes
  | [w, x, y, z] =>
    [gmul a w ^^^ gmul b x ^^^ gmul c y ^^^ gmul d z, gmul d w ^^^ gmul a x ^^^ gmul b y ^^^ gmul c z,
     gmul c w ^^^ gmul d x ^^^ gmul a y ^^^ gmul b z, gmul b w ^^^ gmul c x ^^^ gmul d y ^^^ gmul a z]
  | l => l

/-- MixColumns. -/
def mixColumns (s : Bytes) : Bytes := ((chunks 4 s).map (mixCol 2 3 1 1)).flatten

/-- Inverse MixColumns. -/
def invMixColumns (s : Bytes) : Bytes := ((chunks 4 s).map (mixCol 14 11 13 9)).flatten

/-- The rounds after the first key addition; the last has no MixColumns. -/
def aesEncRounds : List Bytes → Bytes → Bytes
  | [], s => s
  | [k], s => xorBytes (shiftRows (s.map aesSub)) k
  | k :: ks, s => aesEncRounds ks (xorBytes (mixColumns (shiftRows (s.map aesSub))) k)

/-- Encryption of one block. -/
def aesEnc (key block : Bytes) : Bytes :=
  match aesRoundKeys key with
  | k :: ks => aesEncRounds ks (xorBytes block k)
  | [] => block

/-- The rounds of decryption, keys from the last but one down. -/
def aesDecRounds : List Bytes → Bytes → Bytes
  | [], s => s
  | [k], s => xorBytes ((invShiftRows s).map aesInvSub) k
  | k :: ks, s => aesDecRounds ks (invMixColumns (xorBytes ((invShiftRows s).map aesInvSub) k))

/-- Decryption of one block. -/
def aesDec (key block : Bytes) : Bytes :=
  match (aesRoundKeys key).reverse with
  | k :: ks => aesDecRounds ks (xorBytes block k)
  | [] => block

-- DES -----------------------------------------------------------------------------------------------------------

/-- Initial permutation (FIPS 46-3), bit 1 the leftmost. -/
def desIp : List Nat :=
  [58, 50, 42, 34, 26, 18, 10, 2, 60, 52, 44, 36, 28, 20, 12, 4] ++
  [62, 54, 46, 38, 30, 22, 14, 6, 64, 56, 48, 40, 32, 24, 16, 8] ++
  [57, 49, 41, 33, 25, 17, 9, 1, 59, 51, 43, 35, 27, 19, 11, 3] ++
  [61, 53, 45, 37, 29, 21, 13, 5, 63, 55, 47, 39, 31, 23, 15, 7]

/-- Final permutation. -/
def desFp : List Nat :=
  [40, 8, 48, 16, 56, 24, 64, 32, 39, 7, 47, 15, 55, 23, 63, 31] ++
  [38, 6, 46, 14, 54, 22, 62, 30, 37, 5, 45, 13, 53, 21, 61, 29] ++
  [36, 4, 44, 12, 52, 20, 60, 28, 35, 3, 43, 11, 51, 19, 59, 27] ++
  [34, 2, 42, 10, 50, 18, 58, 26, 33, 1, 41, 9, 49, 17, 57, 25]

/-- Expansion. -/
def desE : List Nat :=
  [32, 1, 2, 3, 4, 5, 4, 5, 6, 7, 8, 9, 8, 9, 10, 11, 12, 13, 12, 13, 14, 15, 16, 17] ++
  [16, 17, 18, 19, 20, 21, 20, 21, 22, 23, 24, 25, 24, 25, 26, 27, 28, 29, 28, 29, 30, 31, 32, 1]

/-- Permutation P. -/
def desP : List Nat :=
  [16, 7, 20, 21, 29, 12, 28, 17, 1, 15, 23, 26, 5, 18, 31, 10] ++
  [2, 8, 24, 14, 32, 27, 3, 9, 19, 13, 30, 6, 22, 11, 4, 25]

/-- Permuted choice 1. -/
def desPc1 : List Nat :=
  [57, 49, 41, 33, 25, 17, 9, 1, 58, 50, 42, 34, 26, 18, 10, 2, 59, 51, 43, 35, 27, 19, 11, 3, 60, 52, 44, 36] ++
  [63, 55, 47, 39, 31, 23, 15, 7, 62, 54, 46, 38, 30, 22, 14, 6, 61, 53, 45, 37, 29, 21, 13, 5, 28, 20, 12, 4]

/-- Permuted choice 2. -/
def desPc2 : List Nat :=
  [14, 17, 11, 24, 1, 5, 3, 28, 15, 6, 21, 10, 23, 19, 12, 4, 26, 8, 16, 7, 27, 20, 13, 2] ++
  [41, 52, 31, 37, 47, 55, 30, 40, 51, 45, 33, 48, 44, 49, 39, 56, 34, 53, 46, 42, 50, 36, 29, 32]

/-- Left shifts of the key schedule. -/
def desShift : List Nat :=
  [1, 1, 2, 2, 2, 2, 2, 2, 1, 2, 2, 2, 2, 2, 2, 1]

/-- S-box 1, row by row. -/
def desS1 : List Nat :=
  [14, 4, 13, 1, 2, 15, 11, 8, 3, 10, 6, 12, 5, 9, 0, 7] ++
  [0, 15, 7, 4, 14, 2, 13, 1, 10, 6, 12, 11, 9, 5, 3, 8] ++
  [4, 1, 14, 8, 13, 6, 2, 11, 15, 12, 9, 7, 3, 10, 5, 0] ++
  [15, 12, 8, 2, 4, 9, 1, 7, 5, 11, 3, 14, 10, 0, 6, 13]

/-- S-box 2, row by row. -/
def desS2 : List Nat :=
  [15, 1, 8, 14, 6, 11, 3, 4, 9, 7, 2, 13, 12, 0, 5, 10] ++
  [3, 13, 4, 7, 15, 2, 8, 14, 12, 0, 1, 10, 6, 9, 11, 5] ++
  [0, 14, 7, 11, 10, 4, 13, 1, 5, 8, 12, 6, 9, 3, 2, 15] ++
  [13, 8, 10, 1, 3, 15, 4, 2, 11, 6, 7, 12, 0, 5, 14, 9]

/-- S-box 3, row by row. -/
def desS3 : List Nat :=
  [10, 0, 9, 14, 6, 3, 15, 5, 1, 13, 12, 7, 11, 4, 2, 8] ++
  [13, 7, 0, 9, 3, 4, 6, 10, 2, 8, 5, 14, 12, 11, 15, 1] ++
  [13, 6, 4, 9, 8, 15, 3, 0, 11, 1, 2, 12, 5, 10, 14, 7] ++
  [1, 10, 13, 0, 6, 9, 8, 7, 4, 15, 14, 3, 11, 5, 2, 12]

/-- S-box 4, row by row. -/
def desS4 : List Nat :=
  [7, 13, 14, 3, 0, 6, 9, 10, 1, 2, 8, 5, 11, 12, 4, 15] ++
  [13, 8, 11, 5, 6, 15, 0, 3, 4, 7, 2, 12, 1, 10, 14, 9] ++
  [10, 6, 9, 0, 12, 11, 7, 13, 15, 1, 3, 14, 5, 2, 8, 4] ++
  [3, 15, 0, 6, 10, 1, 13, 8, 9, 4, 5, 11, 12, 7, 2, 14]

/-- S-box 5, row by row. -/
def desS5 : List Nat :=
  [2, 12, 4, 1, 7, 10, 11, 6, 8, 5, 3, 15, 13, 0, 14, 9] ++
  [14, 11, 2, 12, 4, 7, 13, 1, 5, 0, 15, 10, 3, 9, 8, 6] ++
  [4, 2, 1, 11, 10, 13, 7, 8, 15, 9, 12, 5, 6, 3, 0, 14] ++
  [11, 8, 12, 7, 1, 14, 2, 13, 6, 15, 0, 9, 10, 4, 5, 3]

/-- S-box 6, row by row. -/
def desS6 : List Nat :=
  [12, 1, 10, 15, 9, 2, 6, 8, 0, 13, 3, 4, 14, 7, 5, 11] ++
  [10, 15, 4, 2, 7, 12, 9, 5, 6, 1, 13, 14, 0, 11, 3, 8] ++
  [9, 14, 15, 5, 2, 8, 12, 3, 7, 0, 4, 10, 1, 13, 11, 6] ++
  [4, 3, 2, 12, 9, 5, 15, 10, 11, 14, 1, 7, 6, 0, 8, 13]

/-- S-box 7, row by row. -/
def desS7 : List Nat :=
  [4, 11, 2, 14, 15, 0, 8, 13, 3, 12, 9, 7, 5, 10, 6, 1] ++
  [13, 0, 11, 7, 4, 9, 1, 10, 14, 3, 5, 12, 2, 15, 8, 6] ++
  [1, 4, 11, 13, 12, 3, 7, 14, 10, 15, 6, 8, 0, 5, 9, 2] ++
  [6, 11, 13, 8, 1, 4, 10, 7, 9, 5, 0, 15, 14, 2, 3, 12]

/-- S-box 8, row by row. -/
def desS8 : List Nat :=
  [13, 2, 8, 4, 6, 15, 11, 1, 10, 9, 3, 14, 5, 0, 12, 7] ++
  [1, 15, 13, 8, 10, 3, 7, 4, 12, 5, 6, 11, 0, 14, 9, 2] ++
  [7, 11, 4, 1, 9, 12, 14, 2, 0, 6, 10, 13, 15, 3, 5, 8] ++
  [2, 1, 14, 7, 4, 10, 8, 13, 15, 12, 9, 0, 3, 5, 6, 11]

/-- The bits of a byte string, leftmost first. -/
def bitsOf (l : Bytes) : List Bool := (l.map fun b => [7, 6, 5, 4, 3, 2, 1, 0].map b.getLsbD).flatten

/-- The number of a bit string, leftmost first. -/
def bitsNat (l : List Bool) : Nat := l.foldl (fun n b => 2 * n + b2n b) 0

/-- The bytes of a bit string, leftmost first. -/
def bytesOfBits (l : List Bool) : Bytes := beBytes (l.length / 8) (bitsNat l)

/-- Bits chosen by a table of positions from 1. -/
def pick (t : List Nat) (l : List Bool) : List Bool := t.map fun i => l.getD (i - 1) false

/-- Four bits of an S-box output. -/
def nibbleBits (n : Nat) : List Bool := [n.testBit 3, n.testBit 2, n.testBit 1, n.testBit 0]

/-- One S-box on six bits. -/
def desSbox (t : List Nat) (l : List Bool) : List Bool :=
  nibbleBits (t.getD (16 * (2 * b2n (l.getD 0 false) + b2n (l.getD 5 false)) + bitsNat ((l.drop 1).take 4)) 0)

/-- The cipher function. -/
def desF (r k : List Bool) : List Bool :=
  let x := List.zipWith xor (pick desE r) k
  pick desP (desSbox desS1 (x.take 6) ++ desSbox desS2 ((x.drop 6).take 6) ++ desSbox desS3 ((x.drop 12).take 6) ++
    desSbox desS4 ((x.drop 18).take 6) ++ desSbox desS5 ((x.drop 24).take 6) ++ desSbox desS6 ((x.drop 30).take 6) ++
    desSbox desS7 ((x.drop 36).take 6) ++ desSbox desS8 ((x.drop 42).take 6))

/-- The round keys from the two halves. -/
def desKeys : List Nat → List Bool → List Bool → List (List Bool)
  | [], _, _ => []
  | n :: t, c, d =>
    let c' := c.rotateLeft n
    let d' := d.rotateLeft n
    pick desPc2 (c' ++ d') :: desKeys t c' d'

/-- The sixteen rounds. -/
def desRounds : List (List Bool) → List Bool → List Bool → List Bool
  | [], l, r => r ++ l
  | k :: ks, l, r => desRounds ks r (List.zipWith xor l (desF r k))

/-- The round keys of an 8-byte key. -/
def desSchedule (key : Bytes) : List (List Bool) :=
  let p := pick desPc1 (bitsOf key)
  desKeys desShift (p.take 28) (p.drop 28)

/-- DES with given round keys. -/
def desRun (ks : List (List Bool)) (block : Bytes) : Bytes :=
  let p := pick desIp (bitsOf block)
  bytesOfBits (pick desFp (desRounds ks (p.take 32) (p.drop 32)))

/-- One single-DES encryption step (**R128**). -/
def desEnc (key block : Bytes) : Bytes := desRun (desSchedule key) block

/-- One single-DES decryption step. -/
def desDec (key block : Bytes) : Bytes := desRun (desSchedule key).reverse block

/-- Component keys of a 16- or 24-byte TDEA key. -/
def tdeaK (key : Bytes) (i : Nat) : Bytes :=
  if i = 2 ∧ key.length < 24 then key.take 8 else (key.drop (8 * i)).take 8

/-- TDEA encryption of one block. -/
def tdeaEnc (key block : Bytes) : Bytes := desEnc (tdeaK key 2) (desDec (tdeaK key 1) (desEnc (tdeaK key 0) block))

/-- TDEA decryption of one block. -/
def tdeaDec (key block : Bytes) : Bytes := desDec (tdeaK key 0) (desEnc (tdeaK key 1) (desDec (tdeaK key 2) block))

/-- Odd DES parity set in every byte (**R129**, **R150**). -/
def oddParity (key : Bytes) : Bytes :=
  key.map fun b => if popcount 8 (b.toNat / 2) % 2 = 0 then (b &&& 0xFE) ||| 1 else b &&& 0xFE

end Sys2Proof.Machine
end

