-- ==== Sys2Proof/Machine/Digests.lean ====
section
/-! DEFINITION. Digest functions of the digest units: SHA-2 (FIPS 180-4), Keccak-f[1600] and SHA-3 (FIPS 202),
HMAC (FIPS 198-1) and SipHash-2-4 (**R161**-**R165**, **R262**; log entry 8). -/

namespace Sys2Proof.Machine

-- SHA-2 ---------------------------------------------------------------------------------------------------------

/-- Round constants of SHA-512 (FIPS 180-4 §4.2.3); SHA-256 uses the high half of the first 64. -/
def sha512K : List (BitVec 64) :=
  [0x428A2F98D728AE22, 0x7137449123EF65CD, 0xB5C0FBCFEC4D3B2F, 0xE9B5DBA58189DBBC] ++
  [0x3956C25BF348B538, 0x59F111F1B605D019, 0x923F82A4AF194F9B, 0xAB1C5ED5DA6D8118] ++
  [0xD807AA98A3030242, 0x12835B0145706FBE, 0x243185BE4EE4B28C, 0x550C7DC3D5FFB4E2] ++
  [0x72BE5D74F27B896F, 0x80DEB1FE3B1696B1, 0x9BDC06A725C71235, 0xC19BF174CF692694] ++
  [0xE49B69C19EF14AD2, 0xEFBE4786384F25E3, 0x0FC19DC68B8CD5B5, 0x240CA1CC77AC9C65] ++
  [0x2DE92C6F592B0275, 0x4A7484AA6EA6E483, 0x5CB0A9DCBD41FBD4, 0x76F988DA831153B5] ++
  [0x983E5152EE66DFAB, 0xA831C66D2DB43210, 0xB00327C898FB213F, 0xBF597FC7BEEF0EE4] ++
  [0xC6E00BF33DA88FC2, 0xD5A79147930AA725, 0x06CA6351E003826F, 0x142929670A0E6E70] ++
  [0x27B70A8546D22FFC, 0x2E1B21385C26C926, 0x4D2C6DFC5AC42AED, 0x53380D139D95B3DF] ++
  [0x650A73548BAF63DE, 0x766A0ABB3C77B2A8, 0x81C2C92E47EDAEE6, 0x92722C851482353B] ++
  [0xA2BFE8A14CF10364, 0xA81A664BBC423001, 0xC24B8B70D0F89791, 0xC76C51A30654BE30] ++
  [0xD192E819D6EF5218, 0xD69906245565A910, 0xF40E35855771202A, 0x106AA07032BBD1B8] ++
  [0x19A4C116B8D2D0C8, 0x1E376C085141AB53, 0x2748774CDF8EEB99, 0x34B0BCB5E19B48A8] ++
  [0x391C0CB3C5C95A63, 0x4ED8AA4AE3418ACB, 0x5B9CCA4F7763E373, 0x682E6FF3D6B2B8A3] ++
  [0x748F82EE5DEFB2FC, 0x78A5636F43172F60, 0x84C87814A1F0AB72, 0x8CC702081A6439EC] ++
  [0x90BEFFFA23631E28, 0xA4506CEBDE82BDE9, 0xBEF9A3F7B2C67915, 0xC67178F2E372532B] ++
  [0xCA273ECEEA26619C, 0xD186B8C721C0C207, 0xEADA7DD6CDE0EB1E, 0xF57D4F7FEE6ED178] ++
  [0x06F067AA72176FBA, 0x0A637DC5A2C898A6, 0x113F9804BEF90DAE, 0x1B710B35131C471B] ++
  [0x28DB77F523047D84, 0x32CAAB7B40C72493, 0x3C9EBE0A15C9BEBC, 0x431D67C49C100D4C] ++
  [0x4CC5D4BECB3E42B6, 0x597F299CFC657E2A, 0x5FCB6FAB3AD6FAEC, 0x6C44198C4A475817]

/-- Initial hash value of SHA-512 (FIPS 180-4 §5.3.5); SHA-256 uses the high halves. -/
def sha512H : List (BitVec 64) :=
  [0x6A09E667F3BCC908, 0xBB67AE8584CAA73B, 0x3C6EF372FE94F82B, 0xA54FF53A5F1D36F1] ++
  [0x510E527FADE682D1, 0x9B05688C2B3E6C1F, 0x1F83D9ABFB41BD6B, 0x5BE0CD19137E2179]

/-- Initial hash value of SHA-384 (FIPS 180-4 §5.3.4). -/
def sha384H : List (BitVec 64) :=
  [0xCBBB9D5DC1059ED8, 0x629A292A367CD507, 0x9159015A3070DD17, 0x152FECD8F70E5939] ++
  [0x67332667FFC00B31, 0x8EB44A8768581511, 0xDB0C2E0D64F98FA7, 0x47B5481DBEFA4FA4]

/-- Message schedule: the last 16 words newest first, how many words still to make. -/
def shaExpand {w : Nat} (s0 s1 : BitVec w → BitVec w) : Nat → List (BitVec w) → List (BitVec w)
  | 0, ws => ws.reverse
  | n + 1, ws =>
    shaExpand s0 s1 n
      ((s1 (ws.getD 1 0) + ws.getD 6 0 + s0 (ws.getD 14 0) + ws.getD 15 0) :: ws)

/-- One round of SHA-2 on the eight working variables. -/
def shaRound {w : Nat} (b0 b1 : BitVec w → BitVec w) (st : List (BitVec w)) (kw : BitVec w × BitVec w) :
    List (BitVec w) :=
  match st with
  | [a, b, c, d, e, f, g, h] =>
    let t1 := h + b1 e + ((e &&& f) ^^^ (~~~ e &&& g)) + kw.1 + kw.2
    let t2 := b0 a + ((a &&& b) ^^^ (a &&& c) ^^^ (b &&& c))
    [t1 + t2, a, b, c, d + t1, e, f, g]
  | l => l

/-- One SHA-256 compression of a 64-byte block (**R161**). -/
def sha256Compress (st : List (BitVec 32)) (block : Bytes) : List (BitVec 32) :=
  let m := ((chunks 4 block).map fun b => BitVec.ofNat 32 (beNat b)).reverse
  let s0 := fun (x : BitVec 32) => x.rotateRight 7 ^^^ x.rotateRight 18 ^^^ x >>> 3
  let s1 := fun (x : BitVec 32) => x.rotateRight 17 ^^^ x.rotateRight 19 ^^^ x >>> 10
  let b0 := fun (x : BitVec 32) => x.rotateRight 2 ^^^ x.rotateRight 13 ^^^ x.rotateRight 22
  let b1 := fun (x : BitVec 32) => x.rotateRight 6 ^^^ x.rotateRight 11 ^^^ x.rotateRight 25
  let ks := (sha512K.take 64).map fun k => BitVec.ofNat 32 (k.toNat / 2 ^ 32)
  List.zipWith (· + ·) st ((List.zip ks (shaExpand s0 s1 48 m)).foldl (shaRound b0 b1) st)

/-- One SHA-512 compression of a 128-byte block (**R161**). -/
def sha512Compress (st : List (BitVec 64)) (block : Bytes) : List (BitVec 64) :=
  let m := ((chunks 8 block).map fun b => BitVec.ofNat 64 (beNat b)).reverse
  let s0 := fun (x : BitVec 64) => x.rotateRight 1 ^^^ x.rotateRight 8 ^^^ x >>> 7
  let s1 := fun (x : BitVec 64) => x.rotateRight 19 ^^^ x.rotateRight 61 ^^^ x >>> 6
  let b0 := fun (x : BitVec 64) => x.rotateRight 28 ^^^ x.rotateRight 34 ^^^ x.rotateRight 39
  let b1 := fun (x : BitVec 64) => x.rotateRight 14 ^^^ x.rotateRight 18 ^^^ x.rotateRight 41
  List.zipWith (· + ·) st ((List.zip sha512K (shaExpand s0 s1 64 m)).foldl (shaRound b0 b1) st)

/-- SHA-256 compressions over whole blocks, from a 32-byte state to a 32-byte state (**R164**). -/
def sha256Blocks (st : Bytes) (data : Bytes) : Bytes :=
  ((chunks 64 data).foldl sha256Compress ((chunks 4 st).map fun b => BitVec.ofNat 32 (beNat b))).flatMap
    fun x => beBytes 4 x.toNat

/-- SHA-512 compressions over whole blocks, from a 64-byte state to a 64-byte state (**R164**). -/
def sha512Blocks (st : Bytes) (data : Bytes) : Bytes :=
  ((chunks 128 data).foldl sha512Compress ((chunks 8 st).map fun b => BitVec.ofNat 64 (beNat b))).flatMap
    fun x => beBytes 8 x.toNat

/-- The message with 0x80, zeros and its length in bits: block size and length-field size. -/
def shaPad (block lenField : Nat) (m : Bytes) : Bytes :=
  let z := (2 * block - 1 - lenField - m.length % block) % block
  m ++ [0x80] ++ List.replicate z 0 ++ beBytes lenField (8 * m.length)

/-- SHA-256. -/
def sha256 (m : Bytes) : Bytes :=
  sha256Blocks ((sha512H.map fun h => beBytes 4 (h.toNat / 2 ^ 32)).flatten) (shaPad 64 8 m)

/-- SHA-512. -/
def sha512 (m : Bytes) : Bytes := sha512Blocks ((sha512H.map fun h => beBytes 8 h.toNat).flatten) (shaPad 128 16 m)

/-- SHA-384. -/
def sha384 (m : Bytes) : Bytes :=
  (sha512Blocks ((sha384H.map fun h => beBytes 8 h.toNat).flatten) (shaPad 128 16 m)).take 48

/-- The hash named by a code: 1 SHA-256, 2 SHA-384, 3 SHA-512 (**R137**, **R178**). -/
def hashOf (code : Nat) (m : Bytes) : Bytes :=
  if code = 1 then sha256 m else if code = 2 then sha384 m else sha512 m

/-- Digest length of a hash code. -/
def hashLen (code : Nat) : Nat := if code = 1 then 32 else if code = 2 then 48 else 64

/-- Block length of a hash code. -/
def hashBlock (code : Nat) : Nat := if code = 1 then 64 else 128

/-- HMAC under a hash code (**R165**). -/
def hmac (code : Nat) (key m : Bytes) : Bytes :=
  let k := fit (hashBlock code) (if hashBlock code < key.length then hashOf code key else key)
  hashOf code (k.map (· ^^^ 0x5C) ++ hashOf code (k.map (· ^^^ 0x36) ++ m))

/-- Blocks of HKDF-Expand with SHA-384 from number `i` on, after block `t` (RFC 5869). -/
def hkdfBlocks (prk info : Bytes) : Nat → Nat → Bytes → Bytes
  | 0, _, _ => []
  | k + 1, i, t => let b := hmac 2 prk (t ++ info ++ [BitVec.ofNat 8 i]); b ++ hkdfBlocks prk info k (i + 1) b

/-- HKDF-SHA-384 with `n` bytes of output (RFC 5869; an absent salt is the empty list). -/
def hkdf (salt ikm info : Bytes) (n : Nat) : Bytes := (hkdfBlocks (hmac 2 salt ikm) info ((n + 47) / 48) 1 []).take n

-- Keccak --------------------------------------------------------------------------------------------------------

/-- Round constants of Keccak-f[1600]. -/
def keccakRc : List (BitVec 64) :=
  [0x0000000000000001, 0x0000000000008082, 0x800000000000808A, 0x8000000080008000] ++
  [0x000000000000808B, 0x0000000080000001, 0x8000000080008081, 0x8000000000008009] ++
  [0x000000000000008A, 0x0000000000000088, 0x0000000080008009, 0x000000008000000A] ++
  [0x000000008000808B, 0x800000000000008B, 0x8000000000008089, 0x8000000000008003] ++
  [0x8000000000008002, 0x8000000000000080, 0x000000000000800A, 0x800000008000000A] ++
  [0x8000000080008081, 0x8000000000008080, 0x0000000080000001, 0x8000000080008008]

/-- Rotation offsets of rho, lane x + 5 y. -/
def keccakRho : List Nat :=
  [0, 1, 62, 28, 27] ++ [36, 44, 6, 55, 20] ++ [3, 10, 43, 25, 39] ++ [41, 45, 15, 21, 8] ++ [18, 2, 61, 56, 14]

/-- One round of Keccak-f on 25 lanes, lane x + 5 y. -/
def keccakRound (a : List (BitVec 64)) (rc : BitVec 64) : List (BitVec 64) :=
  let c := (List.range 5).map fun x =>
    a.getD x 0 ^^^ a.getD (x + 5) 0 ^^^ a.getD (x + 10) 0 ^^^ a.getD (x + 15) 0 ^^^ a.getD (x + 20) 0
  let d := (List.range 5).map fun x => c.getD ((x + 4) % 5) 0 ^^^ (c.getD ((x + 1) % 5) 0).rotateLeft 1
  let t := (List.range 25).map fun i => (a.getD i 0 ^^^ d.getD (i % 5) 0).rotateLeft (keccakRho.getD i 0)
  -- pi: lane (x, y) takes the lane at (x + 3 y, x)
  let b := (List.range 25).map fun i =>
    let x := i % 5
    let y := i / 5
    t.getD ((x + 3 * y) % 5 + 5 * x) 0
  (List.range 25).map fun i =>
    let x := i % 5
    let y := 5 * (i / 5)
    let v := b.getD i 0 ^^^ (~~~ b.getD ((x + 1) % 5 + y) 0 &&& b.getD ((x + 2) % 5 + y) 0)
    if i = 0 then v ^^^ rc else v

/-- Keccak-f[1600] on the 200 bytes of a state (**R164** byte order). -/
def keccakF (st : Bytes) : Bytes :=
  (keccakRc.foldl keccakRound ((chunks 8 st).map fun b => BitVec.ofNat 64 (leNat b))).flatMap
    fun x => leBytes 8 x.toNat

/-- Blocks of the rate absorbed: each XORed into the first bytes, then a permutation (**R164**). -/
def keccakAbsorb (rate : Nat) (st data : Bytes) : Bytes :=
  (chunks rate data).foldl (fun s b => keccakF (xorBytes (s.take rate) b ++ s.drop rate)) st

/-- `k` blocks squeezed, then the state after `k` permutations (**R164**). -/
def keccakSqueeze (rate : Nat) : Nat → Bytes → Bytes × Bytes
  | 0, st => ([], st)
  | k + 1, st =>
    let r := keccakSqueeze rate k (keccakF st)
    (st.take rate ++ r.1, r.2)

/-- A sponge with a domain byte: rate, byte, message, output length. -/
def sponge (rate : Nat) (dom : Byte) (m : Bytes) (outLen : Nat) : Bytes :=
  let n := rate - m.length % rate
  let pad := if n = 1 then [dom ||| 0x80] else dom :: (List.replicate (n - 2) 0 ++ [0x80])
  (keccakSqueeze rate ((outLen + rate - 1) / rate) (keccakAbsorb rate (List.replicate 200 0) (m ++ pad))).1.take outLen

/-- SHA3-256. -/
def sha3_256 (m : Bytes) : Bytes := sponge 136 0x06 m 32

/-- SHAKE256. -/
def shake256 (m : Bytes) (n : Nat) : Bytes := sponge 136 0x1F m n

-- SipHash -------------------------------------------------------------------------------------------------------

/-- One SipRound on (v0, v1, v2, v3). -/
def sipRound (v : BitVec 64 × BitVec 64 × BitVec 64 × BitVec 64) : BitVec 64 × BitVec 64 × BitVec 64 × BitVec 64 :=
  let (v0, v1, v2, v3) := v
  let a0 := v0 + v1
  let a1 := v1.rotateLeft 13 ^^^ a0
  let b0 := a0.rotateLeft 32
  let a2 := v2 + v3
  let a3 := v3.rotateLeft 16 ^^^ a2
  let c0 := b0 + a3
  let c3 := a3.rotateLeft 21 ^^^ c0
  let c2 := a2 + a1
  let c1 := a1.rotateLeft 17 ^^^ c2
  (c0, c1, c2.rotateLeft 32, c3)

/-- SipHash-2-4 (**R262**): 64-bit result. -/
def sipHash24 (key : BitVec 128) (m : Bytes) : Nat :=
  let kb := leBytes 16 key.toNat
  let k0 := BitVec.ofNat 64 (leNat (kb.take 8))
  let k1 := BitVec.ofNat 64 (leNat (kb.drop 8))
  let v := (k0 ^^^ 0x736f6d6570736575, k1 ^^^ 0x646f72616e646f6d, k0 ^^^ 0x6c7967656e657261, k1 ^^^ 0x7465646279746573)
  let z := 7 - m.length % 8
  let padded := m ++ List.replicate z 0 ++ [BitVec.ofNat 8 m.length]
  let w := (chunks 8 padded).foldl (fun v b =>
    let x := BitVec.ofNat 64 (leNat b)
    let u := sipRound (sipRound (v.1, v.2.1, v.2.2.1, v.2.2.2 ^^^ x))
    (u.1 ^^^ x, u.2)) v
  let f := sipRound (sipRound (sipRound (sipRound (w.1, w.2.1, w.2.2.1 ^^^ 0xFF, w.2.2.2))))
  (f.1 ^^^ f.2.1 ^^^ f.2.2.1 ^^^ f.2.2.2).toNat

end Sys2Proof.Machine
end

