-- ==== Sys2Proof/Machine/Operands.lean ====
section
/-! DEFINITION. The request descriptor and the command catalogue: byte form (**R74**), the classes, keys and randomness
of each command (**R83**-**R89**), its lengths, the check before admission (**R77**) and the cost classes (**R95**-**R99**). -/

namespace Sys2Proof

open Machine

-- Bytes of a descriptor (R74) ---------------------------------------------------------------------------------------

/-- The 64 bytes of a descriptor. -/
def Desc.bytes (d : Desc) : Bytes :=
  leBytes 2 d.command.toNat ++ [d.cls, d.flags] ++ leBytes 4 d.tag.toNat ++ leBytes 4 d.keyA.toNat ++
  leBytes 4 d.keyB.toNat ++ leBytes 2 d.domain.toNat ++ [d.panDigits, d.slice] ++ leBytes 4 d.inLen.toNat ++
  leBytes 8 d.inAddr.toNat ++ leBytes 8 d.inl2.toNat ++ leBytes 8 d.outAddr.toNat ++ leBytes 4 d.outCap.toNat ++
  beBytes 10 d.pan.toNat ++ leBytes 2 d.p0.toNat

/-- The descriptor of 64 bytes. -/
def descOfBytes (b : Bytes) : Desc where
  command := BitVec.ofNat 16 (leNat (bytesAt b 0 2))
  cls := BitVec.ofNat 8 (leNat (bytesAt b 2 1))
  flags := BitVec.ofNat 8 (leNat (bytesAt b 3 1))
  tag := BitVec.ofNat 32 (leNat (bytesAt b 4 4))
  keyA := BitVec.ofNat 32 (leNat (bytesAt b 8 4))
  keyB := BitVec.ofNat 32 (leNat (bytesAt b 12 4))
  domain := BitVec.ofNat 16 (leNat (bytesAt b 16 2))
  panDigits := BitVec.ofNat 8 (leNat (bytesAt b 18 1))
  slice := BitVec.ofNat 8 (leNat (bytesAt b 19 1))
  inLen := BitVec.ofNat 32 (leNat (bytesAt b 20 4))
  inAddr := BitVec.ofNat 64 (leNat (bytesAt b 24 8))
  inl2 := BitVec.ofNat 64 (leNat (bytesAt b 32 8))
  outAddr := BitVec.ofNat 64 (leNat (bytesAt b 40 8))
  outCap := BitVec.ofNat 32 (leNat (bytesAt b 48 4))
  pan := BitVec.ofNat 80 (beNat (bytesAt b 52 10))
  p0 := BitVec.ofNat 16 (leNat (bytesAt b 62 2))

/-- The command code. -/
def Desc.code (d : Desc) : Nat := d.command.toNat
/-- The command group. -/
def Desc.group (d : Desc) : Nat := d.command.toNat / 256
/-- P0 as a number. -/
def Desc.p (d : Desc) : Nat := d.p0.toNat
/-- The PAN flag. -/
def Desc.panSet (d : Desc) : Bool := d.flags.getLsbD 0
/-- NO_IRQ. -/
def Desc.noIrq (d : Desc) : Bool := d.flags.getLsbD 1
/-- INLINE. -/
def Desc.inline (d : Desc) : Bool := d.flags.getLsbD 2
/-- FWD. -/
def Desc.fwd (d : Desc) : Bool := d.flags.getLsbD 3
/-- The inline input bytes (**R74**). -/
def Desc.inlineBytes (d : Desc) : Bytes := (leBytes 8 d.inAddr.toNat ++ leBytes 8 d.inl2.toNat).take d.inLen.toNat
/-- The ENSIGN class is named. -/
def Desc.isEnsign (d : Desc) : Bool := d.cls.toNat % 4 == 1

/-- Nibbles of a byte string, high nibble first (**R116**). -/
def nibbles (l : Bytes) : List Nat := l.flatMap fun b => [b.toNat / 16, b.toNat % 16]

/-- Bytes of nibbles. -/
def packNibbles : List Nat → Bytes
  | a :: b :: r => BitVec.ofNat 8 (16 * a + b) :: packNibbles r
  | [a] => [BitVec.ofNat 8 (16 * a)]
  | [] => []

/-- The PAN digits of a descriptor. -/
def Desc.panList (d : Desc) : List Nat := (nibbles (beBytes 10 d.pan.toNat)).take d.panDigits.toNat

/-- A PAN field is well formed: digits up to 9, then 0xF (**R74**). -/
def panFieldOk (digits : Nat) (pan : BitVec 80) : Bool :=
  let ns := nibbles (beBytes 10 pan.toNat)
  (ns.take digits).all (· ≤ 9) && (ns.drop digits).all (· == 15)

/-- A digit field holds between `lo` and `hi` digits, padded with 0xF (**R116**); its digits. -/
def digitField (lo hi : Nat) (l : Bytes) : Option (List Nat) :=
  let ns := nibbles l
  let ds := ns.takeWhile (· ≤ 9)
  if lo ≤ ds.length ∧ ds.length ≤ hi ∧ (ns.drop ds.length).all (· == 15) then some ds else none

/-- The command names a key (**R75**, **R105**: a command that names none runs locally). -/
def Desc.namesKey (d : Desc) : Bool := d.keyA != 0 || d.keyB != 0

/-- P0 of groups 0x20-0x38 without the row, which PENNON and STREAMER ignore (**R97**). -/
def Desc.q (d : Desc) : Nat := d.p % 4096
/-- The row of **R97**. -/
def Desc.row (d : Desc) : Nat := d.p / 4096

end Sys2Proof

namespace Sys2Proof.Machine

-- Status values (R80) -----------------------------------------------------------------------------------------------

/-- OK. -/
abbrev stOk : Nat := 0x0000
/-- OK_RETRIED. -/
abbrev stRetried : Nat := 0x0001
/-- REFUSED_BUDGET. -/
abbrev stBudget : Nat := 0x0101
/-- REFUSED_CAPACITY. -/
abbrev stCapacity : Nat := 0x0102
/-- REFUSED_RNG. -/
abbrev stRng : Nat := 0x0103
/-- REFUSED_STATE. -/
abbrev stState : Nat := 0x0104
/-- REFUSED_PATH. -/
abbrev stPath : Nat := 0x0105
/-- MALFORMED. -/
abbrev stMalformed : Nat := 0x0201
/-- UNKNOWN_COMMAND. -/
abbrev stUnknown : Nat := 0x0202
/-- KEY_NOT_FOUND. -/
abbrev stNotFound : Nat := 0x0203
/-- KEY_USAGE. -/
abbrev stUsage : Nat := 0x0204
/-- NOT_OWNER. -/
abbrev stNotOwner : Nat := 0x0205
/-- DUAL_CONTROL_PENDING. -/
abbrev stDual : Nat := 0x0206
/-- TABLE_FULL. -/
abbrev stFull : Nat := 0x0207
/-- INPUT_REJECTED. -/
abbrev stRejected : Nat := 0x0301
/-- VERIFY_FAILED. -/
abbrev stVerify : Nat := 0x0302
/-- TENANT_RESET. -/
abbrev stReset : Nat := 0x0401
/-- TAMPER_ABORT. -/
abbrev stTamper : Nat := 0x0402
/-- ABORTED. -/
abbrev stAborted : Nat := 0x0403
/-- MPU_FAULT. -/
abbrev stMpu : Nat := 0x0501
/-- MEMORY_UNCORRECTABLE. -/
abbrev stMemory : Nat := 0x0502
/-- DEVICE_FAULT. -/
abbrev stDevice : Nat := 0x0601

/-- DETAIL of MALFORMED (**R80**): offset of the failing field, reason. -/
def malDetail (off reason : Nat) : Nat := 65536 * off + reason

-- The catalogue (R83-R89) ----------------------------------------------------------------------------------------------

/-- What a command does with a handle. -/
inductive KeyNeed where
  /-- No handle. -/
  | none
  /-- A stored key. -/
  | stored
  /-- A stored key, or an inline public key with the handle zero. -/
  | inline
  /-- A new handle. -/
  | fresh
  /-- A new handle unless P0 [8] is set. -/
  | freshUnless
  deriving DecidableEq, Repr

/-- One row of the catalogue. -/
structure CatRow where
  /-- ENSIGN: 0 no, 1 yes, 2 with IN_LEN and OUT_CAP at most 4,096 (E*). -/
  ens : Nat := 0
  /-- PENNON permitted. -/
  pen : Bool := true
  /-- STREAMER permitted. -/
  str : Bool := true
  /-- KEY_A. -/
  a : KeyNeed := .none
  /-- KEY_B. -/
  b : KeyNeed := .none
  deriving DecidableEq, Repr

/-- The rows of groups 0x01-0x06 (**R84**). -/
def catalogue1 (c : Nat) : Option CatRow :=
  match c with
  | 0x0101 | 0x0102 | 0x0103 | 0x0104 => some { ens := 1, a := .stored, b := .stored }
  | 0x0105 | 0x0106 => some { a := .stored, b := .stored }
  | 0x0201 => some { ens := 1, a := .stored }
  | 0x0202 => some { a := .stored }
  | 0x0301 | 0x0302 | 0x0303 => some { ens := 1, a := .stored }
  | 0x0304 | 0x0305 => some { a := .stored }
  | 0x0401 | 0x0402 => some { ens := 2, a := .stored }
  | 0x0501 => some { ens := 1, a := .stored, b := .stored }
  | 0x0502 => some { ens := 2, a := .stored }
  | 0x0503 => some { a := .stored }
  | 0x0504 => some { a := .stored, b := .stored }
  | 0x0601 | 0x0602 => some { ens := 2, a := .stored }
  | 0x0603 | 0x0604 => some { a := .stored }
  | _ => none

/-- The rows of groups 0x08, 0x10, 0x11, 0x40 and 0x50 (**R85**, **R88**). -/
def catalogue2 (c : Nat) : Option CatRow :=
  match c with
  | 0x0801 => some { a := .stored, b := .fresh }
  | 0x0802 => some { a := .stored, b := .stored }
  | 0x0803 => some { b := .fresh }
  | 0x0804 => some { a := .stored }
  | 0x0805 => some { ens := 1, a := .stored }
  | 0x0806 => some { str := false, b := .fresh }
  | 0x0807 => some { str := false, a := .stored }
  | 0x0808 => some { b := .fresh }
  | 0x0809 => some { a := .stored }
  | 0x1001 | 0x1002 | 0x1003 | 0x1004 | 0x4001 => some { ens := 2 }
  | 0x1101 | 0x1102 => some { ens := 2, a := .stored }
  | 0x5001 => some { ens := 1 }
  | 0x5002 | 0x5004 => some { str := false }
  | 0x5003 => some { }
  | _ => none

/-- The rows of groups 0x20-0x38 (**R86**). -/
def catalogue3 (c : Nat) : Option CatRow :=
  match c with
  | 0x2001 => some { ens := 1, a := .stored }
  | 0x2002 => some { ens := 1, a := .inline }
  | 0x2003 => some { a := .stored }
  | 0x2004 => some { a := .inline }
  | 0x2005 => some { b := .fresh }
  | 0x2006 => some { ens := 1, a := .stored }
  | 0x2007 => some { ens := 1, a := .inline }
  | 0x2008 => some { ens := 2, a := .stored }
  | 0x2009 => some { ens := 2, a := .inline }
  | 0x200A => some { ens := 1, a := .stored, b := .fresh }
  | 0x200B => some { b := .fresh }
  | 0x200C | 0x200D => some { }
  | 0x3001 => some { b := .fresh }
  | 0x3002 => some { ens := 1, a := .inline, b := .freshUnless }
  | 0x3003 => some { ens := 1, a := .stored, b := .freshUnless }
  | 0x3004 => some { b := .fresh }
  | 0x3005 => some { ens := 1, a := .stored }
  | 0x3006 => some { ens := 1, a := .inline }
  | 0x3101 => some { b := .fresh }
  | 0x3102 => some { a := .stored }
  | 0x3103 => some { ens := 1, a := .inline }
  | 0x3104 => some { pen := false, b := .fresh }
  | 0x3105 | 0x3107 => some { a := .stored }
  | 0x3106 => some { ens := 1, a := .inline }
  | 0x3201 => some { b := .fresh }
  | 0x3202 => some { a := .inline, b := .freshUnless }
  | 0x3203 => some { ens := 1, a := .stored, b := .freshUnless }
  | 0x3204 => some { pen := false, b := .fresh }
  | 0x3205 => some { a := .stored, b := .freshUnless }
  | 0x3206 => some { ens := 1, a := .stored, b := .freshUnless }
  | 0x3801 => some { b := .fresh }
  | 0x3802 => some { ens := 1, a := .inline, b := .freshUnless }
  | 0x3803 => some { ens := 1, a := .stored, b := .freshUnless }
  | 0x3804 => some { b := .fresh }
  | 0x3805 => some { ens := 1, a := .stored }
  | 0x3806 => some { ens := 1, a := .inline }
  | _ => none

/-- The catalogue of request codes (**R83**): a code absent from it is unassigned. -/
def catalogue (c : Nat) : Option CatRow :=
  match catalogue1 c with
  | some r => some r
  | none =>
    match catalogue2 c with
    | some r => some r
    | none => catalogue3 c

-- Sizes of the parameter sets ------------------------------------------------------------------------------------------

/-- Length of a PIN block (**R117**). -/
def pinLen (f : Nat) : Nat := if f = 4 then 16 else 8
/-- A PIN block format (**R117**). -/
def pinFmt (f : Nat) : Bool := f == 0 || f == 1 || f == 3 || f == 4
/-- A pair that translation accepts (**R121**). -/
def pinPair (i o : Nat) : Bool := pinFmt i && pinFmt o && (o != 1 || i == 1)
/-- MAC length code, 0 standing for 16 (**R133**). -/
def macLen (n : Nat) : Nat := if n = 0 then 16 else n
/-- Scalar and field length of a curve code (**R176**). -/
def curveLen (c : Nat) : Nat :=
  match c with
  | 1 => 32 | 2 => 48 | 3 => 66 | 4 => 32 | 5 => 56 | 6 => 32 | 7 => 57 | _ => 0
/-- Public-key length of a curve code as the module outputs it (**R177**). -/
def curvePub (c : Nat) : Nat := if c ≤ 3 then 2 * curveLen c + 1 else curveLen c
/-- Signature length of a curve code (**R179**). -/
def curveSig (c : Nat) : Nat := 2 * curveLen c
/-- Length of an inline curve key by its first byte (**R177**). -/
def curveInline (c : Nat) (first : Byte) : Nat :=
  if c ≤ 3 then (if first = 4 then 2 * curveLen c + 1 else curveLen c + 1) else curveLen c
/-- ML-KEM encapsulation key (**R203**). -/
def kemPub (s : Nat) : Nat := if s = 1 then 800 else if s = 2 then 1184 else 1568
/-- ML-KEM ciphertext (**R203**). -/
def kemCt (s : Nat) : Nat := if s = 1 then 768 else if s = 2 then 1088 else 1568
/-- ML-DSA public key (**R207**). -/
def dsaPub (s : Nat) : Nat := if s = 1 then 1312 else if s = 2 then 1952 else 2592
/-- ML-DSA signature (**R207**). -/
def dsaSig (s : Nat) : Nat := if s = 1 then 2420 else if s = 2 then 3309 else 4627
/-- SLH-DSA n of a set (**R215**). -/
def slhN (s : Nat) : Nat := if s ≤ 4 then 16 else if s ≤ 8 then 24 else 32
/-- SLH-DSA public key (**R182**). -/
def slhPub (s : Nat) : Nat := 2 * slhN s
/-- SLH-DSA signature (FIPS 205). -/
def slhSig (s : Nat) : Nat :=
  [7856, 7856, 17088, 17088, 16224, 16224].getD (s - 1) ([35664, 35664, 29792, 29792, 49856, 49856].getD (s - 7) 0)
/-- Indices of a stateful set (**R216**), log2. -/
def statefulLog2 (s : Nat) : Nat := [10, 15, 20, 25, 20, 20].getD (s - 1) ([10, 16, 20, 20, 40].getD (s - 7) 0)
/-- Public key of a stateful set (RFC 8554, RFC 8391). -/
def statefulPub (s : Nat) : Nat := if s ≤ 5 then 56 else if s = 6 then 60 else 68
/-- Signature of a stateful set (RFC 8554, RFC 8391). -/
def statefulSig (s : Nat) : Nat :=
  [2508, 2668, 2828, 2988, 1772, 5076].getD (s - 1) ([2500, 2692, 2820, 4963, 5605].getD (s - 7) 0)
/-- HQC public key (round 4). -/
def hqcPub (s : Nat) : Nat := if s = 1 then 2249 else if s = 2 then 4522 else 7245
/-- HQC ciphertext (round 4). -/
def hqcCt (s : Nat) : Nat := if s = 1 then 4433 else if s = 2 then 8978 else 14421
/-- Classic McEliece public key (**R225**). -/
def mcePub (s : Nat) : Nat := [261120, 524160, 1044992, 1047319, 1357824].getD ((s - 1) / 2) 0
/-- Classic McEliece ciphertext (**R225**). -/
def mceCt (s : Nat) : Nat := [96, 156, 208, 194, 208].getD ((s - 1) / 2) 0

-- The layouts ----------------------------------------------------------------------------------------------------------

/-- What the check before admission finds of a command's own layout. -/
structure Lay where
  /-- IN_LEN lies in the command's range (reason 0x06). -/
  inOk : Bool := true
  /-- Smallest OUT_CAP that the check before admission accepts (reason 0x07). -/
  outMin : Nat := 0
  /-- P0 in range (reason 0x0A). -/
  p0Ok : Bool := true
  /-- First faulty input field: offset and reason 0x01 or 0x0A. -/
  bad : Option (Nat × Nat) := none
  /-- The size limit of the class holds (reason 0x03). -/
  sizeOk : Bool := true
  deriving DecidableEq, Repr

/-- The first failing test of a list of (passes, offset, reason). -/
def firstBad : List (Bool × Nat × Nat) → Option (Nat × Nat)
  | [] => none
  | (ok, off, r) :: t => if ok then firstBad t else some (off, r)

/-- Tests of an attribute record at an offset of the input (**R137**, **R182**): reserved bits and the fields that
must be zero in an input record. -/
def attrBad (inp : Bytes) (off : Nat) : List (Bool × Nat × Nat) :=
  let f := leNat (bytesAt inp (off + 10) 2)
  [(f / 32 == 0, off + 10, 1), (bytesAt inp (off + 15) 1 == [0], off + 15, 1), (f % 8 == 0 && f / 16 % 2 == 0, off + 10, 10),
   (bytesAt inp (off + 12) 2 == [0, 0], off + 12, 10)]

/-- Check-value length by an algorithm byte (**R141**). -/
def kcvLen (alg : Byte) : Nat := if alg = 0x54 then 3 else 5

/-- A decimalisation table is acceptable (**R125**). -/
def decTableOk (t : Bytes) : Bool :=
  t.all (fun b => b.toNat ≤ 9) && t.take 10 == (List.range 10).map (BitVec.ofNat 8)

/-- KSN length by P0 [8] (**R134**). -/
def ksnLen (p : Nat) : Nat := if nbit p 8 then 10 else 12

/-- The counter of a KSN. -/
def ksnCounter (p : Nat) (inp : Bytes) : Nat :=
  if nbit p 8 then beNat (bytesAt inp 7 3) % 2 ^ 21 else beNat (bytesAt inp 8 4)

/-- The KSN's counter is valid (**R134**). -/
def ksnOk (p : Nat) (inp : Bytes) : Bool :=
  let c := ksnCounter p inp
  c != 0 && popcount 32 c ≤ (if nbit p 8 then 10 else 16)

/-- Tests of the header options of **R143** at an offset. -/
def optBad (inp : Bytes) (off : Nat) : List (Bool × Nat × Nat) :=
  let b := fun i => (bytesAt inp (off + i) 1).headD 0
  [((b 6).toNat / 4 == 0, off + 6, 1), (b 7 == 0, off + 7, 1), (b 0 == 0x42 || b 0 == 0x44, off, 10),
   ((ascii "0BDECGVX").contains (b 1), off + 1, 10), ((ascii "0ENS").contains (b 2), off + 2, 10),
   (b 3 == 0x30 || b 3 == 0x31, off + 3, 10)]

/-- Layouts of groups 0x01-0x03 (**R121**-**R132**). -/
def layPin (d : Desc) (inp : Bytes) : Lay :=
  let n := d.inLen.toNat
  let p := d.p
  let fi := p % 16
  let fo := p / 16 % 16
  let bl := pinLen fi
  let b := fun i => (bytesAt inp i 1).headD 0
  let mth := p % 16 == 1 || p % 16 == 2
  let am := p / 16 % 16
  let al := if am = 2 then 4 else 2
  let ao := if am = 2 then 4 else 8
  let psn := ((digitField 2 2 (bytesAt inp 0 1)).isSome, 0, 10)
  match d.code with
  | 0x0101 => { inOk := n == bl, outMin := pinLen fo, p0Ok := p < 256 && pinPair fi fo }
  | 0x0102 =>
    { inOk := n == bl + 3, p0Ok := p < 16 && pinFmt fi,
      bad := firstBad [((b bl).toNat ≤ 9, bl, 10), ((digitField 4 4 (bytesAt inp (bl + 1) 2)).isSome, bl + 1, 10)] }
  | 0x0103 =>
    { inOk := n == bl + 30, p0Ok := p < 16 && pinFmt fi,
      bad := firstBad [((digitField 4 12 (bytesAt inp bl 6)).isSome, bl, 10),
        (decTableOk (bytesAt inp (bl + 6) 16), bl + 6, 10),
        ((digitField 16 16 (bytesAt inp (bl + 22) 8)).isSome, bl + 22, 10)] }
  | 0x0104 => { inOk := n == bl + pinLen fo, p0Ok := p < 256 && pinFmt fi && pinFmt fo }
  | 0x0105 =>
    { inOk := n == bl + 1, outMin := 2, p0Ok := p < 16 && pinFmt fi, bad := firstBad [((b bl).toNat ≤ 9, bl, 10)] }
  | 0x0106 =>
    { inOk := n == bl + 24, outMin := 6, p0Ok := p < 16 && pinFmt fi,
      bad := firstBad [(decTableOk (bytesAt inp bl 16), bl, 10),
        ((digitField 16 16 (bytesAt inp (bl + 16) 8)).isSome, bl + 16, 10)] }
  | 0x0201 =>
    { inOk := n == 7, p0Ok := p == 0,
      bad := firstBad [((digitField 4 4 (bytesAt inp 0 2)).isSome, 0, 10),
        ((digitField 3 3 (bytesAt inp 2 2)).isSome, 2, 10), ((digitField 3 5 (bytesAt inp 4 3)).isSome, 4, 10)] }
  | 0x0202 =>
    { inOk := n == 4, outMin := 3, p0Ok := 3 ≤ p && p ≤ 5,
      bad := firstBad [((digitField 4 4 (bytesAt inp 0 2)).isSome, 0, 10),
        ((digitField 3 3 (bytesAt inp 2 2)).isSome, 2, 10)] }
  | 0x0301 => { inOk := 12 ≤ n && n ≤ 266, p0Ok := p < 16 && mth, bad := firstBad [psn] }
  | 0x0302 =>
    { inOk := 12 + al ≤ n && n ≤ 266 + al, outMin := ao, p0Ok := p < 256 && mth && (am == 1 || am == 2),
      bad := firstBad [psn] }
  | 0x0303 =>
    { inOk := n == 11 + al, outMin := ao, p0Ok := p < 256 && mth && (am == 1 || am == 2), bad := firstBad [psn] }
  | 0x0304 =>
    { inOk := 3 ≤ n && n ≤ 4099, outMin := am, p0Ok := p < 256 && mth && 4 ≤ am && am ≤ 8, bad := firstBad [psn] }
  | 0x0305 =>
    let bs := if p % 16 = 2 then 16 else 8
    { inOk := 3 ≤ n && n ≤ 4099, outMin := ((n - 3) / bs + 1) * bs, p0Ok := p < 16 && mth, bad := firstBad [psn] }
  | _ => {}

/-- Layouts of groups 0x04-0x06 (**R133**-**R136**, **R159**).  Where the block length lies in the key record, the
check before admission tests the TDEA block and the rest is tested at execution (log entry 22). -/
def layCipher (d : Desc) (inp : Bytes) : Lay :=
  let n := d.inLen.toNat
  let p := d.p
  let ml := macLen (p / 16 % 16)
  let alg := p % 16
  let macP0 := (alg == 1 || alg == 3 || alg == 5) && 4 ≤ ml && p / 512 == 0 && (alg != 5 || p / 256 % 4 == 0)
  let k := ksnLen p
  let fi := p % 16
  let fo := p / 16 % 16
  let needPan := !d.panSet && (fi == 4 || fo == 4)
  let pk := if needPan then 11 else 0
  let gen := nbit p 8
  let mode := p % 16
  let aad := leNat (bytesAt inp 0 4)
  match d.code with
  | 0x0401 => { outMin := ml, p0Ok := macP0 }
  | 0x0402 => { inOk := ml ≤ n, p0Ok := macP0 }
  | 0x0501 =>
    let c := (bytesAt inp k 1).headD 0
    { inOk := n == k + pk + pinLen fi, outMin := pinLen fo,
      p0Ok := p < 512 && pinPair fi fo && ((fi == 4) == !nbit p 8),
      bad := firstBad [(ksnOk p inp, 0, 10),
        (!needPan || (12 ≤ c.toNat && c.toNat ≤ 19), k, 10),
        (!needPan || panFieldOk c.toNat (BitVec.ofNat 80 (beNat (bytesAt inp (k + 1) 10))), k + 1, 10)] }
  | 0x0502 =>
    { inOk := k + ml ≤ n, p0Ok := p < 512 && p % 16 == 0 && 4 ≤ ml && (!nbit p 8 || ml ≤ 8),
      bad := firstBad [(ksnOk p inp, 0, 10)] }
  | 0x0503 =>
    let bs := if nbit p 8 then 8 else 16
    { inOk := k + bs ≤ n && (n - k) % bs == 0, outMin := n - k, p0Ok := p == 0 || p == 256,
      bad := firstBad [(ksnOk p inp, 0, 10)] }
  | 0x0504 =>
    { inOk := n == k + 8, p0Ok := p == 0 || p == 256,
      bad := firstBad (((optBad inp k).take 2) ++ [(ksnCounter p inp == 0, 0, 10)] ++ (optBad inp k).drop 2) }
  | 0x0601 =>
    let iv := if gen || mode == 1 then 0 else 8
    let dlen := n - iv
    { inOk := iv < n && (mode == 3 || dlen % 8 == 0),
      outMin := if mode = 1 then n else if gen then n + 8 else n - 16,
      p0Ok := (p == mode || p == mode + 256) && 1 ≤ mode && mode ≤ 3 && !(gen && mode == 1) }
  | 0x0602 =>
    let iv := if mode == 1 then 0 else 8
    { inOk := iv < n && (mode == 3 || (n - iv) % 8 == 0), outMin := if mode = 1 then n else n - 16,
      p0Ok := p == mode && 1 ≤ mode && mode ≤ 3 }
  | 0x0603 =>
    let fixed := if gen then 4 else 16
    { inOk := fixed + aad ≤ n, outMin := n - fixed - aad + 16 + (if gen then 12 else 0), p0Ok := p == 0 || p == 256 }
  | 0x0604 => { inOk := 32 + aad ≤ n, outMin := n - 32 - aad, p0Ok := p == 0 }
  | _ => {}

/-- Layouts of groups 0x08, 0x10, 0x11, 0x40 and 0x50. -/
def layKey (d : Desc) (inp : Bytes) : Lay :=
  let n := d.inLen.toNat
  let p := d.p
  let cap := d.outCap.toNat
  let rateOk := 8 ≤ p && p ≤ 200 && p % 8 == 0
  let hl := if p % 16 = 1 then 32 else if p % 16 = 2 then 48 else 64
  let mac := if p / 256 = 0 then hl else p / 256
  let hP0 := 1 ≤ p % 16 && p % 16 ≤ 3 && p / 16 % 16 == 0 && (p / 256 == 0 || (4 ≤ p / 256 && p / 256 ≤ hl))
  match d.code with
  | 0x0801 => { inOk := 16 ≤ n && n ≤ 9992, outMin := 3, p0Ok := p < 4 }
  | 0x0802 => { inOk := n == 8, p0Ok := p == 0, bad := firstBad (optBad inp 0) }
  | 0x0803 =>
    { inOk := n == 16, outMin := kcvLen ((bytesAt inp 2 1).headD 0), p0Ok := p == 0, bad := firstBad (attrBad inp 0) }
  | 0x0804 => { inOk := n == 0, p0Ok := p == 0 }
  | 0x0805 => { inOk := n == 0, outMin := 16, p0Ok := p == 0 }
  | 0x0806 =>
    let c := (bytesAt inp 0 1).headD 0
    { inOk := n == 17, outMin := kcvLen ((bytesAt inp 3 1).headD 0), p0Ok := p == 0,
      bad := firstBad ((attrBad inp 1).take 2 ++ [(c == 2 || c == 3, 0, 10)] ++ (attrBad inp 1).drop 2) }
  | 0x0807 => { inOk := n == 32, outMin := 3509, p0Ok := p == 0 }
  | 0x0808 =>
    { inOk := 16 < n && n ≤ 16 + 1048576, p0Ok := p == 0,
      bad := firstBad (attrBad inp 0 ++ [(bytesAt inp 10 2 == [0, 0], 10, 10)]) }
  | 0x0809 => { inOk := n == 0, p0Ok := p == 0 }
  | 0x1001 => { inOk := 96 ≤ n && (n - 32) % 64 == 0, outMin := 32, p0Ok := p == 0 }
  | 0x1002 => { inOk := 192 ≤ n && (n - 64) % 128 == 0, outMin := 64, p0Ok := p == 0 }
  | 0x1003 => { inOk := 200 < n && (!rateOk || (n - 200) % p == 0), outMin := 200, p0Ok := rateOk }
  | 0x1004 =>
    { inOk := n == 200, outMin := 200 + p, p0Ok := rateOk,
      bad := if cap ≤ 16777216 ∧ (cap - 200) % p = 0 then none else some (0x30, 10) }
  | 0x1101 => { outMin := mac, p0Ok := hP0 }
  | 0x1102 => { inOk := mac ≤ n, p0Ok := hP0 }
  | 0x4001 =>
    { inOk := n == 0, p0Ok := p == 0, bad := if 1 ≤ cap ∧ cap ≤ 1048576 then none else some (0x30, 10) }
  | 0x5001 => { inOk := n ≤ 64, outMin := n, p0Ok := p == 0 }
  | 0x5002 => { inOk := n == 0, p0Ok := p == 0 }
  | 0x5003 => { inOk := n == 0, outMin := 320 * p, p0Ok := 1 ≤ p && p ≤ 64 }
  | 0x5004 => { inOk := n == 0, outMin := 48, p0Ok := p == 0 }
  | _ => {}

/-- Layouts of group 0x20 (**R178**, **R179**). -/
def layOryx (d : Desc) (inp : Bytes) : Lay :=
  let n := d.inLen.toNat
  let q := d.q
  let sch := q % 16
  let w := leNat (bytesAt inp 0 2)
  let inl := d.keyA == 0
  let hid := fun off => leNat (bytesAt inp off 1)
  let hl := fun off => if hid off = 1 then 32 else if hid off = 2 then 48 else 64
  let hOk := fun off => (1 ≤ hid off && hid off ≤ 3, off, 10)
  let rowIn := fun lo hi => !d.isEnsign || d.row == 0 || (lo ≤ d.row && d.row ≤ hi)
  let cv := q % 16
  let first := (bytesAt inp 0 1).headD 0
  let kl := curveInline cv first
  match d.code with
  | 0x2001 => { inOk := n == 1 + hl 0, p0Ok := (q == 1 || q == 2) && rowIn 4 8, bad := firstBad [hOk 0] }
  | 0x2002 =>
    let off := 8 + 16 * w
    { inOk := if inl then n == off + 1 + hl off else 128 + 33 ≤ n && n ≤ 1024 + 65,
      p0Ok := (q == 1 || q == 2) && rowIn 2 8,
      bad := if inl then firstBad [(bytesAt inp 2 2 == [0, 0], 2, 1), hOk off] else none }
  | 0x2003 =>
    { inOk := 256 ≤ n && n ≤ 1024 && n % 8 == 0,
      p0Ok := q == 1 || (sch == 2 && 1 ≤ q / 16 && q / 16 ≤ 3) }
  | 0x2004 =>
    let extra := if sch = 1 then 11 else 2 * (if q / 16 = 1 then 32 else if q / 16 = 2 then 48 else 64) + 2
    { inOk := if inl then 8 + 8 * w ≤ n && n - 8 - 8 * w + extra ≤ 8 * w else n ≤ 1024,
      outMin := if inl then 8 * w else 128,
      p0Ok := q == 1 || (sch == 2 && 1 ≤ q / 16 && q / 16 ≤ 3),
      bad := if inl then firstBad [(bytesAt inp 2 2 == [0, 0], 2, 1)] else none }
  | 0x2005 =>
    let kw := q % 256
    { inOk := n == 4, outMin := 8 + 8 * kw, p0Ok := 32 ≤ kw && kw ≤ 128 && (q / 256 == 1 || q / 256 == 2),
      sizeOk := kw ≤ 64 || d.cls.toNat % 4 == 3 }
  | 0x2006 => { inOk := 1 ≤ n && n ≤ 64, outMin := 64, p0Ok := q == 0 && rowIn 1 3 }
  | 0x2007 =>
    { inOk := if inl then kl + 1 + curveSig cv ≤ n && n ≤ kl + 64 + curveSig cv else 65 ≤ n && n ≤ 196,
      p0Ok := q == cv && (!inl || (1 ≤ cv && cv ≤ 3)) && rowIn 1 3 }
  | 0x2008 => { outMin := 64, p0Ok := q == 0 && rowIn 6 7, sizeOk := !d.isEnsign || n ≤ 4000 }
  | 0x2009 =>
    { inOk := if inl then kl + curveSig cv ≤ n else 64 ≤ n,
      p0Ok := q == cv && (!inl || (6 ≤ cv && cv ≤ 7)) && rowIn 6 7 }
  | 0x200A =>
    { inOk := 48 ≤ n && n ≤ 16 + 133, outMin := kcvLen ((bytesAt inp (n - 14) 1).headD 0), p0Ok := q == 0 && rowIn 1 5,
      bad := firstBad (attrBad inp (n - 16)) }
  | 0x200B =>
    { inOk := n == 16, outMin := curvePub cv, p0Ok := q == cv && 1 ≤ cv && cv ≤ 7, bad := firstBad (attrBad inp 0) }
  | 0x200C =>
    let x := leNat (bytesAt inp 2 2)
    { inOk := n == 4 + 16 * w + 8 * x, outMin := 8 * w, p0Ok := q == 0 }
  | 0x200D =>
    { inOk := n == 4 + 24 * w, outMin := 8 * w, p0Ok := q == 0, bad := firstBad [(bytesAt inp 2 2 == [0, 0], 2, 1)] }
  | _ => {}

/-- Layouts of groups 0x30-0x38 (**R203**, **R207**, **R214**, **R220**, **R222**, **R226**, **R227**). -/
def layPq (d : Desc) (inp : Bytes) : Lay :=
  let n := d.inLen.toNat
  let q := d.q
  let s := q % 16
  let inl := d.keyA == 0
  let ret := nbit q 8
  let rowIn := fun lo hi => !d.isEnsign || d.row == 0 || (lo ≤ d.row && d.row ≤ hi)
  let sIn := fun hi => 1 ≤ s && s ≤ hi
  let sec := if ret then 32 else 0
  let only := fun mask => Nat.land q (4095 - mask) == 0
  let ctx := fun off => leNat (bytesAt inp off 1)
  let ext := nbit q 9
  match d.code with
  | 0x3001 => { inOk := n == 0, outMin := kemPub s, p0Ok := only 0x20F && sIn 3 }
  | 0x3002 =>
    { inOk := if inl then n == kemPub s else n == 0, outMin := (if inl then kemCt s else 768) + sec,
      p0Ok := only 0x10F && (!inl || sIn 3) && rowIn 1 3 }
  | 0x3003 =>
    { inOk := n == 768 || n == 1088 || n == 1568, outMin := sec, p0Ok := only 0x100 && rowIn 1 3 }
  | 0x3004 => { inOk := n == 0, outMin := dsaPub s, p0Ok := only 0x00F && sIn 3 }
  | 0x3005 =>
    { inOk := if ext then n == 64 else 1 ≤ n && 1 + ctx 0 ≤ n, outMin := 2420, p0Ok := only 0x300 && rowIn 1 3,
      sizeOk := !d.isEnsign || ext || n - 1 ≤ 4096 }
  | 0x3006 =>
    let fixed := (if inl then dsaPub s + dsaSig s else 2420)
    { inOk := if inl then (if ext then n == fixed + 64 else fixed + 1 + ctx fixed ≤ n) else fixed + 1 ≤ n,
      p0Ok := only 0x20F && (!inl || sIn 3) && rowIn 1 3,
      sizeOk := !d.isEnsign || ext || n - fixed - 1 ≤ 4096 + (if inl then 0 else 2207) }
  | 0x3101 => { inOk := n == 0, outMin := slhPub s, p0Ok := only 0x00F && sIn 12 }
  | 0x3102 => { inOk := 1 + ctx 0 ≤ n && 1 ≤ n, outMin := 7856, p0Ok := only 0x100 }
  | 0x3103 =>
    let fixed := if inl then slhPub s + slhSig s else 7856
    { inOk := if inl then fixed + 1 + ctx fixed ≤ n else fixed + 1 ≤ n, p0Ok := only 0x00F && (!inl || sIn 12) && rowIn 1 12,
      sizeOk := !d.isEnsign || !inl || n - fixed - 1 - ctx fixed ≤ 64 }
  | 0x3104 => { inOk := n == 0, outMin := statefulPub s, p0Ok := only 0x00F && sIn 11 }
  | 0x3105 => { outMin := 1772 + 8, p0Ok := q == 0 }
  | 0x3106 =>
    let fixed := if inl then statefulPub s + statefulSig s else 1772
    { inOk := fixed ≤ n, p0Ok := only 0x00F && (!inl || sIn 11) && rowIn 1 11,
      sizeOk := !d.isEnsign || !inl || n - fixed ≤ 64 }
  | 0x3107 => { inOk := n == 0, outMin := 8, p0Ok := q == 0 }
  | 0x3201 => { inOk := n == 0, outMin := hqcPub s, p0Ok := only 0x20F && sIn 3 }
  | 0x3202 =>
    { inOk := if inl then n == hqcPub s else n == 0, outMin := (if inl then hqcCt s else 4433) + sec,
      p0Ok := only 0x10F && (!inl || sIn 3) }
  | 0x3203 =>
    { inOk := n == 4433 || n == 8978 || n == 14421, outMin := sec, p0Ok := only 0x100 && rowIn 1 3 }
  | 0x3204 => { inOk := n == 0, p0Ok := only 0x20F && sIn 10 }
  | 0x3205 => { inOk := n == 0, outMin := 96 + sec, p0Ok := only 0x100 }
  | 0x3206 =>
    { inOk := n == 96 || n == 156 || n == 208 || n == 194, outMin := sec, p0Ok := only 0x100 && rowIn 1 10 }
  | 0x3801 => { inOk := n == 0, outMin := 1216, p0Ok := only 0x200 }
  | 0x3802 =>
    { inOk := if inl then n == 1216 else n == 0, outMin := 1120 + sec, p0Ok := only 0x100 && rowIn 0 0 }
  | 0x3803 => { inOk := n == 1120, outMin := sec, p0Ok := only 0x100 && rowIn 0 0 }
  | 0x3804 => { inOk := n == 0, outMin := 2017, p0Ok := only 0 }
  | 0x3805 => { outMin := 3373, p0Ok := q == 0 && rowIn 0 0, sizeOk := !d.isEnsign || n + 16 ≤ 4096 }
  | 0x3806 =>
    let fixed := if inl then 2017 + 3373 else 3373
    { inOk := fixed ≤ n, p0Ok := q == 0 && rowIn 0 0, sizeOk := !d.isEnsign || n - fixed + 16 ≤ 4096 }
  | _ => {}

/-- A command's layout. -/
def layout (d : Desc) (inp : Bytes) : Lay :=
  if d.group ≤ 3 then layPin d inp
  else if d.group ≤ 6 then layCipher d inp
  else if d.group = 0x20 then layOryx d inp
  else if 0x30 ≤ d.group ∧ d.group ≤ 0x38 then layPq d inp
  else layKey d inp

-- The check before admission (R77) -----------------------------------------------------------------------------------------

/-- A check's verdict: none passes, or status and DETAIL. -/
abbrev Check := Option (Nat × Nat)

/-- The first failing test of a list of (passes, offset, reason), as MALFORMED. -/
def malformed (l : List (Bool × Nat × Nat)) : Check :=
  match firstBad l with
  | some (off, r) => some (stMalformed, malDetail off r)
  | none => none

/-- The PAN is required (**R75**). -/
def panNeeded (d : Desc) : Bool :=
  (1 ≤ d.group && d.group ≤ 3) ||
  (d.code == 0x0501 && (d.p % 16 == 0 || d.p % 16 == 3 || d.p / 16 % 16 == 0 || d.p / 16 % 16 == 3))

/-- The class is permitted (**R83**). -/
def classOk (r : CatRow) (d : Desc) : Bool :=
  match d.cls.toNat % 4 with
  | 1 => r.ens == 1 || (r.ens == 2 && d.inLen.toNat ≤ 4096 && d.outCap.toNat ≤ 4096)
  | 2 => r.pen
  | _ => r.str

/-- A handle field is as the command needs it. -/
def handleOk (k : KeyNeed) (h : BitVec 32) (p : Nat) : Bool :=
  match k with
  | .none => h == 0
  | .stored => h != 0
  | .inline => true
  | .fresh => h != 0
  | .freshUnless => (h == 0) == nbit p 8

/-- The descriptor check of **R77** before admission, given what the command's own layout finds.  `viaFabric` a
REQUEST, `peer` on a peer session. -/
def descCheckLay (viaFabric peer : Bool) (d : Desc) (l : Lay) : Check :=
  match catalogue d.code with
  | none => some (stUnknown, 0)
  | some r =>
    let inLen := d.inLen.toNat
    malformed [
      (d.cls.toNat / 4 == 0, 0x02, 1), (d.flags.toNat / 16 == 0, 0x03, 1), (d.inline || d.inl2 == 0, 0x20, 1),
      (match l.bad with | some (off, 1) => (false, off, 1) | _ => (true, 0, 1)),
      (d.fwd == (viaFabric && peer), 0x03, 1),
      (!(viaFabric && d.inline), 0x03, 1),
      (d.cls.toNat % 4 != 0, 0x02, 2),
      (classOk r d && l.sizeOk, 0x02, 3),
      (d.panSet || !panNeeded d, 0x03, 4),
      (if d.panSet then 12 ≤ d.panDigits.toNat && d.panDigits.toNat ≤ 19 else d.panDigits == 0, 0x12, 4),
      (!d.panSet || panFieldOk d.panDigits.toNat d.pan, 0x34, 4),
      (!d.panSet || d.fwd || d.domain == 0, 0x10, 5),
      (inLen ≤ 16777216 && (!d.inline || inLen ≤ 16) && l.inOk, 0x14, 6),
      (l.outMin ≤ d.outCap.toNat, 0x30, 7),
      (if viaFabric then d.inAddr == 0 else d.inline || ((d.inAddr == 0) == (inLen == 0)), 0x18, 8),
      (if viaFabric then d.outAddr == 0 else (d.outAddr == 0) == (d.outCap == 0), 0x28, 8),
      (handleOk r.a d.keyA d.p, 0x08, 9), (handleOk r.b d.keyB d.p, 0x0C, 9),
      (l.p0Ok, 0x3E, 10),
      (match l.bad with | some (off, _) => (false, off, 10) | none => (true, 0, 10))]

/-- The descriptor check of **R77** before admission, on the landed input. -/
def descCheck (viaFabric peer : Bool) (d : Desc) (inp : Bytes) : Check := descCheckLay viaFabric peer d (layout d inp)

/-- The largest output the command can produce from its descriptor, for the landing reservation (**R309**). -/
def outReserve (d : Desc) : Nat := d.outCap.toNat

-- Randomness (R85, R98, R108) --------------------------------------------------------------------------------------------

/-- DRBG calls of a command for its P0: of the class's consumer, of consumer 3. -/
def rngCalls (d : Desc) : Nat × Nat :=
  let p := d.p
  let fo := p / 16 % 16
  match d.code with
  | 0x0101 | 0x0501 => (if fo = 0 then 0 else 1, 0)
  | 0x0504 | 0x0802 | 0x0803 => (1, 0)
  | 0x0601 | 0x0603 => (b2n (nbit p 8), 0)
  | 0x0807 => (1, 1)
  | 0x4001 => ((d.outCap.toNat + 511) / 512, 0)
  | 0x2001 => (if p % 16 = 2 then 1 else 0, 1)
  | 0x2003 | 0x2008 | 0x200A => (0, 1)
  | 0x2004 => (1, 0)
  | 0x2005 | 0x2006 | 0x200B => (1, 1)
  | 0x3001 | 0x3004 => (1, 1)
  | 0x3002 => (1, 0)
  | 0x3003 => (0, 1)
  | 0x3005 => (b2n (nbit p 8), 1)
  | 0x3101 | 0x3104 | 0x3201 | 0x3202 | 0x3204 | 0x3205 => (1, 0)
  | 0x3102 => (b2n (nbit p 8), 0)
  | 0x3801 | 0x3802 | 0x3804 | 0x3805 => (1, 1)
  | 0x3803 => (0, 1)
  | _ => (0, 0)

-- Cost classes (R95-R99) ----------------------------------------------------------------------------------------------------

/-- The cost of an ENSIGN request: cost class, S_c in tenths of a microsecond, engine work in cycles by pool. -/
structure Cost where
  /-- Cost class of **R98**. -/
  cls : Nat := 0
  /-- Service bound, tenths of a microsecond. -/
  sc : Nat := 0
  /-- (pool, cycles), pools rising. -/
  work : List (Nat × Nat) := []
  deriving DecidableEq, Repr

/-- The **R96** figure of a pool in core cycles of time. -/
def segCycles (pool : Nat) : Nat :=
  match pool with
  | 2 => 256 | 3 => 512 | 4 => 1350 | 5 => 96000 | 6 => 32700 | 7 => 96000 | _ => 0

/-- S_c of classes 7-25 by the rule of **R99**, rounded to the nearest 0.1 us. -/
def scRule (work : List (Nat × Nat)) (calls : Nat) : Nat :=
  let t := work.foldl (fun n w => n + segCycles w.1 + w.2) (19800 + 1500 * calls)
  (2 * t + 150) / 300

/-- A cost by the rule of **R99**. -/
def ruleCost (cls calls : Nat) (work : List (Nat × Nat)) : Cost :=
  { cls := cls, sc := scRule work calls, work := work }

/-- Row of **R97**, 0 selecting a default. -/
def rowOr (d : Desc) (dflt : Nat) : Nat := if d.row = 0 then dflt else d.row

/-- RSA cycles by row 2-8 (**R191**): private, public. -/
def rsaCycles (row : Nat) : Nat × Nat :=
  match row with
  | 0 | 1 | 2 => (0, 20000)
  | 3 => (0, 30000) | 4 => (400000, 40000) | 5 => (760000, 55000) | 6 => (1230000, 80000)
  | 7 => (2060000, 110000) | 8 => (3000000, 140000)
  | _ => (20560000, 560000)

/-- Curve cycles by code (**R192**): keygen, sign, verify, derive. -/
def curveCycles (c : Nat) : Nat × Nat × Nat × Nat :=
  match c with
  | 1 => (70000, 92000, 160000, 80000) | 2 => (175000, 230000, 400000, 200000)
  | 3 => (400000, 520000, 900000, 450000) | 4 => (80000, 0, 0, 80000) | 5 => (240000, 0, 0, 240000)
  | 6 => (70000, 80000, 120000, 0) | _ => (220000, 250000, 380000, 0)

/-- SLH-DSA cycles by set (**R215**): keygen, sign, verify. -/
def slhCycles (s : Nat) : Nat × Nat × Nat :=
  match s with
  | 1 => (4800000, 73800000, 36000) | 2 => (2900000, 44300000, 21600) | 3 => (150000, 4000000, 96000)
  | 4 => (90000, 2400000, 57600) | 5 => (7000000, 134000000, 54000) | 6 => (4200000, 80400000, 32400)
  | 7 => (220000, 6600000, 150000) | 8 => (132000, 4000000, 90000) | 9 => (4600000, 118000000, 78000)
  | 10 => (2800000, 70800000, 46800) | 11 => (580000, 13400000, 156000) | _ => (350000, 8000000, 93600)

/-- Stateful verification cycles by set (**R216**). -/
def statefulCycles (s : Nat) : Nat :=
  match s with
  | 1 => 16900 | 2 | 3 => 17000 | 4 => 17100 | 5 => 139400 | 6 => 33700 | 7 => 71700 | 8 => 72300 | 9 => 72700
  | 10 => 143300 | _ => 145300

/-- HQC cycles by set (**R225**): keygen, encaps, decaps. -/
def hqcCycles (s : Nat) : Nat × Nat × Nat :=
  match s with
  | 1 => (60000, 100000, 150000) | 2 => (130000, 220000, 330000) | _ => (230000, 390000, 580000)

/-- Classic McEliece decapsulation cycles by code (**R225**). -/
def mceCycles (s : Nat) : Nat := [200000, 420000, 760000, 740000, 800000].getD ((s - 1) / 2) 800000

/-- ML-KEM cycles by set (**R206**): keygen, encaps, decaps. -/
def kemCycles (s : Nat) : Nat × Nat × Nat :=
  match s with
  | 1 => (8000, 9000, 12000) | 2 => (13000, 15000, 19500) | _ => (20000, 22500, 28500)

/-- ML-DSA cycles by set (**R211**): keygen, 128 iterations, verify. -/
def dsaCycles (s : Nat) : Nat × Nat × Nat :=
  match s with
  | 1 => (18000, 1684000, 22300) | 2 => (27000, 2538800, 34300) | _ => (42000, 3498000, 55300)

/-- m of **R98**. -/
def costM (d : Desc) : Nat := max 1 ((d.inLen.toNat + d.outCap.toNat + 511) / 512)

/-- The cost class of an ENSIGN-permitted command (**R98**). -/
def costOf (d : Desc) : Cost :=
  let m := costM d
  match d.code with
  | 0x0101 | 0x0102 | 0x0103 | 0x0104 | 0x0201 => { cls := 1, sc := 142, work := [(2, 16), (3, 16)] }
  | 0x0501 => { cls := 2, sc := 156, work := [(2, 40), (3, 40)] }
  | 0x0301 | 0x0302 | 0x0303 => { cls := 3, sc := 160, work := [(2, 48), (3, 48)] }
  | 0x0401 | 0x0402 | 0x0502 | 0x1101 | 0x1102 | 0x0601 | 0x0602 =>
    { cls := 4, sc := 160 + 12 * m, work := [(2, 32 * m), (3, 32 * m), (4, 200 * m)] }
  | 0x0805 => { cls := 5, sc := 137 }
  | 0x5001 | 0x4001 | 0x1001 | 0x1002 | 0x1003 | 0x1004 => { cls := 6, sc := 42 + 12 * m, work := [(4, 200 * m)] }
  | 0x2006 => ruleCost 7 2 [(5, (curveCycles (rowOr d 3)).2.1)]
  | 0x2007 => ruleCost 8 0 [(5, (curveCycles (rowOr d 3)).2.2.1)]
  | 0x2008 => ruleCost 9 1 [(4, if rowOr d 7 = 7 then 384 else 1280), (5, (curveCycles (rowOr d 7)).2.1)]
  | 0x2009 => ruleCost 10 0 [(4, if rowOr d 7 = 7 then 384 else 1280), (5, (curveCycles (rowOr d 7)).2.2.1)]
  | 0x200A => ruleCost 11 1 [(5, (curveCycles (rowOr d 3)).2.2.2)]
  | 0x2001 => ruleCost 12 2 [(5, (rsaCycles (rowOr d 8)).1)]
  | 0x2002 => ruleCost 13 0 [(5, (rsaCycles (rowOr d 8)).2)]
  | 0x3002 => ruleCost 14 1 [(6, (kemCycles (rowOr d 3)).2.1)]
  | 0x3003 => ruleCost 15 1 [(6, (kemCycles (rowOr d 3)).2.2)]
  | 0x3005 => ruleCost 16 2 [(6, (dsaCycles (rowOr d 3)).2.1)]
  | 0x3006 => ruleCost 17 0 [(6, (dsaCycles (rowOr d 3)).2.2)]
  | 0x3103 => ruleCost 18 0 [(4, (slhCycles (rowOr d 11)).2.2)]
  | 0x3106 => ruleCost 19 0 [(4, statefulCycles (rowOr d 11))]
  | 0x3203 => ruleCost 20 0 [(7, (hqcCycles (rowOr d 3)).2.2)]
  | 0x3206 => ruleCost 21 0 [(7, mceCycles (rowOr d 10))]
  | 0x3802 => ruleCost 22 2 [(5, 160000), (6, 15000)]
  | 0x3803 => ruleCost 23 1 [(5, 80000), (6, 19500)]
  | 0x3805 => ruleCost 24 2 [(5, 92000), (6, 2538800)]
  | 0x3806 => ruleCost 25 0 [(5, 160000), (6, 34300)]
  | _ => {}

/-- Lookup work in cycles: 0.2 us for each key handle named (**R95**). -/
def lookupWork (d : Desc) : Nat := 300 * (b2n (d.keyA != 0) + b2n (d.keyB != 0))

/-- Everything an accepted ENSIGN request charges, in core cycles (**R105**): Chamois H_c, the pools, the exact-match
stage. -/
def chargeOf (d : Desc) : List (Nat × Nat) :=
  let c := costOf d
  (1, 150 * (c.sc - 10)) :: c.work ++ [(8, lookupWork d)]

/-- The pool that serves a command's work, for units, aborts and metering (**R151**, **R170**, **R198**, **R221**);
0 a command of the sequencer alone. -/
def poolOf (d : Desc) : Nat :=
  match d.group with
  | 0x01 | 0x05 => if d.p % 16 = 4 then 2 else 3
  | 0x02 => 3
  | 0x03 => if d.p % 16 = 2 then 2 else 3
  | 0x04 => 2
  | 0x06 => 2
  | 0x08 => 2
  | 0x10 | 0x11 | 0x31 => 4
  | 0x20 => 5
  | 0x30 => 6
  | 0x32 => 7
  | 0x38 => 6
  | _ => 0

/-- Index of a command group in the metering counters (**R319**). -/
def groupIdx (g : Nat) : Nat :=
  [(1, 0), (2, 1), (3, 2), (4, 3), (5, 4), (6, 5), (8, 6), (0x10, 7), (0x11, 8), (0x20, 9), (0x30, 10), (0x31, 11),
   (0x32, 12), (0x38, 13), (0x40, 14), (0x50, 15)].lookup g |>.getD 0

/-- A command whose sequencer detaches for PENNON and STREAMER (**R194**): a key generation, or a bound above one
segment. -/
def detaches (d : Desc) (cycles : Nat) : Bool :=
  [0x2005, 0x200B, 0x3001, 0x3004, 0x3101, 0x3104, 0x3201, 0x3204, 0x3801, 0x3804].contains d.code ||
    segCycles (poolOf d) < cycles

end Sys2Proof.Machine
end

