-- ==== Sys2Proof/Machine/Tables.lean ====
section
/-! DEFINITION. The tables of the lookup unit and the vault regions behind them: trie (**R251**-**R256**), domain and peer
tables (**R257**-**R261**), exact-match table and stash (**R262**-**R268**), the memory plan (**R43**) and the placing of
key records (**R508**). -/

namespace Sys2Proof.Machine

-- Image facts --------------------------------------------------------------------------------------------------------

/-- The default memory plan of **R43**, (base, size) in MiB, types 1-6. -/
def defaultPlan : List (Nat × Nat) :=
  [(0, 2048), (2048, 24576), (26624, 4096), (30720, 1536), (32256, 2), (32258, 510)]

/-- The plan in force (**R56**). -/
def planOf (s : State) : List (Nat × Nat) :=
  match s.img.cfg with
  | some c => c.plan
  | none => defaultPlan

/-- One region of the plan by type 1-6: base and size in MiB. -/
def region (s : State) (t : Nat) : Nat × Nat := (planOf s).getD (t - 1) (0, 0)

/-- A vault line index lies in a plan region of this type; a MiB holds 16,384 lines of 64 bytes. -/
def inRegion (s : State) (t line : Nat) : Bool :=
  let r := region s t
  r.1 * 16384 ≤ line && line < (r.1 + r.2) * 16384

/-- The plan region type of a vault line, 6 when no other. -/
def regionOf (s : State) (line : Nat) : Nat :=
  if inRegion s 1 line then 1 else if inRegion s 2 line then 2 else if inRegion s 3 line then 3
  else if inRegion s 4 line then 4 else if inRegion s 5 line then 5 else 6

/-- The cluster ID in force; without an image the module is standalone (**R44**, **R56**). -/
def clusterId (s : State) : BitVec 64 :=
  match s.img.cfg with
  | some c => c.fabric.cluster
  | none => 0

/-- A standalone module (**R44**). -/
def standalone (s : State) : Bool := clusterId s == 0

/-- T_E in tenths of a microsecond. -/
def teTenths (s : State) : Nat :=
  match s.img.cfg with
  | some c => 100 * c.te
  | none => 2500

-- Trie -----------------------------------------------------------------------------------------------------------------

/-- A trie word; an uncorrectable one reads as empty (**R256**). -/
def trieWord (l : Lku) (node w : Nat) : Word :=
  if l.badWords.contains (128 * node + w) then 0
  else if node = 0 ∧ w = 111 then 0xFFFF
  else tgetD l.trie (128 * node + w) 0

/-- One trie word written; a write clears an uncorrectable state of the word (**R256**). -/
def setTrie (node w : Nat) (v : Word) (l : Lku) : Lku :=
  { l with trie := if v = 0 then terase l.trie (128 * node + w) else tset l.trie (128 * node + w) v
           badWords := l.badWords.filter (· != 128 * node + w) }

/-- TYPE of a word (**R252**). -/
def wType (w : Word) : Nat := w.toNat / 2 ^ 30
/-- VALUE of a word (**R252**). -/
def wValue (w : Word) : Nat := w.toNat % 65536
/-- A leaf word. -/
def leafWord (d : Nat) : Word := BitVec.ofNat 32 (2 ^ 30 + d)
/-- A child word. -/
def childWord (n : Nat) : Word := BitVec.ofNat 32 (2 ^ 31 + n)

/-- What a trie search returns: domain, matched length, uncorrectable words met. -/
structure TrieHit where
  /-- Domain, 0 for no match. -/
  domain : Nat := 0
  /-- Matched length, 0 for none. -/
  len : Nat := 0
  /-- Uncorrectable words met, key 128 x node + word. -/
  bad : List Nat := []
  deriving DecidableEq, Repr

/-- A leaf met on the way improves the best match. -/
def better (w : Word) (len : Nat) (h : TrieHit) : TrieHit :=
  if wType w = 1 then { h with domain := wValue w, len := len } else h

/-- The stages of **R254** from stage `s` on: `k` stages still possible, the digits from this stage on. -/
def trieStages (l : Lku) : Nat → Nat → Nat → List Nat → TrieHit → TrieHit
  | 0, _, _, _, h => h
  | k + 1, s, node, ds, h =>
    let note := fun (w : Nat) (h : TrieHit) =>
      if l.badWords.contains (128 * node + w) then { h with bad := h.bad ++ [128 * node + w] } else h
    let h1 := note 110 (better (trieWord l node 110) (2 * s - 2) h)
    match ds with
    | [] => h1
    | a :: r =>
      let h2 := note (100 + a) (better (trieWord l node (100 + a)) (2 * s - 1) h1)
      match r with
      | [] => h2
      | b :: rest =>
        let e := trieWord l node (10 * a + b)
        let h3 := note (10 * a + b) h2
        if wType e = 1 then better e (2 * s) h3
        else if wType e = 2 then trieStages l k (s + 1) (wValue e) rest h3
        else h3

/-- A trie search (**R254**). -/
def trieSearch (l : Lku) (digits : List Nat) : TrieHit := trieStages l 10 1 0 digits {}

/-- The lowest number from `n` up that a list does not hold. -/
def lowestFree (used : List Nat) : Nat → Nat → Nat
  | 0, n => n
  | k + 1, n => if used.contains n then lowestFree used k (n + 1) else n

/-- The node allocated next, lowest-free first. -/
def freeNode (l : Lku) : Nat := lowestFree (l.nodes ++ l.freeing) (l.nodes.length + l.freeing.length) 1

/-- Nodes that can still be allocated (**R255**). -/
def freeNodes (l : Lku) : Nat := 49151 - l.nodes.length - l.freeing.length

/-- Where a prefix's word stands, walking without change: node and word, or nodes missing on its path. -/
def triePlace (l : Lku) : Nat → Nat → List Nat → Option (Nat × Nat) × Nat
  | 0, _, _ => (none, 0)
  | _ + 1, _, [] => (none, 0)
  | _ + 1, node, [a] => (some (node, 100 + a), 0)
  | k + 1, node, a :: b :: r =>
    let e := trieWord l node (10 * a + b)
    match r with
    | [] => if wType e = 2 then (some (wValue e, 110), 0) else (some (node, 10 * a + b), 0)
    | _ => if wType e = 2 then triePlace l k (wValue e) r else (none, (r.length + 1) / 2)

/-- The word that holds a prefix, if it is held. -/
def trieFind (l : Lku) (ds : List Nat) : Option (Nat × Nat) :=
  match (triePlace l 10 0 ds).1 with
  | some (n, w) => if wType (trieWord l n w) = 1 then some (n, w) else none
  | none => none

/-- The prefix written, nodes allocated as needed; a leaf in the way moves into the new child's DEFAULT (**R253**). -/
def trieWrite (d : Nat) : Nat → Nat → List Nat → Lku → Lku
  | 0, _, _, l => l
  | _ + 1, _, [], l => l
  | _ + 1, node, [a], l => setTrie node (100 + a) (leafWord d) l
  | k + 1, node, a :: b :: r, l =>
    let e := trieWord l node (10 * a + b)
    match r with
    | [] =>
      if wType e = 2 then setTrie (wValue e) 110 (leafWord d) l else setTrie node (10 * a + b) (leafWord d) l
    | _ =>
      if wType e = 2 then trieWrite d k (wValue e) r l
      else
        let c := freeNode l
        let l1 := { l with nodes := c :: l.nodes }
        let l2 := setTrie c 111 (BitVec.ofNat 32 (65536 * (10 * a + b) + node)) l1
        let l3 := if wType e = 1 then setTrie c 110 e l2 else l2
        setTrie node (10 * a + b) (childWord c) (trieWrite d k c r l3)

/-- A node's words 0-109 are all empty. -/
def nodeBare (l : Lku) (node : Nat) : Bool :=
  l.trie.all fun e => !(128 * node ≤ e.1 && e.1 < 128 * node + 110)

/-- Collapse and freeing from a node up (**R253**): at most `k` levels. -/
def trieCollapse : Nat → Nat → Lku → Lku
  | 0, _, l => l
  | k + 1, node, l =>
    if node = 0 ∨ !nodeBare l node then l
    else
      let p := trieWord l node 111
      let parent := p.toNat % 65536
      let slot := p.toNat / 65536
      let dflt := trieWord l node 110
      let l1 := setTrie node 111 0 (setTrie node 110 0 l)
      let l2 := { l1 with nodes := l1.nodes.filter (· != node), freeing := l1.freeing ++ [node] }
      let l3 := setTrie parent slot (if wType dflt = 1 then dflt else 0) l2
      if wType dflt = 1 then l3 else trieCollapse k parent l3

-- Domains and peers --------------------------------------------------------------------------------------------------------

/-- The domain entry (**R258**): every entry of a standalone module is LOCAL. -/
def domainOf (s : State) (d : Nat) : DomainEntry :=
  match tget? s.lku.domains d with
  | some e => e
  | none => if standalone s then { state := 1 } else {}

/-- The domain entry written. -/
def setDomain (d : Nat) (e : DomainEntry) (s : State) : State :=
  { s with lku := { s.lku with domains := tset s.lku.domains d e } }

/-- The peer entry (**R259**). -/
def peerOf (s : State) (n : Nat) : PeerEntry :=
  if s.fab.nodeId = some n then { (tgetD s.lku.peers n {}) with state := 3 } else tgetD s.lku.peers n {}

/-- The peer entry changed. -/
def updPeer (n : Nat) (f : PeerEntry → PeerEntry) (s : State) : State :=
  { s with lku := { s.lku with peers := tupd s.lku.peers n {} f } }

/-- A remote owner is reachable (**R258**). -/
def reachable (p : PeerEntry) : Bool := p.state == 1 && p.session.isSome && (p.path0 || p.path1)

/-- Outbound delay: the lower of the marked ports' delays (**R258**). -/
def outboundDelay (p : PeerEntry) : Nat :=
  min (if p.path0 then p.delay0 else 0xFFFFFFFF) (if p.path1 then p.delay1 else 0xFFFFFFFF)

/-- This module's node ID, 0xFFFF where none is assigned. -/
def selfNode (s : State) : Nat := s.fab.nodeId.getD 0xFFFF

/-- Learning of a triple (**R260**). -/
def learn (d owner p sender : Nat) (s : State) : State :=
  if owner ≠ sender then
    logEvent 0x402 (leBytes 2 d ++ leBytes 2 owner ++ leBytes 2 sender) s
  else
    let e := domainOf s d
    if e.pennant < p then
      let t := setDomain d { e with pennant := p, owner := owner, state := if owner = selfNode s then 1 else 2 } s
      { t with lku := { t.lku with learned := satAdd 32 t.lku.learned 1 } }
    else if p = e.pennant ∧ owner = e.owner ∧ e.state = 3 then
      let t := setDomain d { e with state := 2 } s
      { t with lku := { t.lku with learned := satAdd 32 t.lku.learned 1 } }
    else { s with lku := { s.lku with ignored := satAdd 32 s.lku.ignored 1 } }

-- The exact-match table -------------------------------------------------------------------------------------------------------

/-- Buckets of the exact-match region (**R262**). -/
def emBuckets (s : State) : Nat := (region s 1).2 * 8192

/-- Bucket `i` (1 or 2) of a key before the inequality rule. -/
def emHash (s : State) (i slice handle : Nat) : Nat :=
  sipHash24 s.kvt.kTable ([BitVec.ofNat 8 i, BitVec.ofNat 8 slice, 0, 0] ++ leBytes 4 handle) % max 1 (emBuckets s)

/-- The two buckets of a key (**R262**). -/
def emBucketsOf (s : State) (slice handle : Nat) : Nat × Nat :=
  let b1 := emHash s 1 slice handle
  let b2 := emHash s 2 slice handle
  (b1, if b2 = b1 then Nat.xor b1 1 else b2)

/-- An entry matches a key (**R264**). -/
def EmEntry.isFor (e : EmEntry) (slice handle : Nat) : Bool :=
  e.flags.getLsbD 0 && e.slice == slice && e.handle == handle

/-- The place of a key in one bucket: key 4 x bucket + entry. -/
def inBucket (em : Tbl EmEntry) (b slice handle : Nat) : Option Nat :=
  (List.range 4).findSome? fun i =>
    match tget? em (4 * b + i) with
    | some e => if e.isFor slice handle then some (4 * b + i) else none
    | none => none

/-- The lowest free entry of a bucket. -/
def freeIn (em : Tbl EmEntry) (b : Nat) : Option Nat :=
  (List.range 4).findSome? fun i => if (tget? em (4 * b + i)).isNone then some (4 * b + i) else none

/-- The outcome of an exact-match search (**R264**). -/
inductive EmHit where
  /-- In a bucket: key 4 x bucket + entry. -/
  | bucket (k : Nat) (e : EmEntry)
  /-- In the stash: index. -/
  | stash (i : Nat) (e : EmEntry)
  /-- Absent. -/
  | absent
  /-- An uncorrectable bucket ended the search. -/
  | memory
  deriving DecidableEq, Repr

/-- The search of **R264**: bucket 1 and the stash, then bucket 2. -/
def emFind (s : State) (slice handle : Nat) : EmHit :=
  let (b1, b2) := emBucketsOf s slice handle
  let l := s.lku
  if l.badBuckets.contains b1 then .memory
  else
    match inBucket l.em b1 slice handle with
    | some k => .bucket k (tgetD l.em k {})
    | none =>
      match l.stash.find? fun p => p.2.isFor slice handle with
      | some (i, e) => .stash i e
      | none =>
        if l.badBuckets.contains b2 then .memory
        else
          match inBucket l.em b2 slice handle with
          | some k => .bucket k (tgetD l.em k {})
          | none => .absent

/-- The walk of **R265** step 3: steps left, step number, bucket, slots of the victims newest first.  A slot met again
cuts the loop out of the path (log entry 23).  Answers the path and the free entry at its end. -/
def emWalk (s : State) : Nat → Nat → Nat → List Nat → Option (List Nat × Nat)
  | 0, _, _, _ => none
  | k + 1, j, b, path =>
    let slot := 4 * b + j % 4
    match tget? s.lku.em slot with
    | none => some (path, slot)
    | some v =>
      let (c1, c2) := emBucketsOf s v.slice v.handle
      let other := if c1 = b then c2 else c1
      let path' := if path.contains slot then path.dropWhile (· != slot) else slot :: path
      match freeIn s.lku.em other with
      | some f => some (path', f)
      | none => emWalk s k (j + 1) other path'

/-- The path applied from its far end: each victim moves into the place after it, the new entry last (**R265**). -/
def emApply (new : EmEntry) : List Nat → Nat → Tbl EmEntry → Tbl EmEntry
  | [], dest, em => tset em dest new
  | slot :: r, dest, em => emApply new r slot (tset em dest (tgetD em slot {}))

/-- Steps 2-4 of **R265**: the table with the entry placed, or none. -/
def emPlace (s : State) (e : EmEntry) : Option (Tbl EmEntry) :=
  let (b1, b2) := emBucketsOf s e.slice e.handle
  match freeIn s.lku.em b1 with
  | some k => some (tset s.lku.em k e)
  | none =>
    match freeIn s.lku.em b2 with
    | some k => some (tset s.lku.em k e)
    | none =>
      match emWalk s 32 1 b1 [] with
      | some (path, dest) => some (emApply e path dest s.lku.em)
      | none => none

/-- STASH_HIGH recomputed, logged when the stash reaches 48 entries (**R266**). -/
def stashLevel (s : State) : State :=
  let n := s.lku.stash.length
  let high := 48 ≤ n
  let t := { s with lku := { s.lku with stashHigh := high } }
  if high && !s.lku.stashHigh then logEvent 0x403 [BitVec.ofNat 8 n] t else t

/-- LKU_TABLE_FULL counted and logged (**R271**). -/
def tableFull (slice handle : Nat) (s : State) : State :=
  logEvent 0x404 (BitVec.ofNat 8 slice :: leBytes 4 handle)
    { s with lku := { s.lku with tableFull := satAdd 32 s.lku.tableFull 1 } }

/-- An insert (**R265**), its entry stamped with MTIME: LKU result code and state. -/
def emInsert (e : EmEntry) (s : State) : Nat × State :=
  let e := { e with stamp := s.mtime }
  let (b1, b2) := emBucketsOf s e.slice e.handle
  if s.lku.badBuckets.contains b1 || s.lku.badBuckets.contains b2 then (8, s)
  else
    match emFind s e.slice e.handle with
    | .bucket _ _ => (1, s)
    | .stash _ _ => (1, s)
    | .memory => (8, s)
    | .absent =>
      match emPlace s e with
      | some em => (0, { s with lku := { s.lku with em := em } })
      | none =>
        let i := lowestFree (s.lku.stash.map (·.1)) s.lku.stash.length 0
        if i < 64 then (0, stashLevel { s with lku := { s.lku with stash := tset s.lku.stash i e } })
        else (3, tableFull e.slice e.handle s)

/-- Each stash entry tried in the buckets, lowest index first (**R266**). -/
def stashMove : List (Nat × EmEntry) → State → State
  | [], s => s
  | (i, e) :: r, s =>
    match emPlace s e with
    | some em => stashMove r { s with lku := { s.lku with em := em, stash := terase s.lku.stash i } }
    | none => stashMove r s

/-- The stash retried after a freeing delete and every 1 ms (**R266**). -/
def stashRetry (s : State) : State := stashLevel (stashMove s.lku.stash s)

/-- A delete (**R266**). -/
def emDelete (slice handle : Nat) (s : State) : Nat × State :=
  match emFind s slice handle with
  | .bucket k _ => (0, stashRetry { s with lku := { s.lku with em := terase s.lku.em k } })
  | .stash i _ => (0, stashLevel { s with lku := { s.lku with stash := terase s.lku.stash i } })
  | .memory => (8, s)
  | .absent => (2, s)

/-- A replace of the matching entry whole (**R266**). -/
def emReplace (e : EmEntry) (s : State) : Nat × State :=
  let e := { e with stamp := s.mtime }
  match emFind s e.slice e.handle with
  | .bucket k _ => (0, { s with lku := { s.lku with em := tset s.lku.em k e } })
  | .stash i _ => (0, { s with lku := { s.lku with stash := tset s.lku.stash i e } })
  | .memory => (8, s)
  | .absent => (2, s)

/-- The 32 bytes of an exact-match entry (**R263**). -/
def EmEntry.bytes (e : EmEntry) : Bytes :=
  leBytes 4 e.handle ++ [BitVec.ofNat 8 e.slice, e.flags] ++ leBytes 2 e.domain ++ leBytes 4 e.record ++
  leBytes 2 e.lines ++ [0, 0] ++ leBytes 8 e.stamp ++ List.replicate 8 0

/-- An exact-match entry of 32 bytes. -/
def emOfBytes (b : Bytes) : EmEntry where
  handle := leNat (bytesAt b 0 4)
  slice := leNat (bytesAt b 4 1)
  flags := BitVec.ofNat 8 (leNat (bytesAt b 5 1))
  domain := leNat (bytesAt b 6 2)
  record := leNat (bytesAt b 8 4)
  lines := leNat (bytesAt b 12 2)
  stamp := leNat (bytesAt b 16 8)

-- Key records in vault memory (R358, R508) -----------------------------------------------------------------------------------

/-- The lowest run of `n` free lines at or after `from`, given the runs in use in rising order. -/
def gapFor (n stop : Nat) : List (Nat × Nat) → Nat → Option Nat
  | [], pos => if pos + n ≤ stop then some pos else none
  | (b, len) :: r, pos => if pos + n ≤ b then some pos else gapFor n stop r (max pos (b + len))

/-- A first line for a record of `n` lines in the key-record region, lowest-free first (log entry 24). -/
def recordGap (s : State) (n : Nat) : Option Nat :=
  let r := region s 2
  gapFor n ((r.1 + r.2) * 16384) (s.kvt.records.map fun p => (p.1, p.2.lines)) (r.1 * 16384)

/-- Runs of lines in use in the large-public-key region, rising. -/
def largeRuns (s : State) : List (Nat × Nat) :=
  s.kvt.records.foldl (fun t p => if p.2.largeLines = 0 then t else tset t p.2.largeRef p.2.largeLines) []

/-- A first line for `n` lines of large-region data. -/
def largeGap (s : State) (n : Nat) : Option Nat :=
  let r := region s 3
  gapFor n ((r.1 + r.2) * 16384) (largeRuns s) (r.1 * 16384)

/-- Lines in use in the large-public-key region. -/
def largeUsed (s : State) : Nat := s.kvt.records.foldl (fun n p => n + p.2.largeLines) 0

/-- Record length in lines (**R358**): the wrapped material is the key material, or the digest of public material,
with a 16-byte tag (**R359**). -/
def KeyRec.lineCount (r : KeyRec) : Nat :=
  1 + (if r.typ = 4 then 1 else 0) + (r.material.length + 16 + 63) / 64

/-- Colour of a slice's lines. -/
def sliceColour (n : Nat) : Nat := n

/-- The record's lines take the slice's colour. -/
def colourRecord (r : KeyRec) (line : Nat) (m : Mem) : Mem :=
  let m1 := setColours m (vaultLine0 + line) (sliceColour r.slice) r.lines
  setColours m1 (vaultLine0 + r.largeRef) (sliceColour r.slice) r.largeLines

/-- The record's lines released to colour 0x3FF (**R363**). -/
def releaseRecord (r : KeyRec) (line : Nat) (m : Mem) : Mem :=
  let m1 := releaseLines m (vaultLine0 + line) r.lines
  if r.largeLines = 0 then m1 else releaseLines m1 (vaultLine0 + r.largeRef) r.largeLines

/-- Why a record is not placed. -/
inductive PlaceFail where
  /-- The key-record region has no room (**R508**). -/
  | record (lines : Nat)
  /-- The large-public-key region has no room (**R222**). -/
  | large (bytes : Nat)
  deriving DecidableEq, Repr

/-- A record placed in the regions: its first line, or what is missing. -/
def placeRecord (r : KeyRec) (largeBytes : Nat) (s : State) : (Nat × KeyRec) ⊕ PlaceFail :=
  let n := r.lineCount
  let ll := (largeBytes + 63) / 64
  match recordGap s n with
  | none => .inr (.record n)
  | some line =>
    if ll = 0 then .inl (line, { r with lines := n })
    else
      match largeGap s ll with
      | none => .inr (.large largeBytes)
      | some lg => .inl (line, { r with lines := n, largeRef := lg, largeLines := ll, large := true })

/-- The record that an exact-match entry names, if the line holds one. -/
def recordAt (s : State) (e : EmEntry) : Option KeyRec := tget? s.kvt.records e.record

/-- The exact-match entry of a record. -/
def entryFor (r : KeyRec) (line : Nat) : EmEntry where
  handle := r.handle
  slice := r.slice
  flags := BitVec.ofNat 8 (1 + 2 * b2n (r.typ == 3) + 4 * b2n r.large)
  domain := r.domain
  record := line
  lines := r.lines

end Sys2Proof.Machine
end

