-- ==== Sys2Proof/Machine/Entropy.lean ====
section
/-! DEFINITION. Entropy source and DRBG instances (**R231**-**R249**): cells and their tests, the accumulator, seeds,
instances, the binding of calls, and the rows that time and the Warden drive. -/

namespace Sys2Proof.Machine

-- Instances (R243, R244) --------------------------------------------------------------------------------------------

/-- The hard stop: calls after which an instance serves no more until a reseed (**R243**). -/
def hardStop : Nat := 1048576

/-- Instance `i`. -/
def drbgOf (s : State) (i : Nat) : Drbg := tgetD s.ent.drbg i {}

/-- The state with an instance changed. -/
def updDrbg (i : Nat) (f : Drbg → Drbg) (s : State) : State :=
  { s with ent := { s.ent with drbg := tset s.ent.drbg i (f (drbgOf s i)) } }

/-- The instances of a consumer, lowest number first. -/
def consumerInsts (s : State) (c : Nat) : List Nat := (List.range 16).filter fun i => (drbgOf s i).consumer == c

/-- An instance that can serve no further call (**R108**). -/
def drbgFull (s : State) (i : Nat) : Bool :=
  !s.ent.startupDone || !(drbgOf s i).inst || hardStop ≤ (drbgOf s i).calls + (drbgOf s i).committed

/-- The blocked instance that DETAIL of REFUSED_RNG names for a consumer: the lowest-numbered one, 0xFF where none is
assigned; none where the consumer is not blocked (**R108**). -/
def blockedInst (s : State) (c : Nat) : Option Nat :=
  match consumerInsts s c with
  | [] => some 0xFF
  | l => l.find? (drbgFull s)

/-- The instance with the lowest sum of calls and committed calls (**R244**). -/
def leastInst (s : State) (c : Nat) : Option Nat :=
  let load := fun i => (drbgOf s i).calls + (drbgOf s i).committed
  (consumerInsts s c).foldl (fun b i =>
    match b with
    | some j => if load i < load j then some i else some j
    | none => some i) none

/-- `n` calls of a consumer committed at admission: the instances bound, one per call, and the state (**R244**). -/
def commitCalls (c : Nat) : Nat → State → List (Nat × Nat) × State
  | 0, s => ([], s)
  | n + 1, s =>
    match leastInst s c with
    | none => ([], s)
    | some i =>
      let (l, t) := commitCalls c n (updDrbg i (fun d => { d with committed := d.committed + 1 }) s)
      ((i, 1) :: l, t)

/-- Calls counted at an instance; a reseed falls due at the call interval (**R243**). -/
def countCalls (i n : Nat) (s : State) : State :=
  updDrbg i (fun d => { d with calls := d.calls + n, due := d.due || s.ent.interval ≤ d.calls + n }) s

/-- Bound calls made. -/
def makeCalls (l : List (Nat × Nat)) (s : State) : State :=
  l.foldl (fun s p => countCalls p.1 p.2 (updDrbg p.1 (fun d => { d with committed := d.committed - p.2 }) s)) s

/-- Bound calls given back by a request that ends before it makes them. -/
def dropCalls (l : List (Nat × Nat)) (s : State) : State :=
  l.foldl (fun s p => updDrbg p.1 (fun d => { d with committed := d.committed - p.2 }) s) s

/-- Round robin over a consumer's instances from the one served next, those at their stop skipped (**R244**). -/
def rrInst (s : State) (c : Nat) : Option Nat :=
  let l := (consumerInsts s c).filter fun i => !drbgFull s i
  match l.find? fun i => tgetD s.ent.rr c 0 ≤ i with
  | some i => some i
  | none => l.head?

/-- `n` calls of a consumer served round robin, or none when no instance can serve (**R244**). -/
def rrCalls (c : Nat) : Nat → State → Option State
  | 0, s => some s
  | n + 1, s =>
    match rrInst s c with
    | none => none
    | some i =>
      let t := countCalls i 1 s
      rrCalls c n { t with ent := { t.ent with rr := tset t.ent.rr c (i + 1) } }

/-- A consumer-4 call of the Warden (**R244**): `n` calls, or none (REFUSED_RNG). -/
def wardenCalls (n : Nat) (s : State) : Option State := rrCalls 4 n s

/-- An instance instantiated from two seeds (**R237**), its state a fresh free value. -/
def instantiate (i : Nat) (s : State) : State :=
  let (n, t) := draw s
  updDrbg i (fun d => { d with inst := true, due := false, calls := 0, committed := 0, reseedAt := t.mtime, seed := n }) t

/-- An instance reseeded (**R243**). -/
def reseed (i : Nat) (s : State) : State :=
  let (n, t) := draw s
  let u := updDrbg i (fun d => { d with due := false, calls := 0, reseedAt := t.mtime, seed := n }) t
  { u with ent := { u.ent with reseeds := satAdd 64 u.ent.reseeds 1 } }

/-- Instances instantiated one after another. -/
def instantiateAll (l : List Nat) (s : State) : State := l.foldl (fun s i => instantiate i s) s

/-- Every instance uninstantiated, seeds and accumulator cleared (**R246**, **R242**). -/
def entropyClear (s : State) : State :=
  { s with ent := { s.ent with
      drbg := s.ent.drbg.map fun p => (p.1, { p.2 with inst := false, due := false, calls := 0, committed := 0, seed := 0 })
      seeds := 0, blockBits := 0, blockCredit := 0 } }

-- Cells (R232-R240) ------------------------------------------------------------------------------------------------

/-- A cell that contributes: it runs, was not excluded and is not retired (**R240**). -/
def Cell.healthy (c : Cell) : Bool := c.state == 0 || c.state == 3

/-- Healthy cells; a cell not listed has not been started. -/
def healthyCount (s : State) : Nat := (s.ent.cells.filter fun p => p.2.healthy).length

/-- SOURCE_FAIL where the healthy count lies below the minimum (**R240**). -/
def sourceCheck (s : State) : State :=
  if s.ent.sourceFail || s.ent.minCells ≤ healthyCount s then s
  else
    raise 3 (logEvent 0x703 [BitVec.ofNat 8 (healthyCount s), BitVec.ofNat 8 s.ent.minCells]
      { s with ent := { s.ent with sourceFail := true, seeds := 0, blockBits := 0, blockCredit := 0 } })

/-- The source's start (**R241**): cells that fail a window of the start-up test, one listing per failed window, and
the outcome of the known-answer tests.  `keepTrim`: the trims stand in always-on retention (**R232**). -/
def entropyStart (badCells : List Nat) (kat keepTrim : Bool) (s : State) : State :=
  let cells := (List.range 64).map fun i =>
    let f := min 4 (badCells.count i)
    (i, ({ state := if f = 0 then 0 else 1, trim := if keepTrim then (tgetD s.ent.cells i {}).trim else 32,
           fails := f, failAt := List.replicate f s.mtime } : Cell))
  let t := { s with ent := { s.ent with
    cells := cells, sourceFail := false, startupDone := false, seeds := 0, blockBits := 0, blockCredit := 0 } }
  if healthyCount t < t.ent.minCells then
    logEvent 0x704 [BitVec.ofNat 8 (healthyCount t)] { t with ent := { t.ent with sourceFail := true } }
  else if !kat then t
  else
    let u := instantiateAll (List.range 16) { t with ent := { t.ent with credit := satAdd 65 t.ent.credit (32 * 768) } }
    { u with ent := { u.ent with startupDone := true } }

/-- The entropy policy of an image applied (**R242**). -/
def applyPolicy (c : ImageCfg) (s : State) : State :=
  let e := s.ent
  let t := { s with ent := { e with
    cond := c.cond, threshold := c.threshold, minCells := c.minCells, interval := c.reseedCalls
    blockBits := if c.cond = e.cond then e.blockBits else 0
    blockCredit := if c.cond = e.cond then e.blockCredit else 0 } }
  let u := if t.ent.startupDone then sourceCheck t else t
  (List.range 16).foldl (fun s i =>
    let k := c.drbgAssign.getD i 0
    if (drbgOf s i).consumer = k then s
    else
      let v := updDrbg i (fun d => { d with consumer := k }) s
      if !(drbgOf v i).inst then v
      else if v.ent.sourceFail then updDrbg i (fun d => { d with inst := false }) v
      else
        let w := reseed i v
        { w with ent := { w.ent with seeds := w.ent.seeds - 1 } }) u

-- Rows ----------------------------------------------------------------------------------------------------------------

/-- The run of equal samples carried through a window, and whether 41 in a row ended in it (**R234**). -/
def runTest : List Bool → Bool → Nat → Bool → Bool × Nat × Bool
  | [], b, n, bad => (b, n, bad)
  | x :: r, b, n, bad =>
    let m := if n ≠ 0 ∧ x = b then n + 1 else 1
    runTest r x m (bad || 41 ≤ m)

/-- Conditioned bits of a window (**R235**): every pair in mode 1, unequal pairs in mode 2. -/
def condBits (mode : Nat) : List Bool → Nat
  | a :: b :: r => (if mode = 1 || a != b then 1 else 0) + condBits mode r
  | _ => 0

/-- Words of 32 samples, the oldest in bit 0 (**R247**). -/
def sampleWord (l : List Bool) : Word :=
  BitVec.ofNat 32 (l.zipIdx.foldl (fun n p => n + (if p.1 then 2 ^ p.2 else 0)) 0)

/-- `n` words of samples. -/
def sampleWords : Nat → List Bool → List Word
  | 0, _ => []
  | n + 1, l => sampleWord (l.take 32) :: sampleWords n (l.drop 32)

/-- Capture is permitted (**R247**). -/
def captureState (s : State) : Bool := s.lcs.state == .maker || s.lcs.state == .returned

/-- The module is powered beyond SLEEP and the cells run (**R242**). -/
def cellsRun (s : State) : Bool := s.pwr.state == .ready || s.pwr.state == .run

/-- The judgement of one window: the cell after it, and whether the window failed (**R234**). -/
def judgeWindow (now : Nat) (samples : List Bool) (c : Cell) : Cell × Bool :=
  let (b, n, rep) := runTest samples c.runBit c.runLen false
  let first := samples.headD false
  let fail := rep || 800 ≤ samples.count first
  ({ c with runBit := b, runLen := min n 63, fails := if fail then satAdd 24 c.fails 1 else c.fails
            failAt := if fail then now :: c.failAt else c.failAt }, fail)

/-- HEALTH_WINDOW_END (**R234**, **R235**, **R247**): one window of 1,024 samples of a running cell. -/
def execHealthWindowEnd (cell : Nat) (samples : List Bool) (s : State) : Res :=
  let c := tgetD s.ent.cells cell {}
  if !cellsRun s || (tget? s.ent.cells cell).isNone || !c.healthy || samples.length != 1024 then .next s
  else
    let (d, fail) := judgeWindow s.mtime samples c
    let e := { s.ent with cells := tset s.ent.cells cell d }
    if s.ent.capture && s.ent.captureCell == cell && captureState s then
      let all := e.buffer ++ sampleWords 32 samples
      .next { s with ent := { e with buffer := all.take 4096, overrun := e.overrun || 4096 < all.length } }
    else if e.sourceFail then .next { s with ent := e }
    else
      let n := condBits e.cond samples
      let k := if fail then 0 else n
      .next { s with ent := { e with
        blockBits := e.blockBits + n, blockCredit := e.blockCredit + k, credit := satAdd 65 e.credit k } }

/-- BALANCING_PERIOD_END (**R233**): the trim follows the count of ones of 4,096 samples. -/
def execBalancingPeriodEnd (cell : Nat) (ones : Nat) (s : State) : Res :=
  let c := tgetD s.ent.cells cell {}
  if !cellsRun s || (tget? s.ent.cells cell).isNone || !c.healthy || 4096 < ones then .next s
  else
    let trim := if s.ent.capture && s.ent.captureCell == cell then c.trim
      else if ones < 1966 then min 63 (c.trim + 1) else if 2130 < ones then c.trim - 1 else c.trim
    let edge := if trim = 0 ∨ trim = 63 then min 3 (c.edge + 1) else 0
    let t := { s with ent := { s.ent with cells := tset s.ent.cells cell { c with trim := trim, edge := edge } } }
    .next (if edge = 3 && c.edge != 3 then logEvent 0x701 [BitVec.ofNat 8 cell, BitVec.ofNat 8 trim] t else t)

/-- SEED_BLOCK_CLOSE (**R236**): a block of 384 credited bits becomes a ready seed; at most 32 are held. -/
def execSeedBlockClose (s : State) : Res :=
  let e := s.ent
  if e.sourceFail || e.blockCredit < 768 || 32 ≤ e.seeds then .next s
  else
    let left := e.blockCredit - 768
    .next { s with ent := { e with seeds := e.seeds + 1, blockCredit := left, blockBits := left } }

/-- One cell compared at a checkpoint (**R238**, **R239**). -/
def retireCell (s : State) (cell : Nat) : State :=
  let c := tgetD s.ent.cells cell {}
  let recent := (c.failAt.filter fun t => s.mtime < t + 60000000000).length
  let cause := if s.ent.threshold < recent then 1 else if c.edge = 3 then 2 else 0
  if (tget? s.ent.cells cell).isNone || !c.healthy || cause == 0 then s
  else
    logEvent 0x702 [BitVec.ofNat 8 cell, BitVec.ofNat 8 cause]
      { s with ent := { s.ent with cells := tset s.ent.cells cell { c with state := 2 } } }

/-- ENT_CHECKPOINT (**R238**, **R240**): the Warden compares the counters of all cells. -/
def execEntCheckpoint (s : State) : Res :=
  if !cellsRun s || s.wdn.lost then .next s
  else
    let t := (List.range 64).foldl retireCell s
    .next (if t.ent.startupDone || t.ent.sourceFail then sourceCheck t else t)

/-- RESEED_DUE (**R243**): the call interval, or 1 s since the last reseed. -/
def execReseedDue (inst : Nat) (s : State) : Res :=
  let d := drbgOf s inst
  if d.inst && inst < 16 && (s.ent.interval ≤ d.calls || d.reseedAt + 1000000000 ≤ s.mtime) then
    .next (updDrbg inst (fun d => { d with due := true }) s)
  else .next s

/-- DRBG_RESEED (**R243**, **R240**): a due instance reseeds when a seed is ready. -/
def execDrbgReseed (inst : Nat) (s : State) : Res :=
  let d := drbgOf s inst
  if inst < 16 && d.inst && d.due && 0 < s.ent.seeds && !s.ent.sourceFail then
    .next (reseed inst { s with ent := { s.ent with seeds := s.ent.seeds - 1 } })
  else .next s

/-- DRBG_WARDEN_REINSTANTIATE (**R246**, **R387**): after a LOCK or the erasure of RETURNED, the consumer-4 instances from newly
collected seeds. -/
def execDrbgWardenReinstantiate (s : State) : Res :=
  if (s.tmp.locked || s.lcs.state == .returned) && s.ent.startupDone && !s.ent.sourceFail then
    .next (instantiateAll ((consumerInsts s 4).filter fun i => !(drbgOf s i).inst) s)
  else .next s

/-- The oldest captured word removed from the buffer; zero when it is empty, and in a state without capture
(**R231**, **R247**, **R249**). -/
def rawPop (s : State) : Word × State :=
  if captureState s then
    match s.ent.buffer with
    | w :: r => (w, { s with ent := { s.ent with buffer := r } })
    | [] => (0, s)
  else (0, s)

/-- A write to ENT_RAW_CTRL (**R247**, **R249**). -/
def rawCtrl (value : Word) (s : State) : State :=
  if !captureState s then logEvent 0x705 [BitVec.ofNat 8 s.lcs.state.code] s
  else
    let en := value.getLsbD 0
    let cell := value.toNat / 256 % 64
    let back := s.ent.cells.map fun p => (p.1, if p.2.state = 3 then { p.2 with state := 0 } else p.2)
    let cells := if en && (tgetD back cell {}).state == 0 && (tget? back cell).isSome then
      tset back cell { (tgetD back cell {}) with state := 3 } else back
    { s with ent := { s.ent with
        cells := cells, capture := en, captureCell := cell, overrun := s.ent.overrun && !value.getLsbD 16 } }

end Sys2Proof.Machine
end

