-- ==== Sys2Proof/Machine/Image.lean ====
section
/-! DEFINITION. The structure image: its layout (**R31**-**R50**) and the checks that accept it (**R51**). -/

namespace Sys2Proof.Machine

/-- A rejection: code of **R51**, section type, offset within the section. -/
structure Reject where
  /-- Code of **R51**. -/
  code : Nat := 0
  /-- Section type, 0 for header, table and signatures. -/
  sec : Nat := 0
  /-- Byte offset of the failing field. -/
  off : Nat := 0
  deriving DecidableEq, Repr

/-- What an image's checks read of the module (**R51**). -/
structure AcceptCtx where
  /-- Life-cycle state encoding. -/
  life : Nat := 0
  /-- Owner fingerprint enrolled. -/
  owner : Option Bytes := none
  /-- Identity fingerprint. -/
  ident : Bytes := []
  /-- Rollback floor. -/
  floor : Nat × Nat := (0, 0)
  /-- Tamper sources disabled by fuse, bit per source code (**R405**). -/
  disabled : Nat := 0
  deriving DecidableEq, Repr

/-- Length of the signature block (**R34**). -/
def sigBlock : Nat := 4728

/-- Smallest image (**R51** 0x04). -/
def imageMin : Nat := 0x120 + sigBlock

/-- Largest image (**R32**). -/
def imageMax : Nat := 4194304

/-- Enabled unit counts of pools 1-7 (**R16**). -/
def enabledCount (pool : Nat) : Nat := [48, 16, 8, 64, 32, 16, 4].getD (pool - 1) 0

/-- A field of a section: `n` little-endian bytes at an offset. -/
def fld (s : Bytes) (off n : Nat) : Nat := leNat (bytesAt s off n)

/-- Bytes of a reserved field are zero. -/
def isZero (s : Bytes) (off n : Nat) : Bool := fld s off n == 0

/-- The first test that fails: its offset. -/
def firstOff : List (Bool × Nat) → Option Nat
  | [] => none
  | (ok, off) :: r => if ok then firstOff r else some off

-- Section table (R33) ------------------------------------------------------------------------------------------------

/-- The exact length of a section (**R33**, **R36**-**R49**). -/
def sectionLen (raw : Bytes) (typ off : Nat) : Nat :=
  if typ = 4 then (8 + 4 * fld raw off 4 + 7) / 8 * 8
  else [56, 32, 8192, 0, 96, 128, 32, 32, 32, 32].getD (typ - 1) 0

/-- The table walked from entry `i`: the sections' bytes in order of type, or none. -/
def sectionWalk (raw : Bytes) (stop : Nat) : Nat → Nat → Nat → Option (List Bytes)
  | 0, _, pos => if pos = stop then some [] else none
  | k + 1, i, pos =>
    let e := 0x80 + 16 * i
    let off := fld raw (e + 4) 4
    let len := fld raw (e + 8) 4
    if fld raw e 2 = i + 1 ∧ off = pos ∧ off % 8 = 0 ∧ len = sectionLen raw (i + 1) off ∧ off + len ≤ stop then
      match sectionWalk raw stop k (i + 1) (off + len) with
      | some r => some (bytesAt raw off len :: r)
      | none => none
    else none

-- Field tests, section by section (code 0x0C) --------------------------------------------------------------------------

/-- Tests of the header and the table's reserved fields (**R32**, **R33**). -/
def headerTests (raw : Bytes) : List (Bool × Nat) :=
  [(decide (fld raw 0x10 4 ≤ 256), 0x10), (fld raw 0x18 2 / 2 == 0, 0x18),
   (1 ≤ fld raw 0x1A 2 && fld raw 0x1A 2 ≤ 3, 0x1A), (isZero raw 0x1C 4, 0x1C), (isZero raw 0x68 24, 0x68)] ++
  (List.range 10).flatMap fun i =>
    [(isZero raw (0x80 + 16 * i + 2) 2, 0x80 + 16 * i + 2), (isZero raw (0x80 + 16 * i + 12) 4, 0x80 + 16 * i + 12)]

/-- Tests of the engine partition (**R36**, **R37**). -/
def partitionTests (s : Bytes) : List (Bool × Nat) :=
  (List.range 7).flatMap fun i =>
    let o := 8 * i
    let n := enabledCount (i + 1)
    let r := fld s (o + 1) 1
    [(fld s o 1 == i + 1, o), (r == 0 || (2 ≤ r && r ≤ n), o + 1), (fld s (o + 2) 1 ≤ n, o + 2),
     (fld s (o + 3) 1 ≤ (if i = 4 ∨ i = 6 then n else 0), o + 3), (isZero s (o + 4) 4, o + 4)]

/-- Tests of the class parameters (**R38**). -/
def classTests (s : Bytes) : List (Bool × Nat) :=
  [(12 ≤ fld s 0 2 && fld s 0 2 ≤ 200, 0), (1 ≤ fld s 2 1, 2), (1 ≤ fld s 3 1, 3),
   (1 ≤ fld s 4 2 && fld s 4 2 ≤ 10000, 4), (isZero s 6 26, 6)]

/-- Offset of the first non-zero byte from 1 up in a 32-byte entry. -/
def firstNonZero (e : Bytes) : Option Nat := (List.range 32).find? fun k => 0 < k && fld e k 1 != 0

/-- Tests of one tenant entry at offset 32 x `n` (**R39**, **R40**). -/
def tenantTests (s : Bytes) (n : Nat) : List (Bool × Nat) :=
  let o := 32 * n
  let e := bytesAt s o 32
  let f := fld e 1 1
  let rate := fld e 4 4
  let depth := fld e 8 4
  let base := fld e 12 2
  let cnt := fld e 14 2
  if f % 2 = 0 then
    [(fld e 0 1 == n, o), (f / 64 == 0, o + 1),
     match firstNonZero e with | some k => (false, o + k) | none => (true, o)]
  else
    [(fld e 0 1 == n, o), (f / 64 == 0 && (nbit f 1 || nbit f 2), o + 1),
     (1 ≤ fld e 2 2 && fld e 2 2 ≤ 1000, o + 2), (rate ≤ 4000000 && (rate == 0 || nbit f 3), o + 4),
     (if rate = 0 then depth == 0 else 1 ≤ depth && depth ≤ 65536, o + 8), (16 ≤ base && base ≤ 2047, o + 12),
     (1 ≤ cnt && cnt ≤ 64 && base + cnt ≤ 2048, o + 14), (1 ≤ fld e 16 1 && fld e 16 1 ≤ 16, o + 16),
     (6 ≤ fld e 17 1 && fld e 17 1 ≤ 16, o + 17), (isZero e 18 6, o + 18)]

/-- Tests of the PASID map's fields (**R42**). -/
def pasidTests (s : Bytes) : List (Bool × Nat) :=
  let k := fld s 0 4
  [(decide (k ≤ 1024), 0), (isZero s 4 4, 4)] ++
  ((List.range (min k 1024)).map fun i => (fld s (8 + 4 * i) 4 / 2 ^ 28 == 8, 8 + 4 * i)) ++
  [(isZero s (8 + 4 * k) (s.length - 8 - 4 * k), 8 + 4 * k)]

/-- Tests of the memory plan's fields (**R43**). -/
def planTests (s : Bytes) (cluster : Nat) : List (Bool × Nat) :=
  (List.range 6).flatMap fun i =>
    let o := 16 * i
    let t := fld s o 1
    let size := fld s (o + 8) 4
    [(1 ≤ t && t ≤ 6, o), (isZero s (o + 1) 3, o + 1),
     (match t with
      | 1 => 64 ≤ size && size ≤ 2048 && [64, 128, 256, 512, 1024, 2048].contains size
      | 2 => 1 ≤ size && size ≤ 24576
      | 3 => size ≤ 8192
      | 4 => size ≤ 4096 && (size != 0 || cluster == 0)
      | 5 => 1 ≤ size && size ≤ 64
      | _ => true, o + 8),
     (isZero s (o + 12) 4, o + 12)]

/-- Tests of the fabric section (**R44**). -/
def fabricTests (s : Bytes) : List (Bool × Nat) :=
  let cl := fld s 0 8
  let m0 := fld s 8 1
  let m1 := fld s 9 1
  let portT := fun (m p : Nat) =>
    if m = 0 then
      [(isZero s (16 + 16 * p) 16, 16 + 16 * p), (isZero s (48 + p) 1, 48 + p), (isZero s (56 + 16 * p) 16, 56 + 16 * p)]
    else [(1 ≤ fld s (48 + p) 1 && fld s (48 + p) 1 ≤ 128, 48 + p)]
  [(m0 ≤ 4 && (cl != 0 || m0 == 0), 8), (m1 ≤ 4 && (cl != 0 || m1 == 0), 9),
   (fld s 10 1 ≤ 3 && (fld s 10 1 != 0 || (m0 == 0 && m1 == 0)), 10), (fld s 11 1 ≤ 127, 11),
   (1024 ≤ fld s 12 2, 12), (10 ≤ fld s 14 2 && fld s 14 2 ≤ 500, 14)] ++ portT m0 0 ++ portT m1 1 ++
  [(decide (fld s 50 1 ≤ 3), 50), (isZero s 51 5, 51), (fld s 88 2 ≤ 16383 || fld s 88 2 == 0xFFFF, 88), (isZero s 90 38, 90)]

/-- The response of a source is one the policy may carry (**R46**). -/
def responseOk (word mask src : Nat) : Bool :=
  let c := word / 4 ^ src % 4
  if src < 3 then c == 3
  else if src < 7 && !nbit mask (src - 3) then c == 0
  else c == 1 || c == 3

/-- Tests of the tamper policy (**R45**, **R46**, **R405**). -/
def tamperTests (s : Bytes) (disabled : Nat) : List (Bool × Nat) :=
  let w := fld s 0 4
  let mask := fld s 4 1
  [(w / 2 ^ 22 == 0 && (List.range 11).all (responseOk w mask), 0),
   (mask ≤ 15 && (List.range 4).all (fun n => !(nbit mask n && nbit disabled (n + 1))), 4), (isZero s 5 3, 5)] ++
  ((List.range 4).flatMap fun n =>
    let o := 8 + 4 * n
    let lo := fld s o 2
    let hi := fld s (o + 2) 2
    if nbit mask n then [(10 ≤ lo && lo ≤ 10000, o), (10 ≤ hi && hi ≤ 10000 && lo < hi, o + 2)]
    else [(lo == 0 && hi == 0, o)]) ++
  [(isZero s 24 8, 24)]

/-- Tests of the reserve profile (**R47**). -/
def profileTests (s : Bytes) : List (Bool × Nat) :=
  let inR := fun (v lo hi : Nat) => lo ≤ v && v ≤ hi
  let li := fld s 0 1 == 1
  [(inR (fld s 0 1) 1 2, 0), (isZero s 1 1, 1), (inR (fld s 2 2) 20 5000, 2), (inR (fld s 4 2) 10 200, 4),
   (if li then inR (fld s 6 2) 4000 4200 else inR (fld s 6 2) 3400 3650, 6),
   (if li then inR (fld s 8 2) 3000 3400 else inR (fld s 8 2) 2500 2900, 8),
   (fld s 10 1 ≤ 15, 10), (inR (fld s 11 1) 35 50, 11), (inR (fld s 12 2) 10 1000, 12),
   (inR (fld s 14 2) 3000 4500, 14), (inR (fld s 16 2) 1 20 && fld s 16 2 < fld s 4 2, 16), (isZero s 18 14, 18)]

/-- Tests of the entropy policy (**R48**); `ensign` some pool reserves units. -/
def entropyTests (s : Bytes) (ensign : Bool) : List (Bool × Nat) :=
  let a := (List.range 16).map fun i => fld s (4 + i) 1
  [(1 ≤ fld s 0 1 && fld s 0 1 ≤ 2, 0), (1 ≤ fld s 1 1, 1), (8 ≤ fld s 2 1 && fld s 2 1 ≤ 64, 2), (isZero s 3 1, 3)] ++
  ((List.range 16).map fun i => (decide (a.getD i 0 ≤ 4), 4 + i)) ++
  [(a.contains 3 && a.contains 4 && (a.contains 1 || !ensign), 4),
   (1024 ≤ fld s 20 4 && fld s 20 4 ≤ 65536, 20), (isZero s 24 8, 24)]

/-- Tests of the management path (**R49**, **R50**). -/
def pathTests (s : Bytes) : List (Bool × Nat) :=
  let f := fld s 1 1
  [(8 ≤ fld s 0 1 && fld s 0 1 ≤ 0x77, 0), (f ≤ 15 && (nbit f 0 || (!nbit f 1 && !nbit f 2)), 1),
   (nbit f 3 || fld s 2 1 == 0, 2), (isZero s 3 1, 3)] ++
  ((List.range 4).map fun i => (decide (fld s (4 + i) 1 ≤ 4), 4 + i)) ++ [(isZero s 8 24, 8)]

-- The contents -----------------------------------------------------------------------------------------------------------

/-- One pool of the partition. -/
def poolCfg (s : Bytes) (i : Nat) : PoolCfg where
  reserve := fld s (8 * i + 1) 1
  shared := fld s (8 * i + 2) 1
  dedicated := fld s (8 * i + 3) 1

/-- One tenant entry. -/
def tenantCfg (s : Bytes) (n : Nat) : Tenant :=
  let e := bytesAt s (32 * n) 32
  { flags := BitVec.ofNat 8 (fld e 1 1), weight := fld e 2 2, rate := fld e 4 4, depth := fld e 8 4,
    msixBase := fld e 12 2, msixCount := fld e 14 2, queues := fld e 16 1, depthLog2 := fld e 17 1 }

/-- The fabric section. -/
def fabricCfg (s : Bytes) : FabCfg where
  cluster := BitVec.ofNat 64 (fld s 0 8)
  mode0 := fld s 8 1
  mode1 := fld s 9 1
  families := BitVec.ofNat 8 (fld s 10 1)
  ptpDomain := fld s 11 1
  udpPort := fld s 12 2
  hop := fld s 14 2
  addr0 := bytesAt s 16 16
  addr1 := bytesAt s 32 16
  plen0 := fld s 48 1
  plen1 := fld s 49 1
  role := BitVec.ofNat 8 (fld s 50 1)
  gw0 := bytesAt s 56 16
  gw1 := bytesAt s 72 16
  node := fld s 88 2

/-- The reserve profile. -/
def profileCfg (s : Bytes) : Profile where
  chemistry := fld s 0 1
  rated := fld s 2 2
  maxCharge := fld s 4 2
  cv := fld s 6 2
  cutoff := fld s 8 2
  tLow := fld s 10 1
  tHigh := fld s 11 1
  ntcR25 := fld s 12 2
  ntcBeta := fld s 14 2
  term := fld s 16 2

/-- The contents of an accepted image. -/
def imageCfg (raw : Bytes) (secs : List Bytes) : ImageCfg :=
  let s := fun i => secs.getD (i - 1) []
  { level := fld raw 0x10 4
    minor := fld raw 0x14 4
    commitOtp := fld raw 0x18 2 % 2 == 1
    permitted := BitVec.ofNat 16 (fld raw 0x1A 2)
    ownerFpr := bytesAt raw 0x20 32
    binding := bytesAt raw 0x40 32
    measure := sha384 (raw.take (raw.length - sigBlock))
    pools := (List.range 7).map (poolCfg (s 1))
    te := fld (s 2) 0 2
    wPennon := fld (s 2) 2 1
    wStreamer := fld (s 2) 3 1
    drain := fld (s 2) 4 2
    tenants := ((List.range 256).filter fun n => fld (s 3) (32 * n + 1) 1 % 2 == 1).map fun n => (n, tenantCfg (s 3) n)
    pasids := (List.range (fld (s 4) 0 4)).map fun i =>
      (fld (s 4) (8 + 4 * i) 4 % 2 ^ 20, fld (s 4) (8 + 4 * i) 4 / 2 ^ 20 % 256)
    plan := (List.range 6).map fun i => (fld (s 5) (16 * i + 4) 4, fld (s 5) (16 * i + 8) 4)
    fabric := fabricCfg (s 6)
    response := BitVec.ofNat 32 (fld (s 7) 0 4)
    loopEn := BitVec.ofNat 4 (fld (s 7) 4 1)
    loopWin := (List.range 4).map fun n => (fld (s 7) (8 + 4 * n) 2, fld (s 7) (10 + 4 * n) 2)
    profile := profileCfg (s 8)
    cond := fld (s 9) 0 1
    threshold := fld (s 9) 1 1
    minCells := fld (s 9) 2 1
    drbgAssign := (List.range 16).map fun i => fld (s 9) (4 + i) 1
    reseedCalls := fld (s 9) 20 4
    smbAddr := fld (s 10) 0 1
    mgtFlags := BitVec.ofNat 8 (fld (s 10) 1 1)
    ideStream := fld (s 10) 2 1
    gpio := (List.range 4).map fun i => fld (s 10) (4 + i) 1 }

-- Codes 0x0D-0x10 ----------------------------------------------------------------------------------------------------------

/-- A pool whose sum differs from its enabled count (**R37**). -/
def partitionBad (c : ImageCfg) : Option Nat :=
  (List.range 7).findSome? fun i =>
    let p := c.pools.getD i {}
    if p.reserve + p.shared + p.dedicated = enabledCount (i + 1) then none else some (8 * i)

/-- The first PASID entry out of order or without an enabled host slice (**R42**). -/
def pasidBad (c : ImageCfg) : Nat → Option Nat → List (Nat × Nat) → Option Nat
  | _, _, [] => none
  | i, prev, (p, sl) :: r =>
    let t := tgetD c.tenants sl {}
    let order := match prev with | some q => q < p | none => true
    if order && t.flags.getLsbD 0 && t.flags.getLsbD 1 then pasidBad c (i + 1) (some p) r else some (8 + 4 * i)

/-- Two regions of a plan overlap. -/
def overlaps (a b : Nat × Nat) : Bool := 0 < a.2 && 0 < b.2 && a.1 < b.1 + b.2 && b.1 < a.1 + a.2

/-- Offset of a plan's fault: order, alignment or overlap entry by entry, then the total (**R43**). -/
def planBad (types : List Nat) (plan : List (Nat × Nat)) : Option Nat :=
  match (List.range 6).findSome? fun i =>
      let e := plan.getD i (0, 0)
      if types.getD i 0 != i + 1 then some (16 * i)
      else if i = 0 ∧ e.1 % e.2 ≠ 0 then some 4
      else if (plan.take i).any (overlaps e) then some (16 * i + 4) else none with
  | some o => some o
  | none =>
    if plan.foldl (fun n e => n + e.2) 0 = 32768 ∧ plan.all (fun e => e.1 + e.2 ≤ 32768) then none else some 88

/-- The first enabled slice whose vectors meet those of a lower one (**R40**). -/
def msixBad : List (Nat × Tenant) → List (Nat × Tenant) → Option Nat
  | _, [] => none
  | seen, (n, t) :: r =>
    if seen.any fun q => overlaps (t.msixBase, t.msixCount) (q.2.msixBase, q.2.msixCount) then some (32 * n + 12)
    else msixBad (seen ++ [(n, t)]) r

-- Acceptance (R51) -----------------------------------------------------------------------------------------------------------

/-- The first failing field, section by section in order of type; section 0 the header and table. -/
def fieldBad (raw : Bytes) (secs : List Bytes) (disabled : Nat) : Option (Nat × Nat) :=
  let s := fun i => secs.getD (i - 1) []
  let ensign := (List.range 7).any fun i => fld (s 1) (8 * i + 1) 1 != 0
  let tests : List (Nat × List (Bool × Nat)) :=
    [(0, headerTests raw), (1, partitionTests (s 1)), (2, classTests (s 2)),
     (3, (List.range 256).flatMap (tenantTests (s 3))), (4, pasidTests (s 4)), (5, planTests (s 5) (fld (s 6) 0 8)),
     (6, fabricTests (s 6)), (7, tamperTests (s 7) disabled), (8, profileTests (s 8)), (9, entropyTests (s 9) ensign),
     (10, pathTests (s 10))]
  tests.findSome? fun t => (firstOff t.2).map fun o => (t.1, o)

/-- Checks 0x0C-0x10 on the sections. -/
def contentCheck (raw : Bytes) (secs : List Bytes) (disabled : Nat) : Reject ⊕ ImageCfg :=
  match fieldBad raw secs disabled with
  | some (t, o) => .inl ⟨0x0C, t, o⟩
  | none =>
    let c := imageCfg raw secs
    match partitionBad c with
    | some o => .inl ⟨0x0D, 1, o⟩
    | none =>
      match pasidBad c 0 none c.pasids with
      | some o => .inl ⟨0x0E, 4, o⟩
      | none =>
        match planBad ((List.range 6).map fun i => fld (secs.getD 4 []) (16 * i) 1) c.plan with
        | some o => .inl ⟨0x0F, 5, o⟩
        | none =>
          match msixBad [] c.tenants with
          | some o => .inl ⟨0x10, 3, o⟩
          | none => .inr c

/-- Checks 0x03-0x0B in order (**R51**): the sections, or the rejection. -/
def headCheck (x : AcceptCtx) (e : SlotEnv) (slotLen : Nat) (content : Bytes) : Reject ⊕ (Bytes × List Bytes) :=
  let total := fld content 8 4
  let raw := content.take total
  let bind := bytesAt content 0x40 32
  let tests : List (Bool × Nat) :=
    [(1 ≤ slotLen && slotLen ≤ imageMax, 1), (e.flashOk, 2),
     (fld content 0 4 == 0x5A41554C && fld content 4 2 == 1 && fld content 6 2 == 0x80, 3),
     (imageMin ≤ total && total ≤ imageMax && total == slotLen && total ≤ content.length, 4),
     (x.owner == some (bytesAt content 0x20 32), 5),
     (leNat bind == 0 || bind == x.ident, 6), (e.sig.mldsa, 7), (e.sig.ecdsa, 8),
     (nbit (fld content 0x1A 2) (x.life - 2) && (x.life == 2 || x.life == 3), 9),
     (x.floor.1 < fld content 0x10 4 || (x.floor.1 == fld content 0x10 4 && x.floor.2 ≤ fld content 0x14 4), 0x0A),
     (fld content 0x0C 4 == 10, 0x0B)]
  match firstOff tests with
  | some code => .inl ⟨code, 0, 0⟩
  | none =>
    match sectionWalk raw (total - sigBlock) 10 0 0x120 with
    | some secs => .inr (raw, secs)
    | none => .inl ⟨0x0B, 0, 0⟩

/-- The checks of **R51** on a slot: the first failure, or the image's contents. -/
def checkImage (x : AcceptCtx) (e : SlotEnv) (slot : Slot) : Reject ⊕ ImageCfg :=
  if !slot.crcOk then .inl ⟨1, 0, 0⟩
  else
    match headCheck x e slot.len slot.content with
    | .inl r => .inl r
    | .inr (raw, secs) => contentCheck raw secs x.disabled

/-- Sources disabled by fuse, bit code - 1: both fuses of the source are blown (**R405**). -/
def tmpDisabled (s : State) : Nat :=
  (List.range 7).foldl (fun n i => n + (if fuseField s.lcs.fuse (5504 + 2 * i) 2 = 3 then 2 ^ i else 0)) 0

/-- What an image check reads of the module now. -/
def acceptCtx (s : State) : AcceptCtx where
  life := s.lcs.state.code
  owner := s.kvt.ownerFpr
  ident := s.kvt.idFpr
  floor := rollFloor s
  disabled := tmpDisabled s

/-- The module loads images in this life-cycle state (**R52**). -/
def loadsImages (s : State) : Bool :=
  s.lcs.state == .fielded || (s.lcs.state == .integrator && s.kvt.ownerFpr.isSome)

/-- A slot record names an active image: valid, with a sequence number (**R30**). -/
def Slot.bootable (x : Slot) : Bool := x.crcOk && 1 ≤ x.len && x.len ≤ imageMax && x.seqNo != 0

/-- IMG_REJECT set (**R63**). -/
def setReject (r : Reject) (s : State) : State :=
  { s with img := { s.img with rejOffset := r.off, rejSection := r.sec, rejCode := r.code } }

/-- The word of IMG_REJECT (**R63**). -/
def rejectWord (s : State) : Nat := 65536 * s.img.rejOffset + 256 * s.img.rejSection + s.img.rejCode

end Sys2Proof.Machine
end

