-- ==== Sys2Proof/Machine/Admission.lean ====
section
/-! DEFINITION. Admission (**R93**-**R114**): units and live counts, throttling, tokens, the admission test, and the
arbitration of units among the classes. -/

namespace Sys2Proof.Machine

-- Units (R16, R17, R36, R101-R104) ----------------------------------------------------------------------------------

/-- A pool's division by the image; without an image all zero. -/
def partition (s : State) (p : Nat) : PoolCfg :=
  match s.img.cfg with
  | some c => c.pools.getD (p - 1) {}
  | none => {}

/-- Logical unit `l` of pool `p`. -/
def unitOf (s : State) (p l : Nat) : EUnit := tgetD s.eng.units (256 * p + l) {}

/-- The state with a unit changed. -/
def updUnit (p l : Nat) (f : EUnit → EUnit) (s : State) : State :=
  { s with eng := { s.eng with units := tset s.eng.units (256 * p + l) (f (unitOf s p l)) } }

/-- Units of a pool by their place in the partition (log entry 25): 0 reserved, 1 shared, 2 dedicated. -/
def unitKind (s : State) (p l : Nat) : Nat :=
  let c := partition s p
  if l < c.reserve then 0 else if l < c.reserve + c.shared then 1 else 2

/-- Logical numbers of one kind. -/
def unitsOfKind (s : State) (p k : Nat) : List Nat :=
  (List.range (enabledCount p)).filter fun l => unitKind s p l == k

/-- Present reserved units of a pool: enabled and not retired, not parked and not marked to park (**R101**, **R104**). -/
def reservedPresent (s : State) (p : Nat) : Nat :=
  ((unitsOfKind s p 0).filter fun l => let u := unitOf s p l; u.present && !u.parked && !u.parkDue).length

/-- L_r of resources 1-8 (**R101**). -/
def liveCount (s : State) (r : Nat) : Nat := if r = 8 then 1 else reservedPresent s r - 1

/-- Shared and dedicated units in service. -/
def sharedActive (s : State) (p : Nat) : Nat :=
  ((unitsOfKind s p 1 ++ unitsOfKind s p 2).filter fun l => let u := unitOf s p l; u.present && !u.parked).length

/-- Dedicated units of a pool that are present. -/
def dedicatedPresent (s : State) (p : Nat) : Nat := ((unitsOfKind s p 2).filter fun l => (unitOf s p l).present).length

/-- A_r in core cycles (**R105**). -/
def backlogOf (s : State) (r : Nat) : Nat := tgetD s.adm.backlog r 0

/-- Work added to the backlog. -/
def addWork (w : List (Nat × Nat)) (s : State) : State :=
  { s with adm := { s.adm with backlog := w.foldl (fun b p => tupd b p.1 0 (· + p.2)) s.adm.backlog } }

/-- Work taken from the backlog. -/
def dropWork (w : List (Nat × Nat)) (s : State) : State :=
  { s with adm := { s.adm with backlog := w.foldl (fun b p => tupd b p.1 0 (· - p.2)) s.adm.backlog } }

-- Throttling (R103, R104) --------------------------------------------------------------------------------------------------

/-- Units of the reservation, the shared remainder and the dedicated units that a level leaves in service (**R103**). -/
def inService (level : Nat) (c : PoolCfg) : Nat × Nat × Nat :=
  (if level < 3 then c.reserve else min c.reserve (max 2 ((c.reserve + 1) / 2)),
   if level = 0 then c.shared else if level = 1 then c.shared / 2 else 0,
   if level ≤ 1 then c.dedicated else 0)

/-- The units that a level parks: of each kind, the highest-numbered present ones (log entry 25). -/
def surplus (s : State) (p : Nat) : List Nat :=
  let c := partition s p
  let (r, sh, d) := inService s.adm.throttle c
  let top := fun k n => ((unitsOfKind s p k).filter fun l => (unitOf s p l).present).reverse.take n
  top 0 (c.reserve - r) ++ top 1 (c.shared - sh) ++ top 2 (c.dedicated - d)

/-- A sequencer holds a request. -/
def seqBusy (s : State) (l : Nat) : Bool := s.rqs.live.any fun r => r.seqr == some l

/-- A unit holds no operation. -/
def unitIdle (s : State) (p l : Nat) : Bool :=
  let u := unitOf s p l
  u.ctx0.isNone && u.ctx1.isNone && (p != 1 || !seqBusy s l)

/-- One unit brought to the level: parked at once where it holds nothing and no earlier request waits for it, else
marked to park at its boundary (**R104**). -/
def throttleUnit (p l : Nat) (s : State) : State :=
  if (surplus s p).contains l then
    let now := if unitKind s p l = 0 then s.adm.parkBefore.isNone else unitIdle s p l
    updUnit p l (fun u => if u.parked then u else if now then { u with parked := true, parkDue := false }
      else { u with parkDue := true }) s
  else updUnit p l (fun u => { u with parked := false, parkDue := false }) s

/-- Every unit brought to the throttle level in force. -/
def applyThrottle (s : State) : State :=
  ([1, 2, 3, 4, 5, 6, 7].flatMap fun p => (List.range (enabledCount p)).map fun l => (p, l)).foldl
    (fun t e => throttleUnit e.1 e.2 t) s

/-- ENSIGN requests admitted and not completed. -/
def ensignAdmitted (s : State) : List Nat := (s.rqs.live.filter fun r => r.isEnsign && r.work != []).map (·.rid)

/-- Reserved units marked to park are parked once no request admitted before the raise is left (**R104**). -/
def parkReserved (s : State) : State :=
  match s.adm.parkBefore with
  | some [] =>
    let t := { s with adm := { s.adm with parkBefore := none } }
    { t with eng := { t.eng with units := t.eng.units.map fun e =>
        (e.1, if e.2.parkDue && unitKind t (e.1 / 256) (e.1 % 256) == 0 then
          { e.2 with parked := true, parkDue := false } else e.2) } }
  | _ => s

/-- A completed request leaves the set that PARK_PENDING waits for (**R104**). -/
def parkAfter (rid : Nat) (s : State) : State :=
  match s.adm.parkBefore with
  | some l => parkReserved { s with adm := { s.adm with parkBefore := some (l.filter (· != rid)) } }
  | none => s

/-- A change of throttle level, logged with the temperature (**R104**, **R500**). -/
def setThrottle (level : Nat) (temp : Int) (s : State) : State :=
  let old := s.adm.throttle
  let before := if old < level ∧ level = 3 then
      (match ensignAdmitted s with | [] => none | l => some l) else s.adm.parkBefore
  let t := applyThrottle { s with adm := { s.adm with throttle := level, parkBefore := if level < 3 then none else before } }
  raise 10 (logEvent 0x202 ([BitVec.ofNat 8 old, BitVec.ofNat 8 level] ++ leBytes 2 (twos 16 temp)) t)

/-- JUNCTION_TEMP_SAMPLE (**R104**): one sample of the junction, 1/16 degree C, at each of the four sensors. -/
def execJunctionTempSample (temps : List Int) (s : State) : Res :=
  let t := { s with tmp := { s.tmp with temps := (temps ++ s.tmp.temps.drop temps.length).take 4 } }
  match temps with
  | [] => .next s
  | x :: r =>
    let top := r.foldl max x
    let a := { t.adm with coolSince := if top < 1520 then some (t.adm.coolSince.getD t.mtime) else none }
    let u := { t with adm := a }
    let mayRaise := match a.lastRaise with | some m => decide (m + 10000000 ≤ u.mtime) | none => true
    if 1600 ≤ top && a.throttle < 3 && mayRaise then
      .next (setThrottle (a.throttle + 1) top { u with adm := { a with lastRaise := some u.mtime } })
    else
      match a.coolSince with
      | some m =>
        if 0 < a.throttle ∧ m + 100000000 ≤ u.mtime then
          .next (setThrottle (a.throttle - 1) top { u with adm := { a with coolSince := some u.mtime } })
        else .next u
      | none => .next u

-- Tokens (R107) ----------------------------------------------------------------------------------------------------------

/-- One microsecond's refill of a slice's bucket (**R107**). -/
def refill (t : Tenant) (x : Slice) : Slice :=
  let sum := x.rem + t.rate * 65536
  { x with level := min (x.level + sum / 1000000) (t.depth * 65536), rem := sum % 1000000 }

/-- A bucket set full (**R107**). -/
def fillBucket (n : Nat) (s : State) : State :=
  updSlice n (fun x => { x with level := (tenant s n).depth * 65536, rem := 0 }) s

/-- TOKEN_REFILL (**R107**): every bucket of an enabled slice gains one microsecond's tokens. -/
def execTokenRefill (s : State) : Res :=
  match s.img.cfg with
  | some c => .next (c.tenants.foldl (fun t e => updSlice e.1 (refill e.2) t) s)
  | none => .next s

-- The capacity test (R105) --------------------------------------------------------------------------------------------------

/-- The sum of A_r / L_r as a fraction, resources with no live unit left out. -/
def waitSum (s : State) : List Nat → Nat × Nat
  | [] => (0, 1)
  | r :: rest =>
    let (n, d) := waitSum s rest
    let l := liveCount s r
    if l = 0 then (n, d) else (n * l + backlogOf s r * d, d * l)

/-- The wait in cycles as a fraction: Chamois, each engine pool, exact-match stage. -/
def waitOf (s : State) : Nat × Nat := waitSum s [1, 2, 3, 4, 5, 6, 7, 8]

/-- T_E in cycles. -/
def teCycles (s : State) : Nat := 150 * teTenths s

/-- Pools that a class uses: Chamois and each pool of its engine work. -/
def usedPools (c : Cost) : List Nat := 1 :: c.work.map (·.1)

/-- The class passes the first test of capacity_test. -/
def fits (s : State) (c : Cost) : Bool := 150 * c.sc ≤ teCycles s && (usedPools c).all fun p => liveCount s p != 0

/-- The resource with the largest term A_r / L_r, the lower-numbered one if several. -/
def largestTerm (s : State) : Nat :=
  [2, 3, 4, 5, 6, 7, 8].foldl (fun b r =>
    if liveCount s r = 0 then b
    else if liveCount s b = 0 then r
    else if backlogOf s b * liveCount s r < backlogOf s r * liveCount s b then r else b) 1

/-- The pool with the largest part of a class's engine work, the lower-numbered one if several. -/
def heaviest (c : Cost) : Nat :=
  (c.work.foldl (fun b w => if b.2 < w.2 then w else b) (1, 0)).1

/-- capacity_test: the pool that DETAIL of REFUSED_CAPACITY names, or none (**R105**). -/
def capacityShort (s : State) (c : Cost) : Option Nat :=
  match (usedPools c).find? fun p => liveCount s p == 0 with
  | some p => some p
  | none =>
    if teCycles s < 150 * c.sc then some (heaviest c)
    else
      let (n, d) := waitOf s
      if teCycles s * d < 150 * c.sc * d + n then some (largestTerm s) else none

-- The admission test (R105) -----------------------------------------------------------------------------------------------

/-- What admission decides. -/
inductive Verdict2 where
  /-- Refused: status and DETAIL. -/
  | refuse (status detail : Nat)
  /-- Accepted, with the domain resolved. -/
  | accept (domain : Nat)
  /-- Forwarded to the owner of the domain. -/
  | forward (domain owner : Nat)
  deriving DecidableEq, Repr

/-- The class is permitted to the slice (**R39**, **R40**). -/
def permits (s : State) (sl : Nat) (c : RClass) : Bool :=
  let f := (tenant s sl).flags
  f.getLsbD 0 && (match c with | .ensign => f.getLsbD 3 | .pennon => true | .streamer => f.getLsbD 4)

/-- The lowest-numbered blocked instance among consumers that a command draws from (**R108**). -/
def rngShort (s : State) (l : List (Nat × Nat)) : Option Nat :=
  l.foldl (fun b e =>
    if e.2 = 0 then b
    else
      match blockedInst s e.1, b with
      | some i, some j => some (min i j)
      | some i, none => some i
      | none, x => x) none

/-- Commands whose descriptor shows that only a dedicated unit runs them (**R113**), with their pool. -/
def dedicatedOnly (d : Desc) : Option Nat :=
  if d.code = 0x2005 ∧ 64 < d.q % 256 then some 5
  else if d.code = 0x3204 then some 7 else none

/-- class_tests of **R105**. -/
def classTests2 (s : State) (d : Desc) : Option (Nat × Nat) :=
  match dedicatedOnly d with
  | some p =>
    if dedicatedPresent s p = 0 then some (stCapacity, p)
    else (rngShort s [(2, (rngCalls d).1)]).map fun i => (stRng, i)
  | none => (rngShort s [(2, (rngCalls d).1)]).map fun i => (stRng, i)

/-- The tests of an ENSIGN request that runs here: randomness, then capacity. -/
def ensignTests (s : State) (d : Desc) : Option (Nat × Nat) :=
  match rngShort s [(1, (rngCalls d).1), (3, (rngCalls d).2)] with
  | some i => some (stRng, i)
  | none => (capacityShort s (costOf d)).map fun p => (stCapacity, p)

/-- The domain that admission selects (**R75**). -/
def resolveDomain (s : State) (d : Desc) : Nat :=
  if !d.namesKey then 0
  else if d.fwd || !d.panSet then d.domain.toNat
  else (trieSearch s.lku d.panList).domain

/-- Forwarding records in use (**R293**). -/
def fwdInUse (s : State) : Nat := (s.rqs.live.filter fun r => r.phase == .forwarded).length

/-- The path test of **R105**: the queueing at this module and the outbound delay within the hop allowance. -/
def pathOk (s : State) (owner : Nat) : Bool :=
  let l := liveCount s 1
  let hop := match s.img.cfg with | some c => c.fabric.hop | none => 35
  l != 0 && 2 * backlogOf s 1 + l * (600 + 3 * outboundDelay (peerOf s owner)) ≤ 3000 * hop * l

/-- A handover of the domain runs at this owner (**R302**). -/
def handingOver (s : State) (d : Nat) : Bool := (tgetD s.fab.own d {}).handover

/-- The tests of a request from a host or a tenant, once its class is permitted. -/
def admitEntry (s : State) (d : Desc) (sl : Nat) : Verdict2 :=
  let dom := resolveDomain s d
  let e := if d.namesKey then domainOf s dom else { state := 1 }
  let remote := e.state == 2 || e.state == 3
  let ens := clsOf d == .ensign
  if remote && (e.state == 3 || !reachable (peerOf s e.owner)) then .refuse stPath e.owner
  else if ens && (slice s sl).level < 65536 then .refuse stBudget 0
  else if remote then
    if ens && (!pathOk s e.owner || 65536 ≤ fwdInUse s) then .refuse stPath e.owner else .forward dom e.owner
  else if ens && handingOver s dom then .refuse stPath e.standby
  else
    match (if ens then ensignTests s d else classTests2 s d) with
    | some (st, x) => .refuse st x
    | none => .accept dom

/-- The admission function of **R105**: `d` the descriptor, `sl` its slice, `tenantSession` it came through a tenant session. -/
def admitTest (s : State) (d : Desc) (sl : Nat) (tenantSession : Bool) : Verdict2 :=
  if !armed s then .refuse stState (stateDetail s)
  else if d.fwd then
    if (slice s sl).state = .resetting then .refuse stState (stateDetail s)
    else if d.namesKey && (domainOf s d.domain.toNat).state != 1 then .refuse stNotOwner d.domain.toNat
    else
      match (if clsOf d = .ensign then ensignTests s d else classTests2 s d) with
      | some (st, x) => .refuse st x
      | none => .accept d.domain.toNat
  else if (slice s sl).state = .disabled ∨ (tenantSession ∧ (slice s sl).state ≠ .active) then
    .refuse stState (stateDetail s)
  else if !permits s sl (clsOf d) then .refuse stBudget 0
  else admitEntry s d sl

/-- A refusal counted in its ADM_REFUSED_ register (**R114**). -/
def countRefusal (st : Nat) (s : State) : State :=
  let a := s.adm
  if st = stBudget then { s with adm := { a with refBudget := satAdd 32 a.refBudget 1 } }
  else if st = stCapacity then { s with adm := { a with refCapacity := satAdd 32 a.refCapacity 1 } }
  else if st = stRng then { s with adm := { a with refRng := satAdd 32 a.refRng 1 } }
  else if st = stState then { s with adm := { a with refState := satAdd 32 a.refState 1 } }
  else if st = stPath then { s with adm := { a with refPath := satAdd 32 a.refPath 1 } }
  else s

/-- Uncorrectable trie words met by a request's search, logged and shown in TRIE_FAULT (**R256**). -/
def noteTrie (bad : List Nat) (s : State) : State :=
  bad.foldl (fun t w =>
    logEvent 0x401 (leBytes 2 (w / 128) ++ [BitVec.ofNat 8 (w % 128)])
      { t with lku := { t.lku with trieFault := true, scrubUnc := satAdd 16 t.lku.scrubUnc 1 } }) s

/-- One token spent (**R107**). -/
def spendToken (sl : Nat) (s : State) : State := updSlice sl (fun x => { x with level := x.level - 65536 }) s

-- Arbitration (R111, R112) --------------------------------------------------------------------------------------------------

/-- Key of a class's busy counter in a pool. -/
def classKey (p : Nat) (c : RClass) : Nat := 4 * p + c.idx
/-- Key of a tenant's busy counter in a pool and class. -/
def tenantKey (p : Nat) (c : RClass) (sl : Nat) : Nat := 256 * classKey p c + sl

/-- Class weight of the shared remainder (**R38**). -/
def classWeight (s : State) (c : RClass) : Nat :=
  match s.img.cfg with
  | some x => if c = .streamer then x.wStreamer else x.wPennon
  | none => 1

/-- Tenant weight within a class: the PENNON weight, or one (**R112**). -/
def tenantWeight (s : State) (c : RClass) (sl : Nat) : Nat := if c = .pennon then max 1 (tenant s sl).weight else 1

/-- The class served next among waiting PENNON and STREAMER work: lowest busy time by weight, ties to PENNON. -/
def nextClass (s : State) (p : Nat) (w : List Req) : RClass :=
  let has := fun c => w.any fun r => clsOf r.desc == c
  if !has .streamer then .pennon
  else if !has .pennon then .streamer
  else if tgetD s.adm.busyClass (classKey p .streamer) 0 * classWeight s .pennon <
      tgetD s.adm.busyClass (classKey p .pennon) 0 * classWeight s .streamer then .streamer
  else .pennon

/-- The slice served next within a class: lowest busy time by weight, ties to the lower slice number. -/
def nextSlice (s : State) (p : Nat) (c : RClass) : List Req → Option Nat
  | [] => none
  | r :: rest =>
    match nextSlice s p c rest with
    | none => some r.slice
    | some b =>
      let x := tgetD s.adm.busyTenant (tenantKey p c r.slice) 0 * tenantWeight s c b
      let y := tgetD s.adm.busyTenant (tenantKey p c b) 0 * tenantWeight s c r.slice
      if x < y ∨ (x = y ∧ r.slice ≤ b) then some r.slice else some b

/-- The PENNON or STREAMER request that a unit or a shared sequencer takes (**R112**): the oldest of the tenant
served next. -/
def nextShared (s : State) (p : Nat) (w : List Req) : Option Req :=
  let l := w.filter fun r => !r.isEnsign
  let c := nextClass s p l
  let lc := l.filter fun r => clsOf r.desc == c
  match nextSlice s p c lc with
  | some sl => lc.find? fun r => r.slice == sl
  | none => none

/-- Busy time counted for a class and a tenant in a pool. -/
def addBusy (p : Nat) (c : RClass) (sl n : Nat) (s : State) : State :=
  { s with adm := { s.adm with
      busyClass := tupd s.adm.busyClass (classKey p c) 0 (· + n)
      busyTenant := tupd s.adm.busyTenant (tenantKey p c sl) 0 (· + n) } }

/-- A counter raised to the lowest one among those waiting, scaled by weight (**R112**, no banked credit). -/
def raiseTo (mine : Nat) (w : Nat) (others : List (Nat × Nat)) : Nat :=
  match others with
  | [] => mine
  | (b, v) :: r => max mine (r.foldl (fun m e => min m (e.1 * w / e.2)) (b * w / v))

/-- Work of a class and tenant arrives at a pool where `w` waits: idle time is not banked (**R112**). -/
def arriveBusy (p : Nat) (c : RClass) (sl : Nat) (w : List Req) (s : State) : State :=
  let l := w.filter fun r => !r.isEnsign
  let sameC := l.any fun r => clsOf r.desc == c
  let other := if c = .pennon then RClass.streamer else .pennon
  let a := if sameC || l.isEmpty then s
    else { s with adm := { s.adm with busyClass := tupd s.adm.busyClass (classKey p c) 0 (fun n =>
      raiseTo n (classWeight s c) [(tgetD s.adm.busyClass (classKey p other) 0, max 1 (classWeight s other))]) } }
  let lc := l.filter fun r => clsOf r.desc == c
  if lc.isEmpty || lc.any (fun r => r.slice == sl) then a
  else { a with adm := { a.adm with busyTenant := tupd a.adm.busyTenant (tenantKey p c sl) 0 (fun n =>
    raiseTo n (tenantWeight s c sl)
      (lc.map fun r => (tgetD a.adm.busyTenant (tenantKey p c r.slice) 0, tenantWeight s c r.slice))) } }

-- Registers (R114) ----------------------------------------------------------------------------------------------------------

/-- Core cycles in whole ns, rounded down (**R99**). -/
def cyclesNs (n : Nat) : Nat := 2 * n / 3

/-- ADM_WAIT in ns. -/
def admWait (s : State) : Nat := let (n, d) := waitOf s; 2 * n / (3 * d)

/-- Work of one class-1 request with two key handles, by resource. -/
def class1Work : List (Nat × Nat) := [(1, 19800), (2, 16), (3, 16), (8, 600)]

/-- ADM_ENSIGN_CAP: the lowest of L_r / work, in requests a second. -/
def ensignCap (s : State) : Nat :=
  class1Work.foldl (fun m e => min m (liveCount s e.1 * 1500000000 / e.2)) 0xFFFFFFFF

/-- ADM_ENSIGN_BURST. -/
def ensignBurst (s : State) : Nat :=
  let c : Cost := { cls := 1, sc := 142, work := [(2, 16), (3, 16)] }
  if !fits s c then 0
  else
    let (n, d) := class1Work.foldl (fun a e => (a.1 * liveCount s e.1 + e.2 * a.2, a.2 * liveCount s e.1)) (0, 1)
    min 65535 ((teCycles s - 150 * 142) * d / n + 1)

/-- ADM_FIT.FIT: bit *n* for class *n* at its smallest reference cost (**R114**). -/
def admFit (s : State) : Nat :=
  let std : List (Nat × Desc) :=
    [(1, { command := 0x0101 }), (2, { command := 0x0501 }), (3, { command := 0x0301 }), (4, { command := 0x0401 }),
     (5, { command := 0x0805 }), (6, { command := 0x5001 }), (7, { command := 0x2006, p0 := 0x1000 }),
     (8, { command := 0x2007, p0 := 0x1000 }), (9, { command := 0x2008, p0 := 0x6000 }),
     (10, { command := 0x2009, p0 := 0x6000 }), (11, { command := 0x200A, p0 := 0x4000 }),
     (12, { command := 0x2001, p0 := 0x4000 }), (13, { command := 0x2002, p0 := 0x4000 }),
     (14, { command := 0x3002, p0 := 0x2000 })] ++
    [(15, { command := 0x3003, p0 := 0x2000 }), (16, { command := 0x3005, p0 := 0x2000 }),
     (17, { command := 0x3006, p0 := 0x2000 }), (18, { command := 0x3103, p0 := 0x3000 }),
     (19, { command := 0x3106, p0 := 0x3000 }), (20, { command := 0x3203, p0 := 0x1000 }),
     (21, { command := 0x3206, p0 := 0x1000 }), (22, { command := 0x3802 }), (23, { command := 0x3803 }),
     (24, { command := 0x3805 }), (25, { command := 0x3806 })]
  std.foldl (fun n e => n + (if fits s (costOf e.2) then 2 ^ e.1 else 0)) 0

end Sys2Proof.Machine
end

