-- ==== Sys2Proof/Machine/Modes.lean ====
section
/-! DEFINITION. Modes of the lanes: ECB, CBC, CTR, GCM (SP 800-38A, SP 800-38D), CMAC (SP 800-38B) and the MACs of
ISO 9797-1 (**R129**-**R136**, **R159**; log entry 8). -/

namespace Sys2Proof.Machine

/-- A block cipher of the lanes with its key. -/
structure Cipher where
  /-- True for AES, false for TDEA. -/
  aes : Bool := true
  /-- The key. -/
  key : Bytes := []
  deriving DecidableEq, Repr

/-- Block length in bytes. -/
def Cipher.block (c : Cipher) : Nat := if c.aes then 16 else 8

/-- Encryption of one block. -/
def Cipher.enc (c : Cipher) (b : Bytes) : Bytes := if c.aes then aesEnc c.key b else tdeaEnc c.key b

/-- Decryption of one block. -/
def Cipher.dec (c : Cipher) (b : Bytes) : Bytes := if c.aes then aesDec c.key b else tdeaDec c.key b

/-- ECB over whole blocks. -/
def ecbEnc (c : Cipher) (d : Bytes) : Bytes := ((chunks c.block d).map c.enc).flatten

/-- ECB decryption over whole blocks. -/
def ecbDec (c : Cipher) (d : Bytes) : Bytes := ((chunks c.block d).map c.dec).flatten

/-- CBC blocks, each chained to the one before. -/
def cbcEncL (c : Cipher) : Bytes → List Bytes → List Bytes
  | _, [] => []
  | iv, b :: r =>
    let x := c.enc (xorBytes iv b)
    x :: cbcEncL c x r

/-- CBC encryption over whole blocks. -/
def cbcEnc (c : Cipher) (iv d : Bytes) : Bytes := (cbcEncL c iv (chunks c.block d)).flatten

/-- CBC decryption of blocks. -/
def cbcDecL (c : Cipher) : Bytes → List Bytes → List Bytes
  | _, [] => []
  | iv, b :: r => xorBytes iv (c.dec b) :: cbcDecL c b r

/-- CBC decryption over whole blocks. -/
def cbcDec (c : Cipher) (iv d : Bytes) : Bytes := (cbcDecL c iv (chunks c.block d)).flatten

/-- CTR over any length; the whole IV is the counter (**R159**). -/
def ctrL (c : Cipher) : Nat → List Bytes → List Bytes
  | _, [] => []
  | n, b :: r => xorBytes b (c.enc (beBytes c.block n)) :: ctrL c (n + 1) r

/-- CTR encryption and decryption (**R159**). -/
def ctrRun (c : Cipher) (iv d : Bytes) : Bytes := (ctrL c (beNat iv) (chunks c.block d)).flatten

/-- Doubling in GF(2^n) with the CMAC constant. -/
def cmacDouble (n : Nat) (b : Bytes) : Bytes :=
  let x := beNat b
  let y := 2 * x % 2 ^ (8 * n)
  beBytes n (if 2 ^ (8 * n - 1) ≤ x then y ^^^ (if n = 16 then 0x87 else 0x1B) else y)

/-- CMAC, the whole final block (**R133**). -/
def cmac (c : Cipher) (m : Bytes) : Bytes :=
  let n := c.block
  let k1 := cmacDouble n (c.enc (List.replicate n 0))
  let full := m.length ≠ 0 ∧ m.length % n = 0
  let cut := if full then m.length - n else m.length / n * n
  let last := m.drop cut
  let lastX := if full then xorBytes last k1
    else xorBytes (fit n (last ++ [0x80])) (cmacDouble n k1)
  (cbcEncL c (List.replicate n 0) (chunks n (m.take cut) ++ [lastX])).getLastD []

/-- Padding methods of ISO 9797-1 on blocks of `n`: 1 zeros, an empty message one zero block; 2 0x80 then zeros
(**R133**). -/
def macPad (method n : Nat) (m : Bytes) : Bytes :=
  if method = 2 then fit ((m.length / n + 1) * n) (m ++ [0x80])
  else fit (max 1 ((m.length + n - 1) / n) * n) m

/-- MAC algorithm 1 (CBC-MAC under TDEA) over padded data. -/
def macAlg1 (key padded : Bytes) : Bytes :=
  (cbcEncL { aes := false, key := key } (List.replicate 8 0) (chunks 8 padded)).getLastD []

/-- CBC-MAC with single DES. -/
def desChain (key : Bytes) : Bytes → List Bytes → Bytes
  | h, [] => h
  | h, b :: r => desChain key (desEnc key (xorBytes h b)) r

/-- MAC algorithm 3 (2-key TDEA) over padded data. -/
def macAlg3 (key padded : Bytes) : Bytes :=
  let h := desChain (key.take 8) (List.replicate 8 0) (chunks 8 padded)
  desEnc (key.take 8) (desDec ((key.drop 8).take 8) h)

/-- Multiplication in the field of GCM: the low `n` bits of `x` from bit 127 down still to use. -/
def ghashMulN : Nat → BitVec 128 → BitVec 128 → BitVec 128 → BitVec 128
  | 0, _, _, z => z
  | n + 1, x, v, z =>
    ghashMulN n x (if v.getLsbD 0 then (v >>> 1) ^^^ BitVec.ofNat 128 (0xE1 * 2 ^ 120) else v >>> 1)
      (if x.getLsbD n then z ^^^ v else z)

/-- GHASH over whole blocks. -/
def ghash (h : Bytes) (blocks : List Bytes) : Bytes :=
  beBytes 16 (blocks.foldl (fun y b =>
    ghashMulN 128 (y ^^^ BitVec.ofNat 128 (beNat b)) (BitVec.ofNat 128 (beNat h)) 0) (0 : BitVec 128)).toNat

/-- GCM with a 96-bit IV: the text under the counters from 2, and the tag over the ciphertext given. -/
def gcmTag (c : Cipher) (iv aad ct : Bytes) : Bytes :=
  let h := c.enc (List.replicate 16 0)
  let pad16 := fun (l : Bytes) => fit ((l.length + 15) / 16 * 16) l
  let s := ghash h (chunks 16 (pad16 aad ++ pad16 ct ++ beBytes 8 (8 * aad.length) ++ beBytes 8 (8 * ct.length)))
  xorBytes s (c.enc (iv ++ [0, 0, 0, 1]))

/-- The GCM counter blocks wrap in their low 32 bits. -/
def gcmCtr (c : Cipher) (iv : Bytes) : Nat → List Bytes → List Bytes
  | _, [] => []
  | n, b :: r => xorBytes b (c.enc (iv ++ beBytes 4 (n % 2 ^ 32))) :: gcmCtr c iv (n + 1) r

/-- GCM encryption or decryption of the text. -/
def gcmText (c : Cipher) (iv d : Bytes) : Bytes := (gcmCtr c iv 2 (chunks 16 d)).flatten

end Sys2Proof.Machine
end

