-- ==== Sys2Proof/Machine/Lookup.lean ====
section
/-! DEFINITION. The rows of the lookup unit: LKU_CMD operations (**R269**-**R272**), the stash retry, node freeing and
the trie scrub, and the test that a host path reaches the BARs. -/

namespace Sys2Proof.Machine

/-- A BAR request reaches the module (**R464**, **R465**): link up, function in D0, IDE stream Secure where required. -/
def barOpen (s : State) : Bool :=
  s.pcie.link && !s.pcie.perst && !s.pcie.d3hot &&
  (match s.img.cfg with | some c => !c.mgtFlags.getLsbD 3 || s.pcie.secure | none => true)

/-- Bytes of eight words, least significant byte first (**R270**). -/
def wordsBytes (l : List Word) : Bytes := fit 32 (l.flatMap fun w => leBytes 4 w.toNat)

/-- Eight words of 32 bytes. -/
def bytesWords (b : Bytes) : List Word := (List.range 8).map fun i => BitVec.ofNat 32 (leNat (bytesAt b (4 * i) 4))

/-- The domain entry's 8 bytes (**R258**). -/
def DomainEntry.bytes (e : DomainEntry) : Bytes :=
  leBytes 8 (e.pennant * 2 ^ 32 + e.state * 2 ^ 29 + b2n e.sby * 2 ^ 28 + e.owner * 2 ^ 14 + e.standby)

/-- The peer entry's 32 bytes (**R259**). -/
def PeerEntry.bytes (node : Nat) (e : PeerEntry) : Bytes :=
  leBytes 2 node ++ [BitVec.ofNat 8 e.state,
    BitVec.ofNat 8 (b2n e.session.isSome + 2 * b2n e.path0 + 4 * b2n e.path1 + 8 * b2n e.mayOwn + 16 * b2n e.mayStandby)] ++
  leBytes 4 e.delay0 ++ leBytes 4 e.delay1 ++ [BitVec.ofNat 8 e.missed, 0, 0, 0] ++ leBytes 8 e.last ++
  leBytes 4 (e.session.getD 0) ++ [0, 0, 0, 0]

/-- A prefix or PAN operand (**R270**): its digits, none where a field is out of range. -/
def prefixOperand (lo hi : Nat) (b : Bytes) : Option (List Nat) :=
  let n := leNat (bytesAt b 10 1)
  if lo ≤ n ∧ n ≤ hi ∧ panFieldOk n (BitVec.ofNat 80 (beNat (b.take 10))) then some ((nibbles (b.take 10)).take n)
  else none

/-- Every byte zero. -/
def allZero (b : Bytes) : Bool := b.all (· == 0)

/-- INSERT on the trie (**R253**, **R255**): result code and state. -/
def trieInsertOp (ds : List Nat) (dom : Nat) (s : State) : Nat × State :=
  if (trieFind s.lku ds).isSome then (1, s)
  else if freeNodes s.lku < (triePlace s.lku 10 0 ds).2 then (4, s)
  else
    let l := trieWrite dom 10 0 ds s.lku
    (0, { s with lku := { l with prefixes := l.prefixes + 1 } })

/-- DELETE on the trie (**R253**). -/
def trieDeleteOp (ds : List Nat) (s : State) : Nat × State :=
  match trieFind s.lku ds with
  | some (n, w) =>
    let l := trieCollapse 10 n (setTrie n w 0 s.lku)
    (0, { s with lku := { l with prefixes := l.prefixes - 1 } })
  | none => (2, s)

/-- REPLACE on the trie. -/
def trieReplaceOp (ds : List Nat) (dom : Nat) (s : State) : Nat × State :=
  match trieFind s.lku ds with
  | some (n, w) => (0, { s with lku := setTrie n w (leafWord dom) s.lku })
  | none => (2, s)

/-- One operation on the trie: code, result operand and state. -/
def trieOp (op : Nat) (b : Bytes) (s : State) : Nat × Option Bytes × State :=
  let dom := leNat (bytesAt b 12 2)
  if op = 5 then
    match prefixOperand 12 19 b with
    | some ds =>
      if !allZero (b.drop 11) then (5, none, s)
      else
        let h := trieSearch s.lku ds
        (0, some (b.take 11 ++ [BitVec.ofNat 8 h.len] ++ leBytes 2 h.domain ++ List.replicate 18 0), noteTrie h.bad s)
    | none => (5, none, s)
  else
    let put := op == 1 || op == 4
    match prefixOperand 1 19 b with
    | none => (5, none, s)
    | some ds =>
      if !(if put then bytesAt b 11 1 == [0] && allZero (b.drop 14) && dom != 0 else allZero (b.drop 11)) then (5, none, s)
      else if op = 1 then let r := trieInsertOp ds dom s; (r.1, none, r.2)
      else if op = 2 then let r := trieDeleteOp ds s; (r.1, none, r.2)
      else if op = 4 then let r := trieReplaceOp ds dom s; (r.1, none, r.2)
      else
        match trieFind s.lku ds with
        | some (n, w) =>
          (0, some (b.take 12 ++ leBytes 2 (wValue (trieWord s.lku n w)) ++ List.replicate 18 0), s)
        | none => (2, none, s)

/-- An exact-match operand is in range (**R271**). -/
def emOperandOk (b : Bytes) (s : State) : Bool :=
  let e := emOfBytes b
  e.handle != 0 && e.flags.getLsbD 0 && e.flags.toNat / 8 == 0 && e.lines != 0 && allZero (b.drop 14) &&
  (inRegion s 2 e.record || inRegion s 3 e.record)

/-- The record's first line is the entry's (**R265**): colour of the slice, handle and domain; 8 an uncorrectable line. -/
def recordLineCode (e : EmEntry) (s : State) : Nat :=
  if s.mem.badLines.contains e.record then 8
  else
    match recordAt s e with
    | some r =>
      if lineColour s.mem (vaultLine0 + e.record) == sliceColour e.slice && r.slice == e.slice && r.handle == e.handle &&
        r.domain == e.domain then 0 else 6
    | none => 6

/-- One operation on the exact-match table. -/
def emOp (op : Nat) (b : Bytes) (s : State) : Nat × Option Bytes × State :=
  let e := emOfBytes b
  if op = 2 ∨ op = 3 then
    if e.handle = 0 ∨ !allZero (b.drop 5) then (5, none, s)
    else if op = 2 then let r := emDelete e.slice e.handle s; (r.1, none, r.2)
    else
      match emFind s e.slice e.handle with
      | .bucket _ x => (0, some x.bytes, s)
      | .stash _ x => (0, some x.bytes, s)
      | .memory => (8, none, s)
      | .absent => (2, none, s)
  else if !emOperandOk b s then (5, none, s)
  else if op = 4 then let r := emReplace e s; (r.1, none, r.2)
  else
    let c := recordLineCode e s
    if c ≠ 0 then (c, none, s) else let r := emInsert e s; (r.1, none, r.2)

/-- READ of the domain, peer or stash table. -/
def tableRead (table index : Nat) (s : State) : Nat × Option Bytes × State :=
  if table = 2 then (0, some (fit 32 (domainOf s index).bytes), s)
  else if table = 3 then
    if index < 16384 then (0, some ((peerOf s index).bytes index), s) else (5, none, s)
  else if index < 64 then
    (0, some (match tget? s.lku.stash index with | some e => e.bytes | none => List.replicate 32 0), s)
  else (5, none, s)

/-- Write operations are permitted (**R269**). -/
def lkuWritable (s : State) : Bool :=
  !s.tmp.locked && (s.lcs.state == .integrator || s.lcs.state == .fielded)

/-- One lookup operation on an operand (**R269**-**R271**): code, result operand and state.  DENIED is tested before
the operand (log entry 27). -/
def lkuOp (op table index : Nat) (b : Bytes) (s : State) : Nat × Option Bytes × State :=
  if op = 0 ∨ 5 < op ∨ 4 < table then (5, none, s)
  else if (op = 1 ∨ op = 2 ∨ op = 4) ∧ (2 ≤ table ∨ !lkuWritable s) then (7, none, s)
  else if op = 5 ∧ table ≠ 0 then (5, none, s)
  else if table = 0 then trieOp op b s
  else if table = 1 then emOp op b s
  else tableRead table index s

/-- The end of an LKU_CMD (**R269**): result operand, code, DONE, BUSY clear, interrupt where asked. -/
def lkuEnd (irq : Bool) (code : Nat) (out : Option Bytes) (s : State) : State :=
  let l := s.lku
  let t := { s with lku := { l with
    data := (match out with | some b => bytesWords b | none => l.data)
    result := code, done := true, busy := false, batch := false } }
  if irq then raise 4 t else t

/-- A write to LKU_CMD or LKU_DATA while BUSY (**R269**). -/
def lkuBusyWrite (offset : Nat) (s : State) : State := logEvent 0x405 (leBytes 4 offset) s

/-- An LKU_CMD without BATCH (**R269**): an operation that runs whole. -/
def lkuRun (op table index : Nat) (irq : Bool) (s : State) : State :=
  if s.lku.busy then lkuBusyWrite 0x040004 s
  else
    let (code, out, t) := lkuOp op table index (wordsBytes s.lku.data) { s with lku := { s.lku with done := false } }
    lkuEnd irq code out t

/-- An LKU_CMD without BATCH from the host (**R269**). -/
def lkuCmd (op table index : Nat) (irq : Bool) (s : State) : Res := .next (if barOpen s then lkuRun op table index irq s else s)

/-- LKU_TRIE_INSERT (**R253**, **R269**). -/
def execLkuTrieInsert (index : BitVec 16) (irq : Bool) (s : State) : Res := lkuCmd 1 0 index.toNat irq s
/-- LKU_TRIE_DELETE (**R253**, **R269**). -/
def execLkuTrieDelete (index : BitVec 16) (irq : Bool) (s : State) : Res := lkuCmd 2 0 index.toNat irq s
/-- LKU_TRIE_REPLACE (**R269**, **R270**). -/
def execLkuTrieReplace (index : BitVec 16) (irq : Bool) (s : State) : Res := lkuCmd 4 0 index.toNat irq s
/-- LKU_TRIE_READ (**R269**, **R270**). -/
def execLkuTrieRead (index : BitVec 16) (irq : Bool) (s : State) : Res := lkuCmd 3 0 index.toNat irq s
/-- LKU_TRIE_SEARCH (**R254**, **R269**). -/
def execLkuTrieSearch (index : BitVec 16) (irq : Bool) (s : State) : Res := lkuCmd 5 0 index.toNat irq s
/-- LKU_EM_INSERT (**R265**, **R269**). -/
def execLkuEmInsert (index : BitVec 16) (irq : Bool) (s : State) : Res := lkuCmd 1 1 index.toNat irq s
/-- LKU_EM_DELETE (**R266**, **R269**). -/
def execLkuEmDelete (index : BitVec 16) (irq : Bool) (s : State) : Res := lkuCmd 2 1 index.toNat irq s
/-- LKU_EM_REPLACE (**R266**, **R269**). -/
def execLkuEmReplace (index : BitVec 16) (irq : Bool) (s : State) : Res := lkuCmd 4 1 index.toNat irq s
/-- LKU_EM_READ (**R264**, **R269**). -/
def execLkuEmRead (index : BitVec 16) (irq : Bool) (s : State) : Res := lkuCmd 3 1 index.toNat irq s
/-- LKU_DOMAIN_READ (**R257**, **R269**). -/
def execLkuDomainRead (index : BitVec 16) (irq : Bool) (s : State) : Res := lkuCmd 3 2 index.toNat irq s
/-- LKU_PEER_READ (**R257**, **R269**). -/
def execLkuPeerRead (index : BitVec 16) (irq : Bool) (s : State) : Res := lkuCmd 3 3 index.toNat irq s
/-- LKU_STASH_READ (**R269**, **R270**). -/
def execLkuStashRead (index : BitVec 16) (irq : Bool) (s : State) : Res := lkuCmd 3 4 index.toNat irq s

-- Batch (R272) ----------------------------------------------------------------------------------------------------------

/-- The records of a batch in order: records done, failed, first failing code, results written back. -/
def batchRun (addr : Nat) : Nat → List BatchRec → Nat × Nat × Nat → State → (Nat × Nat × Nat) × State
  | _, [], acc, s => (acc, s)
  | i, r :: rest, (done, failed, first), s =>
    let b := fit 32 (r.operand.flatMap fun w => leBytes 4 w.toNat)
    let (code, out, t) := if r.reservedZero then lkuOp r.op.toNat r.table.toNat 0 b s else (5, none, s)
    let u := emit (.write none (addr + 48 * i + 2) [BitVec.ofNat 8 code]) t
    let v := match out with | some o => emit (.write none (addr + 48 * i + 16) o) u | none => u
    batchRun addr (i + 1) rest (done + 1, failed + b2n (code != 0), if first = 0 then code else first) v

/-- A batch (**R272**): `records` what the DMA reads bring, none or too few where a read fails. -/
def lkuBatchRun (irq : Bool) (records : Option (List BatchRec)) (s : State) : State :=
  let n := s.lku.batchCount
  let a := s.lku.batchAddr.toNat
  if s.lku.busy then lkuBusyWrite 0x040004 s
  else if n = 0 ∨ 65536 < n ∨ a % 16 ≠ 0 then
    lkuEnd irq 5 none { s with lku := { s.lku with batchDone := 0, batchFailed := 0 } }
  else
    let l := if canDma s then (records.getD []).take n else []
    let ((done, failed, first), t) := batchRun a 0 l (0, 0, 0) { s with lku := { s.lku with done := false } }
    let code := if first ≠ 0 then first else if done < n then 9 else 0
    lkuEnd irq code none { t with lku := { t.lku with batchDone := done, batchFailed := failed } }

/-- LKU_BATCH (**R272**). -/
def execLkuBatch (irq : Bool) (records : Option (List BatchRec)) (s : State) : Res :=
  .next (if barOpen s then lkuBatchRun irq records s else s)

-- Time-driven rows ------------------------------------------------------------------------------------------------------------

/-- STASH_RETRY (**R266**): steps 2-4 of the insert for each stash entry. -/
def execStashRetry (s : State) : Res := .next (stashRetry s)

/-- TRIE_NODE_FREE (**R253**, **R273**): the node unlinked first is freed, 0.6 us after its unlink. -/
def execTrieNodeFree (s : State) : Res :=
  .next { s with lku := { s.lku with freeing := s.lku.freeing.drop 1 } }

/-- TRIE_SCRUB (**R256**): one word scrubbed, `bits` of it in error. -/
def execTrieScrub (node : Nat) (word : Nat) (bits : Nat) (s : State) : Res :=
  if 49152 ≤ node ∨ 128 ≤ word ∨ bits = 0 then .next s
  else if bits = 1 then .next { s with lku := { s.lku with scrubCorr := satAdd 16 s.lku.scrubCorr 1 } }
  else
    let w := 128 * node + word
    .next (noteTrie [w] { s with lku := { s.lku with
      badWords := if s.lku.badWords.contains w then s.lku.badWords else w :: s.lku.badWords } })

end Sys2Proof.Machine
end

