-- ==== Sys2Proof/Machine/Custody.lean ====
section
/-! DEFINITION. Custodian ports and dual control (**R144**-**R149**, **R367**, **R368**, **R486**): operation statements,
the counting, reservation and consumption of approvals, and the events of cards and windows. -/

namespace Sys2Proof.Machine

-- Approvals ----------------------------------------------------------------------------------------------------------

/-- The operation statement of a command (**R146**): `scope` the slice, or 0xFFFF for a management command. -/
def opStatement (d : Desc) (scope : Nat) (input : Bytes) : Bytes :=
  leBytes 2 d.code ++ leBytes 2 scope ++ leBytes 4 d.keyA.toNat ++ leBytes 4 d.keyB.toNat ++ [0, 0, 0, 0] ++
  sha256 input ++ List.replicate 16 0

/-- One approval counts towards a command (**R148**): `role` 0 APPROVE, 1 COMPONENT. -/
def approvalCounts (now role : Nat) (st : Bytes) (a : Approval) : Bool :=
  a.statement == st && now < a.expiry && !a.reserved && a.roles.getLsbD role && (role == 0 || a.component.isSome)

/-- Approvals that count, one for each custodian, oldest first. -/
def countingApprovals (now role : Nat) (st : Bytes) : List Approval → List Nat → List Approval
  | [], _ => []
  | a :: r, seen =>
    if approvalCounts now role st a && !seen.contains a.custodian then
      a :: countingApprovals now role st r (a.custodian :: seen)
    else countingApprovals now role st r seen

/-- The state with its held approvals replaced. -/
def setApprovals (l : List Approval) (s : State) : State := { s with cust := { s.cust with approvals := l } }

/-- `n` approvals reserved for a statement, oldest first: the approvals and the state, or how many are missing
(**R148**). -/
def reserveApprovals (n role : Nat) (st : Bytes) (s : State) : (List Approval × State) ⊕ Nat :=
  let l := countingApprovals s.mtime role st s.cust.approvals []
  if l.length < n then .inr (n - l.length)
  else
    let nums := (l.take n).map (·.number)
    .inl (l.take n, setApprovals (s.cust.approvals.map fun a =>
      if nums.contains a.number then { a with reserved := true } else a) s)

/-- The reserved approvals of a statement after its command: consumed on OK, released otherwise (**R148**). -/
def settleApprovals (ok : Bool) (st : Bytes) (s : State) : State :=
  setApprovals (if ok then s.cust.approvals.filter fun a => !(a.reserved && a.statement == st)
    else s.cust.approvals.map fun a => if a.statement == st then { a with reserved := false } else a) s

/-- Every held approval discarded (**R149**). -/
def dropApprovals (s : State) : State := setApprovals [] s

/-- The approvals scoped to a slice discarded (**R149**). -/
def dropScopeApprovals (sl : Nat) (s : State) : State :=
  setApprovals (s.cust.approvals.filter fun a => leNat (bytesAt a.statement 2 2) != sl) s

-- Ports -----------------------------------------------------------------------------------------------------------------

/-- A port. -/
def cardPort (s : State) (p : Nat) : CardPort := if p = 0 then s.cust.port0 else s.cust.port1

/-- A port changed. -/
def updPort (p : Nat) (f : CardPort → CardPort) (s : State) : State :=
  if p = 0 then { s with cust := { s.cust with port0 := f s.cust.port0 } }
  else { s with cust := { s.cust with port1 := f s.cust.port1 } }

/-- A session ended: custodian, roles and session key cleared (**R367**). -/
def closeCard (c : CardPort) : CardPort := { c with custodian := none, roles := 0, openedAt := 0, key := 0 }

/-- The card interface works: the Warden runs. -/
def cardsLive (s : State) : Bool :=
  (s.pwr.state == .ready || s.pwr.state == .run || s.pwr.state == .sleep) && !s.wdn.lost

/-- CARD_INSERTED (**R144**, **R485**): the card-present contact held low for 10 ms. -/
def execCardInserted (port : Nat) (s : State) : Res :=
  if 2 ≤ port then .next s else .next (updPort port (fun c => { c with present := true }) s)

/-- CARD_REMOVED (**R486**, **R147**): the port is deactivated and its session closes; approvals stay. -/
def execCardRemoved (port : Nat) (s : State) : Res :=
  if 2 ≤ port then .next s
  else .next (updPort port (fun c => { closeCard c with present := false, active := false }) s)

/-- CARD_OVERCURRENT (**R486**): a card that draws more than its class's limit is deactivated, which ends its
session. -/
def execCardOvercurrent (port : Nat) (s : State) : Res :=
  if 2 ≤ port then .next s else .next (updPort port (fun c => { closeCard c with active := false }) s)

/-- CARD_TIMEOUT (**R367**): a card silent for 5 s ends its session. -/
def execCardTimeout (port : Nat) (s : State) : Res :=
  if 2 ≤ port then .next s else .next (updPort port closeCard s)

/-- CARD_SESSION_EXPIRY (**R367**): the session key is cleared 900 s after OPEN. -/
def execCardSessionExpiry (port : Nat) (s : State) : Res :=
  if 2 ≤ port then .next s
  else
    let c := cardPort s port
    if c.custodian.isSome && c.openedAt + 900000000000 ≤ s.mtime then .next (updPort port closeCard s) else .next s

/-- APPROVAL_WINDOW_EXPIRY (**R149**): an approval whose window has expired is discarded, unless a running command
has reserved it (**R148**). -/
def execApprovalWindowExpiry (number : Nat) (s : State) : Res :=
  .next (setApprovals (s.cust.approvals.filter fun a =>
    !(a.number == number && a.expiry ≤ s.mtime && !a.reserved)) s)

end Sys2Proof.Machine
end

