-- ==== Sys2Proof/Machine/Memory.lean ====
section
/-! DEFINITION. Scratchpad and vault memory (**R326**-**R351**): refusals by an MPU, uncorrectable words and lines,
patrol scrub, row remapping, and the areas that a master may reach. -/

namespace Sys2Proof.Machine

/-- An MPU refusal (**R339**): MPU_FAULT_LAST, the count and the record.  Kinds: 1 UNMAPPED, 2 PERMISSION, 3 COLOUR. -/
def mpuRefuse (master kind colour addr : Nat) (s : State) : State :=
  logEvent 0x806 ([BitVec.ofNat 8 master, BitVec.ofNat 8 kind] ++ leBytes 2 colour ++ leBytes 5 addr)
    { s with mem := { s.mem with
        faultMaster := master, faultKind := kind, faultColour := colour, faultAddr := addr
        faultCount := satAdd 32 s.mem.faultCount 1 } }

/-- A double-bit scratchpad error (**R332**). -/
def spUncorrectable (word : Nat) (s : State) : State :=
  logEvent 0x801 (leBytes 4 (8 * word))
    { s with mem := { s.mem with
        spUe := satAdd 32 s.mem.spUe 1, spLastUe := true, spLastWord := word
        badWords := if s.mem.badWords.contains word then s.mem.badWords else word :: s.mem.badWords } }

/-- A line marked uncorrectable; a line of the exact-match region takes its bucket with it (**R264**). -/
def markBad (line : Nat) (s : State) : State :=
  let t := { s with mem := { s.mem with
    badLines := if s.mem.badLines.contains line then s.mem.badLines else line :: s.mem.badLines } }
  if inRegion s 1 line then
    let b := (line - (region s 1).1 * 16384) / 2
    { t with lku := { t.lku with badBuckets := if t.lku.badBuckets.contains b then t.lku.badBuckets else b :: t.lku.badBuckets } }
  else t

/-- MEM_VAULT_UE and MEM_VAULT_LAST of an uncorrectable decode (**R343**, **R350**). -/
def countUe (line : Nat) (s : State) : State :=
  { s with mem := { s.mem with
      vaultUe := satAdd 32 s.mem.vaultUe 1, lastSymbols := 0, lastKind := 2, lastColour := 0x3FF
      lastRegion := regionOf s line, lastLine := line } }

/-- An uncorrectable line met by an access (**R343**). -/
def vaultUncorrectable (line : Nat) (s : State) : State :=
  logEvent 0x803 (leBytes 4 line ++ [BitVec.ofNat 8 (regionOf s line)]) (countUe line (markBad line s))

/-- A row is due for remapping (**R347**). -/
def remapRow (row : Nat) (s : State) : State :=
  let m := s.mem
  if m.remap.contains row || m.remapCopy.contains row then s
  else if m.remap.length + m.remapCopy.length < 256 then
    { s with mem := { m with remapCopy := m.remapCopy ++ [row] } }
  else logEvent 0x805 (leBytes 4 row) { s with mem := { m with remapFull := true } }

/-- Lines that the Warden rewrites (**R344**): no longer uncorrectable, and remembered for **R347**. -/
def rewriteLines (line n : Nat) (s : State) : State :=
  let hit := fun (x : Nat) => line ≤ x && x < line + n
  let bad := s.mem.badLines.filter hit
  let base := (region s 1).1 * 16384
  { s with mem := { s.mem with
      badLines := s.mem.badLines.filter fun x => !hit x
      rewritten := bad ++ s.mem.rewritten }
           lku := { s.lku with badBuckets := s.lku.badBuckets.filter (fun b => !(hit (base + 2 * b) || hit (base + 2 * b + 1))) } }

/-- A corrected line (**R343**, **R347**): counted, and its row remapped after 3 distinct scrub passes. -/
def vaultCorrected (line symbols : Nat) (s : State) : State :=
  let row := Config.rowOf line
  let seen := if s.mem.rowErrors.contains (row, s.mem.passes) then s.mem.rowErrors
    else (row, s.mem.passes) :: s.mem.rowErrors
  let t := { s with mem := { s.mem with
    vaultCe := satAdd 32 s.mem.vaultCe 1, lastSymbols := symbols, lastKind := 1
    lastColour := lineColour s.mem (vaultLine0 + line), lastRegion := regionOf s line, lastLine := line
    rowErrors := seen } }
  if 3 ≤ (seen.filter fun e => e.1 == row).length then remapRow row t else t

/-- SCRUB_READ (**R346**): the next line, with `symbols` symbols in error. -/
def execScrubRead (symbols : Nat) (s : State) : Res :=
  let m := s.mem
  if s.pwr.state != .run || !m.trained || m.selfRefresh then .next s
  else
    let line := m.scrub
    let t := if 4 ≤ symbols ∨ m.badLines.contains line then
        let u := raise 7 (logEvent 0x804 (leBytes 4 line ++ [BitVec.ofNat 8 (regionOf s line)]) (countUe line (markBad line s)))
        if m.rewritten.contains line then remapRow (Config.rowOf line) u else u
      else if symbols = 0 then s
      else vaultCorrected line symbols s
    let wrap := line + 1 == 2 ^ 29
    .next { t with mem := { t.mem with
      scrub := if wrap then 0 else line + 1, passes := if wrap then (t.mem.passes + 1) % 2 ^ 32 else t.mem.passes } }

/-- ROW_REMAP_COPY_DONE (**R347**): the copy that began first ends, and its row is served from the reserve row. -/
def execRowRemapCopyDone (s : State) : Res :=
  match s.mem.remapCopy with
  | row :: r => .next { s with mem := { s.mem with remapCopy := r, remap := s.mem.remap ++ [row] } }
  | [] => .next s

/-- Vault memory enters or leaves self-refresh (**R348**). -/
def setSelfRefresh (b : Bool) (s : State) : State :=
  { s with mem := { s.mem with selfRefresh := b && s.mem.trained } }

end Sys2Proof.Machine
end

