-- ==== Sys2Proof/Machine/Sending.lean ====
section
/-! DEFINITION. Sending on fabric sessions (**R278**-**R280**): message IDs, frame counts, the window and its waiting
messages; and the metering counters (**R319**). -/

namespace Sys2Proof.Machine

-- Sessions ------------------------------------------------------------------------------------------------------------

/-- An open session by its index. -/
def session? (s : State) (i : Nat) : Option Session := tget? s.fab.sessions i

/-- The state with an open session changed. -/
def updSession (i : Nat) (f : Session → Session) (s : State) : State :=
  match session? s i with
  | some x => { s with fab := { s.fab with sessions := tset s.fab.sessions i (f x) } }
  | none => s

/-- Frames of a message of `n` bytes (**R280**). -/
def frames (n : Nat) : Nat := max 1 ((n + 8191) / 8192)

/-- The message's ID written into what is sent. -/
def Out.withId (id : Nat) : Out → Out
  | .message sess typ _ ws => .message sess typ id ws
  | o => o

/-- The window has a place (**R280**): 16,384, of which 1,024 are kept for ENSIGN. -/
def windowOpen (x : Session) (ens : Bool) : Bool := x.unacked.length < (if ens then 16384 else 15360)

/-- The RESPONSE of a request gets its message ID at its provisional changes (**R295**). -/
def stampProv (rid : Option Nat) (sess id : Nat) (s : State) : State :=
  match rid with
  | some r => { s with fab := { s.fab with prov := s.fab.prov.map fun p =>
      if p.rid = r then { p with session := sess, message := id } else p } }
  | none => s

/-- One message put on a session that has a place for it. -/
def putMsg (i : Nat) (x : Session) (ens : Bool) (m : WaitMsg) (s : State) : State :=
  let y := { x with
    nextMsg := x.nextMsg + 1, txSeq := x.txSeq + frames m.bytes, ackDue := false
    unacked := x.unacked ++ [{ id := x.nextMsg, typ := m.typ, bytes := m.bytes, ensign := ens, sentAt := s.mtime, txAt := s.mtime,
                               rid := m.rid }] }
  stampProv m.rid i x.nextMsg
    (emit (m.what.withId x.nextMsg) { s with fab := { s.fab with sessions := tset s.fab.sessions i y } })

/-- A message sent on a session; a non-ENSIGN message that finds no place waits (**R280**). -/
def sendMsg (i : Nat) (ens : Bool) (m : WaitMsg) (s : State) : State :=
  match session? s i with
  | none => s
  | some x =>
    if ens || (windowOpen x ens && x.waiting.isEmpty) then putMsg i x ens m s
    else { s with fab := { s.fab with sessions := tset s.fab.sessions i { x with waiting := x.waiting ++ [m] } } }

/-- Waiting messages sent while the window has places: at most `k`. -/
def sendWaiting (i : Nat) : Nat → State → State
  | 0, s => s
  | k + 1, s =>
    match session? s i with
    | none => s
    | some x =>
      match x.waiting with
      | [] => s
      | m :: r => if windowOpen x false then sendWaiting i k (putMsg i { x with waiting := r } false m s) else s

/-- Open peer sessions. -/
def peerSessions (s : State) : List Nat := (s.fab.sessions.filter fun e => !e.2.tenant).map (·.1)

/-- The session that serves a peer node. -/
def sessionTo (s : State) (node : Nat) : Option Nat := (peerOf s node).session

/-- Open tenant sessions of a slice. -/
def tenantSessions (s : State) (sl : Nat) : List Nat :=
  s.fab.sessions.filterMap fun e => if e.2.tenant && e.2.slice == sl then some e.1 else none

-- Metering (R319, R320) ----------------------------------------------------------------------------------------------------

/-- One class's counters of an interval changed. -/
def meterClass (c : RClass) (f : ClassMeter → ClassMeter) (e : RingEntry) : RingEntry :=
  match c with
  | .ensign => { e with ensign := f e.ensign }
  | .pennon => { e with pennon := f e.pennon }
  | .streamer => { e with streamer := f e.streamer }

/-- A slice's open interval changed; a slice that the image disables has no counters (**R60**, **R320**). -/
def meter (sl : Nat) (c : RClass) (f : ClassMeter → ClassMeter) (s : State) : State :=
  if enabled s sl then updSlice sl (fun x => { x with meter := meterClass c f x.meter }) s else s

/-- A refusal under **R105** counted. -/
def meterRefused (sl : Nat) (c : RClass) (s : State) : State :=
  meter sl c (fun m => { m with refused := satAdd 32 m.refused 1 }) s

/-- The input of an admitted request counted. -/
def meterIn (sl : Nat) (c : RClass) (n : Nat) (s : State) : State :=
  meter sl c (fun m => { m with bytesIn := m.bytesIn + n }) s

/-- A completion of an admitted request counted: its group, output bytes and busy time. -/
def meterDone (sl : Nat) (c : RClass) (group outLen busy : Nat) (s : State) : State :=
  meter sl c (fun m => { m with
    ops := tupd m.ops (groupIdx group) 0 (fun n => satAdd 32 n 1), bytesOut := m.bytesOut + outLen, busy := m.busy + busy }) s

/-- A METER_SKIPPED completion written here. -/
def meterSkipped (sl : Nat) (c : RClass) (s : State) : State :=
  meter sl c (fun m => { m with skipped := satAdd 32 m.skipped 1 }) s

end Sys2Proof.Machine
end

