-- ==== Sys2Proof/Machine/Requests.lean ====
section
/-! DEFINITION. The path of a request: doorbells, fetch, landing and admission (**R65**-**R73**, **R308**-**R310**),
sequencers (**R111**, **R112**), forwarding (**R91**, **R293**), and completion (**R72**, **R78**, **R90**). -/

namespace Sys2Proof.Machine

-- Doorbells (R68, R73, R308) -----------------------------------------------------------------------------------------

/-- The PASID of a BAR2 request is absent from the map or maps to another slice (**R308**). -/
def pasidForeign (s : State) (page : Nat) (pasid : Option (BitVec 20)) : Bool :=
  match pasid with
  | none => false
  | some p =>
    match s.img.cfg with
    | some c => c.pasids.lookup p.toNat != some page
    | none => true

/-- A BAR2 request refused as completer abort (**R308**): the fault registers, the count and the record. -/
def pasidRefuse (page pasid : Nat) (s : State) : State :=
  logEvent 0x301 (leBytes 4 pasid ++ [BitVec.ofNat 8 page])
    { s with mgt := { s.mgt with
        pasidSeen := true, pasidPage := page, pasidPasid := pasid, pasidCount := satAdd 32 s.mgt.pasidCount 1 } }

/-- A doorbell write ignored and logged (**R68**): `base` the page offset of queue 0's doorbell. -/
def doorbellInvalid (w : DbWrite) (base : Nat) (s : State) : State :=
  logEvent 0x302 (w.page :: leBytes 2 (base + 4 * w.queue.toNat) ++ leBytes 4 w.value.toNat) s

/-- The queue that a doorbell write addresses, where the write is valid in width, queue, state and index. -/
def doorbellQueue (w : DbWrite) (s : State) : Option Queue :=
  match queue? s w.page.toNat w.queue.toNat with
  | some q =>
    if w.width == 4 && w.aligned && (slice s w.page.toNat).state != .resetting && w.value.toNat % 65536 < q.depth then some q
    else none
  | none => none

/-- SQ_TAIL_DOORBELL (**R68**, **R70**): a new tail; the slice joins the order of doorbells. -/
def execSqTailDoorbell (w : DbWrite) (s : State) : Res :=
  let sl := w.page.toNat
  if !barOpen s then .next s
  else if pasidForeign s sl w.pasid then .next (pasidRefuse sl (w.pasid.getD 0).toNat s)
  else
    match doorbellQueue w s with
    | none => .next (doorbellInvalid w 0 s)
    | some q =>
      let t := setQueue sl w.queue.toNat { q with tail := w.value.toNat % 65536 } s
      .next { t with rqs := { t.rqs with order := if t.rqs.order.contains sl then t.rqs.order else t.rqs.order ++ [sl] } }

/-- Completion entries written and not yet freed. -/
def Queue.written (q : Queue) : Nat := (q.cqTail + q.depth - q.cqHead) % q.depth

/-- CQ_HEAD_DOORBELL (**R68**, **R73**): the entries before the new head are free. -/
def execCqHeadDoorbell (w : DbWrite) (s : State) : Res :=
  let sl := w.page.toNat
  if !barOpen s then .next s
  else if pasidForeign s sl w.pasid then .next (pasidRefuse sl (w.pasid.getD 0).toNat s)
  else
    match doorbellQueue w s with
    | none => .next (doorbellInvalid w 0x100 s)
    | some q =>
      let v := w.value.toNat % 65536
      if q.written < (v + q.depth - q.cqHead) % q.depth then .next (doorbellInvalid w 0x100 s)
      else .next (setQueue sl w.queue.toNat { q with cqHead := v } s)

/-- PASID_UNMAPPED (**R308**): a BAR2 request with an unmapped or foreign PASID. -/
def execPasidUnmapped (page : BitVec 8) (pasid : BitVec 20) (posted : Bool) (s : State) : Res :=
  if !barOpen s || !pasidForeign s page.toNat (some pasid) then .next s
  else
    let t := pasidRefuse page.toNat pasid.toNat s
    .next (if posted then t else emit (.pcie 2) t)

-- Fetch (R70, R308, R310) ---------------------------------------------------------------------------------------------------

/-- Slice-queue DMA may run (**R463**, **R465**). -/
def queueDma (s : State) : Bool := canDma s && s.pcie.pasidEnable

/-- Submission entries rung and not yet read for. -/
def Queue.rung (q : Queue) : Nat := (q.tail + q.depth - q.issued) % q.depth

/-- Free completion entries that no fetched request has reserved; one entry always stays free (log entry 30). -/
def Queue.space (q : Queue) : Nat := q.depth - 1 - q.written - q.reserved

/-- A fetch from the queue can be issued. -/
def Queue.ready (q : Queue) : Bool := !q.stopped && !q.paused && q.rung != 0 && q.space != 0

/-- The module fetches for a slice: ACTIVE, in RUN outside a drain (**R435**, **R436**). -/
def intake (s : State) (sl : Nat) : Bool := (slice s sl).state == .active && running s

/-- Ready queue numbers of a slice. -/
def readyQueues (s : State) (sl : Nat) : List Nat :=
  (List.range 16).filter fun n => match queue? s sl n with | some q => q.ready | none => false

/-- The queue that the mover serves next: the slices in doorbell order, round robin within a slice (**R70**). -/
def nextFetch (s : State) : Option (Nat × Nat) :=
  s.rqs.order.findSome? fun sl =>
    if !intake s sl then none
    else
      let l := readyQueues s sl
      match l.find? fun n => (slice s sl).rr ≤ n with
      | some n => some (sl, n)
      | none => l.head?.map fun n => (sl, n)

/-- A slice with nothing more to read for leaves the order of doorbells. -/
def trimOrder (sl : Nat) (s : State) : State :=
  let more := (List.range 16).any fun n => match queue? s sl n with | some q => q.rung != 0 | none => false
  if more then s else { s with rqs := { s.rqs with order := s.rqs.order.filter (· != sl) } }

/-- DESCRIPTOR_FETCH (**R70**): one read of at most eight descriptors, each reserving a completion entry. -/
def execDescriptorFetch (s : State) : Res :=
  if !queueDma s then .next s
  else
    match nextFetch s with
    | none => .next s
    | some (sl, n) =>
      match queue? s sl n with
      | none => .next s
      | some q =>
        let k := min (min 8 q.rung) (min q.space (q.depth - q.issued))
        let t := setQueue sl n { q with
          issued := (q.issued + k) % q.depth, reserved := q.reserved + k, reads := q.reads ++ [k] } s
        .next (trimOrder sl (emit (.fetch sl n q.issued k) (updSlice sl (fun x => { x with rr := (n + 1) % 16 }) t)))

-- Landing areas (R309, R331) -------------------------------------------------------------------------------------------------

/-- The descriptor of a host queue has an input to read: it is not INLINE, and no check that needs no input fails
(**R71**, **R77**). -/
def needsRead (d : Desc) : Bool := !d.inline && d.inLen != 0 && (descCheckLay false false d {}).isNone

/-- Bytes that an ENSIGN request takes in its landing area. -/
def landSize (r : Req) : Nat := 64 + (if needsRead r.desc || r.input != [] then r.desc.inLen.toNat else 0)

/-- Bytes in use of the 8 MiB ENSIGN area. -/
def ensignUsed (s : State) : Nat :=
  s.rqs.live.foldl (fun n r => if r.isEnsign && r.phase != .waitRoom then n + landSize r else n) 0

/-- Room for an ENSIGN request; one larger than the area lands when the area is empty (log entry 31). -/
def ensignFits (s : State) (r : Req) : Bool := ensignUsed s + landSize r ≤ 8388608 || ensignUsed s == 0

/-- Bytes in use of the 34 MiB area. -/
def otherUsed (s : State) : Nat :=
  s.rqs.live.foldl (fun n r =>
    if !r.isEnsign && r.phase != .held then n + r.desc.inLen.toNat + outReserve r.desc else n) 0

/-- Room for a PENNON or STREAMER request. -/
def otherFits (s : State) (r : Req) : Bool :=
  otherUsed s + r.desc.inLen.toNat + outReserve r.desc ≤ 34 * 1048576

/-- Descriptors of a queue held and not dispatched. -/
def heldOf (s : State) (sl q : Nat) : Nat :=
  (s.rqs.live.filter fun r => r.phase == .held && r.slice == sl && r.origin == .host q).length

/-- The pause of **R310** brought up to date. -/
def pauseCheck (sl q : Nat) (s : State) : State :=
  match queue? s sl q with
  | none => s
  | some x =>
    let n := heldOf s sl q
    if 256 ≤ n then setQueue sl q { x with paused := true } s
    else if n ≤ 192 then setQueue sl q { x with paused := false } s
    else s

/-- A request joins the live ones. -/
def addReq (r : Req) (s : State) : State :=
  { s with rqs := { s.rqs with live := s.rqs.live ++ [r], nextRid := s.rqs.nextRid + 1 } }

/-- One fetched descriptor held or its input read issued (**R70**, **R309**). -/
def takeDescriptor (sl q : Nat) (d0 : Desc) (s : State) : State :=
  let d := { d0 with slice := BitVec.ofNat 8 sl }
  let r : Req := { rid := s.rqs.nextRid, desc := d, slice := sl, origin := .host q, heldAt := s.mtime }
  if clsOf d == .ensign then
    let waits := s.rqs.live.any (fun x => x.phase == .waitRoom)
    if waits || !ensignFits s r then addReq { r with phase := .waitRoom } s
    else
      let t := addReq { r with phase := .reading } s
      if needsRead d then emit (.read r.rid) t else t
  else
    let w := s.rqs.live.filter fun x => x.phase == .held
    addReq r (arriveBusy 1 (clsOf d) sl w s)

/-- DESCRIPTOR_ARRIVAL (**R70**, **R308**): the oldest read of the queue ends; none where it fails. -/
def execDescriptorArrival (slice : Nat) (queue : Nat) (descs : Option (List Desc)) (s : State) : Res :=
  match queue? s slice queue with
  | none => .next s
  | some q =>
    match q.reads, descs with
    | [], _ => .next s
    | _, none =>
      let gone := q.reads.foldl (· + ·) 0
      let t := setQueue slice queue { q with stopped := true, reads := [], issued := q.head, reserved := q.reserved - gone } s
      .next (logEvent 0x303 [BitVec.ofNat 8 slice, BitVec.ofNat 8 queue]
        (updSlice slice (fun x => { x with qerr := x.qerr ||| BitVec.ofNat 16 (2 ^ queue) }) t))
    | k :: rest, some l =>
      if l.length ≠ k then .next s
      else
        let t := setQueue slice queue { q with reads := rest, head := (q.head + k) % q.depth } s
        .next (pauseCheck slice queue (l.foldl (fun u d => takeDescriptor slice queue d u) t))

/-- LANDING_ROOM_FREED (**R309**): the input read that has waited longest proceeds. -/
def execLandingRoomFreed (s : State) : Res :=
  match s.rqs.live.find? fun r => r.phase == .waitRoom with
  | none => .next s
  | some r =>
    if !queueDma s || !ensignFits s r then .next s
    else
      let t := updReq r.rid (fun x => { x with phase := .reading }) s
      .next (if needsRead r.desc then emit (.read r.rid) t else t)

-- Completion (R72, R78-R80, R90) ----------------------------------------------------------------------------------------------

/-- Output is written only with OK and OK_RETRIED (**R80**). -/
def Result.written (x : Result) : Bytes := if x.status = stOk ∨ x.status = stRetried then x.output else []

/-- The owner's T_E and twice this module's hop allowance, in ns (**R26**, **R293**). -/
def fwdBound (s : State) (owner : Nat) : Nat :=
  10000 * (peerOf s owner).te + 2000 * (match s.img.cfg with | some c => c.fabric.hop | none => 35)

/-- LATE (**R26**, **R293**): a forwarded ENSIGN request completed after its bound. -/
def isLate (s : State) (r : Req) (x : Result) : Bool :=
  x.forwarded && r.isEnsign && r.landAt + fwdBound s x.node < s.mtime

/-- The completion record of a request (**R78**), queue fields zero. -/
def cplOf (s : State) (r : Req) (x : Result) : Cpl where
  tag := r.desc.tag.toNat
  status := x.status
  phase := false
  forwarded := x.forwarded
  retried := r.retried.isSome || x.status == stRetried
  late := isLate s r x
  skipped := x.skipped
  outLen := x.written.length
  timestamp := s.mtime % 2 ^ 40
  node := if x.forwarded then x.node else 0
  detail := x.detail

/-- A completion counted late in FAB_FWD_LATE. -/
def countLate (b : Bool) (s : State) : State :=
  if b then { s with fab := { s.fab with fwdLate := satAdd 32 s.fab.fwdLate 1 } } else s

/-- Output, record and interrupt of a host-path request, in this order (**R72**). -/
def writeHost (r : Req) (qn : Nat) (x : Result) (s : State) : State :=
  match queue? s r.slice qn with
  | none => dropReq r.rid s
  | some q =>
    let c := { (cplOf s r x) with phase := q.phase, sqHead := q.head, sqId := qn }
    let s1 := if x.written = [] then s else emit (.write (some q.pasid) r.desc.outAddr.toNat x.written) s
    let s2 := emit (.completion r.slice qn q.cqTail c) s1
    let last := q.cqTail + 1 == q.depth
    let s3 := setQueue r.slice qn { q with
      cqTail := (if last then 0 else q.cqTail + 1), phase := (if last then !q.phase else q.phase), reserved := q.reserved - 1 } s2
    let t := tenant s r.slice
    let s4 := if r.desc.noIrq || t.msixCount = 0 then s3 else sendMsix (t.msixBase + qn % t.msixCount) s3
    countLate c.late (dropReq r.rid s4)

/-- The RESPONSE of a fabric request (**R90**). -/
def writeResponse (r : Req) (sess : Nat) (x : Result) (s : State) : State :=
  let m : WaitMsg := { typ := 2, bytes := 32 + x.written.length, rid := some r.rid, what := .response sess (cplOf s r x) x.written }
  countLate (isLate s r x) (dropReq r.rid (sendMsg sess r.isEnsign m s))

/-- The result of a request written where it can be (**R94**, **R465**). -/
def tryWrite (rid : Nat) (s : State) : State :=
  match findReq s rid with
  | none => s
  | some r =>
    match r.result, r.origin with
    | none, _ => s
    | some x, .host q => if queueDma s then writeHost r q x s else s
    | some x, .tenant sess _ => writeResponse r sess x s
    | some x, .peer sess _ => writeResponse r sess x s

/-- Completions that waited for DMA are written (**R94**, **R465**). -/
def flushWaiting (s : State) : State :=
  (s.rqs.live.filter fun r => r.phase == .waitWrite).foldl (fun t r => tryWrite r.rid t) s

/-- A request leaves every unit context that holds it. -/
def clearContexts (rid : Nat) (s : State) : State :=
  let clr := fun (o : Option Nat) => if o = some rid then none else o
  { s with eng := { s.eng with
      units := s.eng.units.map (fun e => (e.1, { e.2 with ctx0 := clr e.2.ctx0, ctx1 := clr e.2.ctx1 }))
      tasks := s.eng.tasks.filter (· != rid) } }

/-- The request was admitted (**R319**): it has passed landing. -/
def Req.admitted (r : Req) : Bool := !(r.phase == .waitRoom || r.phase == .reading || r.phase == .held)

/-- DEADLINE_MISS (**R94**): an ENSIGN request late after a second retirement within T_E. -/
def deadlineCheck (r : Req) (s : State) : State :=
  let bound := 100 * teTenths s
  if r.isEnsign && r.admitted && r.lateRetire && r.landAt + bound < s.mtime then
    logEvent 0x201 ([BitVec.ofNat 8 r.slice, BitVec.ofNat 8 (poolOf r.desc)] ++ leBytes 4 r.desc.tag.toNat ++
      leBytes 4 (s.mtime - r.landAt - bound)) s
  else s

/-- Metering of a request that ends here (**R319**, **R320**); the busy time is a free value (log entry 7). -/
def meterEnd (r : Req) (x : Result) (s : State) : State :=
  if x.forwarded then (if x.skipped then meterSkipped r.slice (clsOf r.desc) s else s)
  else if !r.admitted || r.phase == .fwdQueued || r.phase == .waitFwd || r.phase == .forwarded then s
  else
    let (k, t) := draw s
    let busy := if 2 ≤ poolOf r.desc then Config.freeNat k else 0
    let u := meterDone r.slice (clsOf r.desc) r.desc.group x.written.length (cyclesNs busy) t
    let v := addBusy (poolOf r.desc) (clsOf r.desc) r.slice busy u
    addBusy 1 (clsOf r.desc) r.slice (Config.freeNat (k + 1)) { v with freeCtr := v.freeCtr + 1 }

/-- Operations of the Oryx, Markhor and code pools that a completion releases, and INPUT_REJECTED completions
(**R197**, **R230**). -/
def countReleased (r : Req) (st : Nat) (s : State) : State :=
  let ran := r.phase == .executing || r.phase == .releaseQueued || r.phase == .waitCommit
  let rel := ran && (st == stOk || st == stRetried || st == stVerify)
  let g := r.desc.group
  let both := g == 0x38 || r.desc.code == 0x0807
  let e := s.eng
  let e1 := if rel && (g == 0x20 || both) then { e with oryxOps := satAdd 64 e.oryxOps 1 } else e
  let e2 := if rel && (g == 0x30 || both) then { e1 with mkhOps := satAdd 64 e1.mkhOps 1 } else e1
  let e3 := if rel && g == 0x32 then { e2 with codeOps := satAdd 64 e2.codeOps 1 } else e2
  let alg := (bytesAt r.input 2 1).headD 0
  let curve := r.desc.code == 0x0808 && (alg == 0x52 || alg == 0x45)
  let e4 := if st == stRejected && (g == 0x20 || g == 0x38 || curve) then { e3 with oryxRejected := satAdd 32 e3.oryxRejected 1 }
    else e3
  { s with eng := e4 }

/-- An index burned without a released signature (**R219**). -/
def countBurned (r : Req) (st : Nat) (s : State) : State :=
  if r.index.isSome && st != stOk && st != stRetried then
    { s with eng := { s.eng with burned := s.eng.burned + 1 } } else s

/-- OK becomes OK_RETRIED after a re-execution (**R80**); a FWD request of a slice disabled here carries METER_SKIPPED
(**R320**). -/
def finalResult (r : Req) (x : Result) (s : State) : Result :=
  let y := match r.retried with
    | some (p, l) => if x.status = stOk then { x with status := stRetried, detail := 256 * p + l } else x
    | none => x
  match r.origin with
  | .peer _ _ => if r.admitted && !enabled s r.slice then { y with skipped := true } else y
  | _ => y

/-- A request ends with a result: charges, calls, contexts and approvals released, counters kept, and the
completion written or left to wait (**R72**, **R105**, **R148**). -/
def finish (rid : Nat) (x0 : Result) (s : State) : State :=
  match findReq s rid with
  | none => s
  | some r =>
    let x := finalResult r x0 s
    let ok := x.status == stOk || x.status == stRetried
    let s1 := if r.approvals then settleApprovals ok (opStatement r.desc r.slice r.input) s else s
    let s2 := parkAfter rid (clearContexts rid (dropWork r.work (dropCalls r.calls s1)))
    let s3 := deadlineCheck r (meterEnd r x (if x.forwarded then s2 else countBurned r x.status (countReleased r x.status s2)))
    let s4 := updReq rid (fun y => { y with
      phase := .waitWrite, result := some x, seqr := none, work := [], calls := [] }) s3
    let s5 := match r.origin with | .host q => if r.phase == .held then pauseCheck r.slice q s4 else s4 | _ => s4
    tryWrite rid s5

/-- A request ends with a status and DETAIL, without output. -/
def endReq (rid st detail : Nat) (s : State) : State := finish rid { status := st, detail := detail } s

-- Sequencers (R111, R112) ------------------------------------------------------------------------------------------------------

/-- Sequencer `l` can take work. -/
def seqFree (s : State) (l : Nat) : Bool :=
  let u := unitOf s 1 l
  l < enabledCount 1 && u.present && !u.parked && !u.parkDue && !seqBusy s l

/-- The sequencer serves PENNON and STREAMER too. -/
def seqShared (s : State) (l : Nat) : Bool := unitKind s 1 l != 0

/-- A command that creates, replaces or deletes stored state (**R302**). -/
def changesState (d : Desc) : Bool :=
  match catalogue d.code with
  | some c => (c.b == .fresh) || (c.b == .freshUnless && d.keyB != 0) || d.code == 0x0804 || d.code == 0x3105
  | none => false

/-- A request that a handover holds back (**R302**). -/
def handoverWaits (s : State) (r : Req) : Bool :=
  changesState r.desc && r.phase == .queued && handingOver s r.domain

/-- Landed requests that wait for a sequencer. -/
def waitingSeq (s : State) : List Req :=
  s.rqs.live.filter fun r => (r.phase == .queued || r.phase == .fwdQueued) && r.seqr.isNone && !handoverWaits s r

/-- The request of a list that landed first. -/
def firstLanded : List Req → Option Req
  | [] => none
  | r :: rest =>
    match firstLanded rest with
    | some x => if x.landAt < r.landAt then some x else some r
    | none => some r

/-- A sequencer takes a request: it executes it, or runs the forwarding microcode. -/
def assignSeq (l : Nat) (r : Req) (s : State) : State :=
  let p := poolOf r.desc
  let w := s.rqs.live.filter fun x => x.phase == .executing && poolOf x.desc == p
  let t := if r.isEnsign then s else arriveBusy p (clsOf r.desc) r.slice w s
  updReq r.rid (fun x => { x with seqr := some l, phase := if x.phase == .fwdQueued then .fwdQueued else .executing }) t

/-- The work that a free sequencer takes next: ENSIGN in landing order, then the others by **R112**. -/
def nextWork (s : State) (l : Nat) : Option Req :=
  let w := waitingSeq s
  match firstLanded (w.filter Req.isEnsign) with
  | some r => some r
  | none => if seqShared s l then nextShared s 1 w else none

/-- SEQUENCER_FREE (**R111**, **R112**): a sequencer that holds no request takes the next landed one. -/
def execSequencerFree (seqr : Nat) (s : State) : Res :=
  if !seqFree s seqr then .next s
  else
    match nextWork s seqr with
    | some r => .next (assignSeq seqr r s)
    | none => .next s

/-- An idle sequencer for a class: the lowest reserved one for ENSIGN, then the lowest shared one. -/
def idleSeq (s : State) (ens : Bool) : Option Nat :=
  let l := (List.range (enabledCount 1)).filter (seqFree s)
  match l.find? fun n => ens && !seqShared s n with
  | some n => some n
  | none => l.find? (seqShared s)

/-- A request that has just become ready takes an idle sequencer, where nothing waits before it. -/
def offerSeq (rid : Nat) (s : State) : State :=
  match findReq s rid with
  | none => s
  | some r =>
    match idleSeq s r.isEnsign with
    | some l => if handoverWaits s r then s else assignSeq l r s
    | none => s

/-- The held request that a sequencer dispatches: **R112** order, skipping what does not fit, but nothing later than
one that has waited 10 ms (**R309**). -/
def dispatchPick (s : State) : Nat → List Req → Option Req
  | 0, _ => none
  | k + 1, w =>
    match nextShared s 1 w with
    | none => none
    | some r =>
      if otherFits s r then some r
      else if r.heldAt + 10000000 ≤ s.mtime then none
      else dispatchPick s k (w.filter fun x => x.rid != r.rid)

/-- NON_ENSIGN_DISPATCH (**R309**): a free shared sequencer takes a held request and its input is read. -/
def execNonEnsignDispatch (seqr : Nat) (s : State) : Res :=
  let w := s.rqs.live.filter fun r => r.phase == .held
  if !seqFree s seqr || !seqShared s seqr || (waitingSeq s).any Req.isEnsign then .next s
  else
    match dispatchPick s w.length w with
    | none => .next s
    | some r =>
      if needsRead r.desc && !queueDma s then .next s
      else
        let t := updReq r.rid (fun x => { x with phase := .reading, seqr := some seqr }) s
        let u := if needsRead r.desc then emit (.read r.rid) t else t
        match r.origin with
        | .host q => .next (pauseCheck r.slice q u)
        | _ => .next u

-- Landing and admission (R71, R77, R105) ---------------------------------------------------------------------------------------

/-- A request came over the fabric. -/
def Req.viaFabric (r : Req) : Bool := match r.origin with | .host _ => false | _ => true
/-- A request came on a peer session. -/
def Req.viaPeer (r : Req) : Bool := match r.origin with | .peer _ _ => true | _ => false
/-- A request came through a tenant session. -/
def Req.viaTenant (r : Req) : Bool := match r.origin with | .tenant _ _ => true | _ => false

/-- DRBG calls that admission commits for an ENSIGN request (**R108**, **R244**): consumers 1 and 3. -/
def commitAll (d : Desc) (s : State) : List (Nat × Nat) × State :=
  let (c, b) := rngCalls d
  let (l1, s1) := commitCalls 1 c s
  let (l2, s2) := commitCalls 3 b s1
  (l1 ++ l2, s2)

/-- accept(q) of **R105**: work, calls and the token of an ENSIGN request, then its place at a sequencer. -/
def acceptReq (r : Req) (dom : Nat) (s : State) : State :=
  let s0 := meterIn r.slice (clsOf r.desc) r.desc.inLen.toNat s
  if r.isEnsign then
    let s1 := if r.desc.fwd then s0 else spendToken r.slice s0
    let w := chargeOf r.desc
    let (calls, s2) := commitAll r.desc (addWork w s1)
    let s3 := { s2 with adm := { s2.adm with admitted := satAdd 64 s2.adm.admitted 1 } }
    offerSeq r.rid (updReq r.rid (fun x => { x with phase := .queued, domain := dom, work := w, calls := calls }) s3)
  else
    let s1 := updReq r.rid (fun x => { x with phase := if x.seqr.isSome then .executing else .queued, domain := dom }) s0
    match r.seqr with
    | some _ =>
      if changesState r.desc && handingOver s1 dom then updReq r.rid (fun x => { x with phase := .queued, seqr := none }) s1
      else s1
    | none => offerSeq r.rid s1

/-- forward(q) of **R105**, **R110**: the request waits for the forwarding microcode. -/
def forwardReq (r : Req) (dom owner : Nat) (s : State) : State :=
  let w := if r.isEnsign then [(1, 300)] else []
  let s1 := addWork w (if r.isEnsign then spendToken r.slice s else s)
  let s2 := if r.isEnsign then { s1 with adm := { s1.adm with admitted := satAdd 64 s1.adm.admitted 1 } } else s1
  let s3 := updReq r.rid (fun x => { x with phase := .fwdQueued, domain := dom, owner := owner, work := w }) s2
  if r.seqr.isSome then s3 else offerSeq r.rid s3

/-- A request refused under **R105**. -/
def refuseReq (r : Req) (st detail : Nat) (s : State) : State :=
  endReq r.rid st detail (meterRefused r.slice (clsOf r.desc) (countRefusal st s))

/-- The landing of a request with its input (**R71**): the check of **R77**, then admission. -/
def landReq (rid : Nat) (input : Bytes) (s : State) : State :=
  match findReq s rid with
  | none => s
  | some r0 =>
    let inp := if r0.desc.inline then r0.desc.inlineBytes else input
    let r := { r0 with input := inp, landAt := s.mtime }
    let s1 := updReq rid (fun _ => r) s
    match descCheck r.viaFabric r.viaPeer r.desc inp with
    | some (st, detail) => endReq rid st detail s1
    | none =>
      let s2 := if armed s1 && !r.desc.fwd && r.desc.panSet && r.desc.namesKey && permits s1 r.slice (clsOf r.desc) then
          noteTrie (trieSearch s1.lku r.desc.panList).bad s1 else s1
      match admitTest s1 r.desc r.slice r.viaTenant with
      | .refuse st detail => refuseReq r st detail s2
      | .accept dom => acceptReq r dom s2
      | .forward dom owner => forwardReq r dom owner s2

/-- REQUEST_LAND (**R71**, **R77**): the input of a request whose read is outstanding; none where the read failed. -/
def execRequestLand (rid : Nat) (input : Option Bytes) (s : State) : Res :=
  match findReq s rid with
  | none => .next s
  | some r =>
    if r.phase != .reading then .next s
    else if !needsRead r.desc then .next (landReq rid [] s)
    else
      match input with
      | some b => .next (landReq rid (fit r.desc.inLen.toNat b) s)
      | none =>
        match descCheckLay r.viaFabric r.viaPeer r.desc {} with
        | some (st, d) => .next (endReq rid st d s)
        | none => .next (endReq rid stMalformed (malDetail 0x18 0x0B) s)

-- Forwarding (R91, R92, R293, R294) ----------------------------------------------------------------------------------------------

/-- The descriptor of a forwarded REQUEST (**R90**, **R91**). -/
def fwdDesc (r : Req) (tag : Nat) : Desc :=
  { r.desc with
    flags := (r.desc.flags ||| 8) &&& ~~~ 4, tag := BitVec.ofNat 32 tag, domain := BitVec.ofNat 16 r.domain
    slice := BitVec.ofNat 8 r.slice, inAddr := 0, inl2 := 0, outAddr := 0 }

/-- A forwarded request that its owner does not answer (**R294**). -/
def lostOwner (r : Req) (s : State) : State :=
  finish r.rid { status := stNotOwner, detail := r.domain, forwarded := true, skipped := true, node := r.owner }
    { s with fab := { s.fab with fwdLost := satAdd 32 s.fab.fwdLost 1 } }

/-- REQUEST_FORWARD (**R91**, **R110**, **R293**): the forwarding microcode runs and the REQUEST is sent. -/
def execRequestForward (rid : Nat) (s : State) : Res :=
  match findReq s rid with
  | none => .next s
  | some r =>
    if r.phase != .fwdQueued || r.seqr.isNone then .next s
    else if 65536 ≤ fwdInUse s then
      .next (updReq rid (fun x => { x with phase := .waitFwd, seqr := none }) s)
    else
      match sessionTo s r.owner with
      | none => .next (lostOwner r s)
      | some sess =>
        let tag := s.fab.nextFwd
        let t := dropWork r.work (parkAfter rid { s with fab := { s.fab with
          nextFwd := if tag + 1 = 2 ^ 32 then 1 else tag + 1, fwdSent := satAdd 64 s.fab.fwdSent 1 } })
        let u := updReq rid (fun x => { x with phase := .forwarded, seqr := none, work := [], fwdTag := tag }) t
        .next (sendMsg sess r.isEnsign
          { typ := 1, bytes := 64 + r.input.length, what := .request sess (fwdDesc r tag) r.input } u)

/-- A forwarding record is free: the request that has waited longest for one joins its queue again (**R293**). -/
def wakeForward (s : State) : State :=
  match s.rqs.live.find? fun r => r.phase == .waitFwd with
  | some r => offerSeq r.rid (updReq r.rid (fun x => { x with phase := .fwdQueued }) s)
  | none => s

end Sys2Proof.Machine
end

