-- ==== Sys2Proof/Machine/Commands.lean ====
section
/-! DEFINITION. What every request command shares at its sequencer: the fetch of key records and the key cache
(**R263**, **R358**, **R363**), new handles and their storing (**R265**, **R360**, **R508**), randomness (**R188**, **R244**),
detached operations (**R194**), and the order in which a command's checks are made. -/

namespace Sys2Proof.Machine

-- Key fetch (R75, R264, R359, R363) ---------------------------------------------------------------------------------------

/-- The keys of a command, as fetched. -/
structure Keys where
  /-- The record of KEY_A. -/
  a : Option KeyRec := none
  /-- The record of KEY_B, where it names a stored key. -/
  b : Option KeyRec := none
  deriving DecidableEq, Repr

/-- The outcome of one fetch. -/
inductive KeyGot where
  /-- The record, unwrapped. -/
  | ok (k : KeyRec) (s : State)
  /-- Status and DETAIL. -/
  | fail (st detail : Nat) (s : State)
  deriving DecidableEq, Repr

/-- Lines of a cached record. -/
def cachedLines (s : State) (e : Nat × Nat) : Nat :=
  match emFind s e.1 e.2 with
  | .bucket _ x => x.lines
  | .stash _ x => x.lines
  | _ => 0

/-- The cache entries that 16 MiB hold, most recent first. -/
def trimCache (s : State) : Nat → List (Nat × Nat) → List (Nat × Nat)
  | _, [] => []
  | left, e :: r =>
    let n := max 1 (cachedLines s e)
    if n ≤ left then e :: trimCache s (left - n) r else []

/-- The cached copy of a key discarded (**R363**). -/
def uncache (sl h : Nat) (s : State) : State :=
  { s with kvt := { s.kvt with cache := s.kvt.cache.filter (· != (sl, h)) } }

/-- A key becomes the most recently used of the cache (**R363**). -/
def cacheTouch (sl h : Nat) (s : State) : State :=
  { s with kvt := { s.kvt with
      cache := trimCache s 262144 ((sl, h) :: s.kvt.cache.filter (· != (sl, h))) } }

/-- The first uncorrectable line of a record. -/
def badLineOf (s : State) (line n large ln : Nat) : Option Nat :=
  s.mem.badLines.find? fun x => (line ≤ x && x < line + n) || (large ≤ x && x < large + ln)

/-- The record behind an exact-match entry, read into the key cache: uncorrectable lines, the colour check of the
sequencer's MPU (**R337**), and the tag (**R359**). -/
def loadRecord (r : Req) (which : Nat) (e : EmEntry) (s : State) : KeyGot :=
  let rec? := recordAt s e
  let (lg, ln) := match rec? with | some k => (k.largeRef, k.largeLines) | none => (0, 0)
  match badLineOf s e.record e.lines lg ln with
  | some x => .fail stMemory 0 (vaultUncorrectable x s)
  | none =>
    if lineColour s.mem (vaultLine0 + e.record) != sliceColour r.slice then
      let m := r.seqr.getD 0
      .fail stMpu m (mpuRefuse m 3 (sliceColour r.slice) (64 * (vaultLine0 + e.record)) s)
    else
      match rec? with
      | none => .fail stNotFound which s
      | some k =>
        if !k.tagOk then
          let t := logEvent 0x903 (BitVec.ofNat 8 r.slice :: leBytes 2 e.domain ++ leBytes 4 e.handle) s
          .fail stDevice (lastSeq t) t
        else .ok k (cacheTouch r.slice e.handle s)

/-- The fetch of a key handle: `which` 1 KEY_A, 2 KEY_B (**R75**, **R264**, **R363**). -/
def fetchKey (r : Req) (which h : Nat) (s : State) : KeyGot :=
  let use := fun (e : EmEntry) =>
    if e.domain ≠ r.domain then KeyGot.fail stNotFound which s
    else if s.kvt.cache.contains (r.slice, h) then
      match recordAt s e with
      | some k => .ok k (cacheTouch r.slice h { s with kvt := { s.kvt with hits := satAdd 64 s.kvt.hits 1 } })
      | none => .fail stNotFound which s
    else loadRecord r which e { s with kvt := { s.kvt with misses := satAdd 64 s.kvt.misses 1 } }
  match emFind s r.slice h with
  | .absent => .fail stNotFound which s
  | .memory => .fail stMemory 0 s
  | .bucket _ e => use e
  | .stash _ e => use e

/-- The keys that a command's row names. -/
def fetchKeys (c : CatRow) (r : Req) (s : State) : (Keys × State) ⊕ (Nat × Nat × State) :=
  let d := r.desc
  let wantA := c.a == .stored || (c.a == .inline && d.keyA != 0)
  let first : KeyGot ⊕ State := if wantA then .inl (fetchKey r 1 d.keyA.toNat s) else .inr s
  match first with
  | .inl (.fail st x t) => .inr (st, x, t)
  | .inl (.ok k t) =>
    if c.b == .stored then
      match fetchKey r 2 d.keyB.toNat t with
      | .ok k2 u => .inl ({ a := some k, b := some k2 }, u)
      | .fail st x u => .inr (st, x, u)
    else .inl ({ a := some k }, t)
  | .inr t =>
    if c.b == .stored then
      match fetchKey r 2 d.keyB.toNat t with
      | .ok k2 u => .inl ({ b := some k2 }, u)
      | .fail st x u => .inr (st, x, u)
    else .inl ({}, t)

/-- The handle that a command creates (**R77** 0x0C, **R258**): status and DETAIL where it cannot. -/
def freshFault (c : CatRow) (r : Req) (s : State) : Option (Nat × Nat) :=
  let h := r.desc.keyB.toNat
  if !(c.b == .fresh || (c.b == .freshUnless && h != 0)) then none
  else if (domainOf s r.domain).state = 0 then some (stNotFound, 2)
  else
    match emFind s r.slice h with
    | .absent => none
    | .memory => some (stMemory, 0)
    | _ => some (stMalformed, malDetail 0x0C 0x0C)

-- Usage (R138, R139) ------------------------------------------------------------------------------------------------------------

/-- KEY_USAGE with the handle and the kind: 1 usage, 2 mode, 3 algorithm, 4 exportability, 5 exhausted (**R80**). -/
def usageFail (which kind : Nat) : Option (Nat × Nat) := some (stUsage, 256 * which + kind)

/-- Usage of an attribute record. -/
def KeyRec.usage (k : KeyRec) : Bytes := bytesAt k.attrs 0 2
/-- Algorithm byte. -/
def KeyRec.alg (k : KeyRec) : Byte := (bytesAt k.attrs 2 1).headD 0
/-- Mode of use. -/
def KeyRec.mode (k : KeyRec) : Byte := (bytesAt k.attrs 3 1).headD 0
/-- Exportability. -/
def KeyRec.exportability (k : KeyRec) : Byte := (bytesAt k.attrs 6 1).headD 0
/-- Key context. -/
def KeyRec.context (k : KeyRec) : Byte := (bytesAt k.attrs 7 1).headD 0
/-- Length in bits, or the parameter code of an asymmetric record (**R181**). -/
def KeyRec.bits (k : KeyRec) : Nat := leNat (bytesAt k.attrs 8 2)
/-- Flags. -/
def KeyRec.flags (k : KeyRec) : Nat := leNat (bytesAt k.attrs 10 2)
/-- HMAC hash of an M7 record (**R137**). -/
def KeyRec.hash (k : KeyRec) : Nat := leNat (bytesAt k.attrs 14 1)

/-- ASCII code of a one-character string. -/
def chr (s : String) : Byte := (ascii s).headD 0

/-- A stored key has a usage and one of some modes. -/
def usageOk (which : Nat) (k : Option KeyRec) (usage modes : String) : Option (Nat × Nat) :=
  match k with
  | none => none
  | some k =>
    if k.usage != ascii usage then usageFail which 1
    else if !(ascii modes).contains k.mode then usageFail which 2
    else none

/-- The first failure of a list. -/
def firstFail : List (Option (Nat × Nat)) → Option (Nat × Nat)
  | [] => none
  | some x :: _ => some x
  | none :: r => firstFail r

/-- A failure where a test does not hold. -/
def require (ok : Bool) (fail : Option (Nat × Nat)) : Option (Nat × Nat) := if ok then none else fail

/-- The cipher of a symmetric record. -/
def KeyRec.cipher (k : KeyRec) : Cipher := { aes := k.alg == chr "A", key := k.material }

-- Answers -----------------------------------------------------------------------------------------------------------------------

/-- What a command's calculation answers. -/
structure Answer where
  /-- Status. -/
  status : Nat := 0
  /-- DETAIL. -/
  detail : Nat := 0
  /-- Output bytes. -/
  output : Bytes := []
  /-- The key record to store under KEY_B. -/
  store : Option KeyRec := none
  /-- The completion waits for the commit of a change of this handle (**R360**). -/
  wait : Option Nat := none
  /-- The completion waits for the slice's ring entry of this sequence (**R321**). -/
  ring : Option Nat := none
  /-- Issue slots and digest steps made: (0 AES, 1 TDEA, 2 compressions, 3 permutations; count). -/
  ops : List (Nat × Nat) := []
  deriving DecidableEq, Repr

/-- An answer of OK with output. -/
def okOut (b : Bytes) : Answer := { output := b }

/-- An answer OK or VERIFY_FAILED. -/
def verdict (b : Bool) : Answer := if b then {} else { status := stVerify }

/-- Checks that a command makes on its keys and input before it draws randomness. -/
abbrev Pre := State → Req → Keys → Option (Nat × Nat)

/-- A command's calculation: the last argument is the number of its first free value. -/
abbrev Calc := State → Req → Keys → Nat → Answer × State

-- Storing a new record (R265, R360, R508) -------------------------------------------------------------------------------------------

/-- Bytes of a record in the flash key store (**R360**). -/
def KeyRec.storeBytes (k : KeyRec) : Nat := 64 * (k.lines + k.largeLines)

/-- Bytes of the flash key store in use: records, pending changes and 64-byte domain key sets. -/
def storeUsed (s : State) : Nat :=
  s.kvt.store.foldl (fun n k => n + k.storeBytes) 0 + 64 * s.kvt.storeDomains.length +
  s.kvt.storePending.foldl (fun n o => match o with | .put k => n + k.storeBytes | _ => n) 0

/-- A record persists: not VOLATILE, in a LOCAL domain, and the module's own change (**R360**). -/
def persists (s : State) (k : KeyRec) : Bool := !k.vol && (domainOf s k.domain).state == 1

/-- KEYSTORE_FULL (**R360**). -/
def keystoreFull (dom : Nat) (s : State) : State :=
  let t := logEvent 0x904 (leBytes 2 dom) { s with kvt := { s.kvt with storeFull := true } }
  if s.kvt.storeFull then t else raise 13 t

/-- A final change of a domain's records enters its next delta (**R295**, **R298**). -/
def noteChange (put : Bool) (dom sl h : Nat) (s : State) : State :=
  if standalone s || !(domainOf s dom).sby then s
  else
    { s with fab := { s.fab with own := tupd s.fab.own dom {} (fun o =>
        if put then { o with pendingPut := o.pendingPut.filter (· != (sl, h)) ++ [(sl, h)], pendingDel := o.pendingDel.filter (· != (sl, h)) }
        else { o with pendingPut := o.pendingPut.filter (· != (sl, h)), pendingDel := o.pendingDel.filter (· != (sl, h)) ++ [(sl, h)] }) } }

/-- A provisional change held for the entry module of a peer request (**R295**). -/
def provisional (r : Req) (created : Bool) (e : EmEntry) (k : KeyRec) (s : State) : State :=
  match r.origin with
  | .peer sess _ =>
    let node := match session? s sess with | some x => x.node.getD 0xFFFF | none => 0xFFFF
    { s with fab := { s.fab with prov := s.fab.prov ++
        [{ node := node, session := sess, rid := r.rid, created := created, entry := e, record := k }] } }
  | _ => s

/-- Bytes that a record keeps in the large-public-key region: a Classic McEliece public key (**R222**), or the stored
nodes of a stateful key (**R217**; HSS and XMSS^MT keep a top tree, a bottom tree and the next one, log entry 33). -/
def KeyRec.largeBytes (k : KeyRec) : Nat :=
  if k.typ = 4 then
    let nodes := fun (h l : Nat) => 2 ^ (h - l + 1) - 1
    32 * [nodes 10 6, nodes 15 6, nodes 20 6, nodes 25 6, nodes 20 3, 3 * nodes 10 6].getD (k.bits - 1)
      ([nodes 10 3, nodes 16 3, nodes 20 3, 3 * nodes 10 3, 3 * nodes 20 3].getD (k.bits - 7) 0)
  else if k.alg = 0x4D then k.pub.length else 0

/-- A new record written to vault memory with its exact-match entry: status and DETAIL where it fails, else the state
and whether the completion waits for the store's commit. -/
def storeKey (r : Req) (k0 : KeyRec) (s : State) : (Bool × State) ⊕ (Nat × Nat × State) :=
  let k1 := { k0 with handle := r.desc.keyB.toNat, slice := r.slice, domain := r.domain, stamp := s.mtime, prov := r.viaPeer }
  match freshFault { b := .fresh } r s with
  | some (st, d) => .inr (st, d, s)
  | none =>
    match placeRecord k1 k1.largeBytes s with
    | .inr (.record n) => .inr (stFull, 0, logEvent 0x607 (BitVec.ofNat 8 r.slice :: leBytes 4 n) s)
    | .inr (.large n) => .inr (stFull, 0, logEvent 0x606 (BitVec.ofNat 8 r.slice :: leBytes 4 n) s)
    | .inl (line, k) =>
      if persists s k && 224 * 1048576 < storeUsed s + k.storeBytes then .inr (stFull, 0, keystoreFull r.domain s)
      else
        match emInsert (entryFor k line) s with
        | (0, t) =>
          let u := { t with kvt := { t.kvt with records := tset t.kvt.records line k }, mem := colourRecord k line t.mem }
          if r.viaPeer then .inl (false, provisional r true (entryFor k line) k u)
          else
            let v := noteChange true r.domain r.slice k.handle u
            if persists s k then
              .inl (true, { v with kvt := { v.kvt with storePending := v.kvt.storePending ++ [.put k] } })
            else .inl (false, v)
        | (1, t) => .inr (stMalformed, malDetail 0x0C 0x0C, t)
        | (8, t) => .inr (stMemory, 0, t)
        | (_, t) => .inr (stFull, 0, t)

/-- A request's change waits for the store's commit (**R360**). -/
def awaitCommit (r : Req) (h : Nat) (x : Result) (s : State) : State :=
  updReq r.rid (fun y => { y with phase := .waitCommit, seqr := none, result := some x, change := some (r.slice, h) })
    (clearContexts r.rid s)

/-- The end of a command: a new record stored first, then the completion (**R82**, **R360**). -/
def conclude (r : Req) (a : Answer) (s : State) : State :=
  match a.store, (if a.ring.isSome then none else a.wait) with
  | none, some h => awaitCommit r h { status := a.status, detail := a.detail, output := a.output } s
  | none, none =>
    match a.ring with
    | some q => clearContexts r.rid (updReq r.rid (fun y => { y with
        phase := .waitLatch, seqr := none, latchSeq := q, result := some { output := a.output } }) s)
    | none => finish r.rid { status := a.status, detail := a.detail, output := a.output } s
  | some k, _ =>
    if a.status ≠ stOk then finish r.rid { status := a.status, detail := a.detail } s
    else
      match storeKey r k s with
      | .inr (st, d, t) => finish r.rid { status := st, detail := d } t
      | .inl (true, t) => awaitCommit r r.desc.keyB.toNat { output := a.output } t
      | .inl (false, t) =>
        finish r.rid { output := a.output } (updReq r.rid (fun y => { y with change := some (r.slice, r.desc.keyB.toNat) }) t)

-- Sizes and cycles (R113, R191, R194) -------------------------------------------------------------------------------------------------

/-- Words of an RSA record: the length field in bits ÷ 64. -/
def KeyRec.words (k : KeyRec) : Nat := (k.bits + 63) / 64

/-- The modulus size that decides whether an RSA command is dedicated-only (**R113**). -/
def rsaWords (r : Req) (k : Keys) : Nat :=
  match k.a with
  | some x => x.words
  | none => leNat (bytesAt r.input 0 2)

/-- An operation on an RSA key above 4,096 bits (**R37**, **R113**). -/
def bigRsa (r : Req) (k : Keys) : Bool :=
  [0x2001, 0x2002, 0x2003, 0x2004, 0x200C, 0x200D].contains r.desc.code && 64 < rsaWords r k

/-- The refusal of **R113** that the sequencer gives once it has read the size. -/
def sizeFault (s : State) (r : Req) (k : Keys) : Option (Nat × Nat) :=
  if !bigRsa r k then none
  else if clsOf r.desc != .streamer then some (stMalformed, malDetail 0x02 3)
  else if dedicatedPresent s 5 = 0 then some (stCapacity, 5)
  else none

/-- M(w) of **R171**. -/
def montCycles (w : Nat) : Nat := max 8 (w * w / 2)

/-- Parameter code of the command: P0 of a key generation or inline key, else the stored record's. -/
def paramOf (r : Req) (k : Keys) : Nat :=
  match k.a with
  | some x => x.bits
  | none => r.desc.q % 16

/-- The cycle bound that decides whether a PENNON or STREAMER operation detaches (**R194**): pools 5-7. -/
def boundOf (r : Req) (k : Keys) : Nat :=
  let p := paramOf r k
  let row := (64 * rsaWords r k + 511) / 512
  match r.desc.code with
  | 0x2001 | 0x2003 => (rsaCycles row).1
  | 0x2002 | 0x2004 => (rsaCycles row).2
  | 0x2006 | 0x2008 => (curveCycles p).2.1
  | 0x2007 | 0x2009 => (curveCycles p).2.2.1
  | 0x200A => (curveCycles p).2.2.2
  | 0x200C =>
    let w := leNat (bytesAt r.input 0 2)
    600 + 24 * w + (80 * leNat (bytesAt r.input 2 2) + 16) * montCycles w
  | 0x200D => let w := leNat (bytesAt r.input 0 2); 600 + 24 * w + 3 * montCycles w
  | 0x0807 | 0x3805 => 2538800
  | 0x3002 => (kemCycles p).2.1
  | 0x3003 => (kemCycles p).2.2
  | 0x3005 => (dsaCycles p).2.1
  | 0x3006 => (dsaCycles p).2.2
  | 0x3202 => (hqcCycles p).2.1
  | 0x3203 => (hqcCycles p).2.2
  | 0x3205 | 0x3206 => mceCycles p
  | 0x3802 => 160000
  | 0x3803 => 80000
  | 0x3806 => 160000
  | _ => 0

/-- The lowest unit of a pool that can take a PENNON or STREAMER operation now: dedicated-only operations on
dedicated units. -/
def freeUnit (s : State) (p : Nat) (dedicated : Bool) : Option Nat :=
  (List.range (enabledCount p)).find? fun l =>
    let u := unitOf s p l
    u.present && !u.parked && !u.parkDue && !u.kat && u.ctx1.isNone && (!dedicated || unitKind s p l == 2)

/-- A unit holds the request in a context. -/
def holdsReq (s : State) (p rid : Nat) : Bool :=
  s.eng.units.any fun e => e.1 / 256 == p && (e.2.ctx0 == some rid || e.2.ctx1 == some rid)

/-- A context for a detached operation, where none holds it yet (**R194**). -/
def takeContext (r : Req) (dedicated : Bool) (s : State) : State :=
  let p := poolOf r.desc
  if holdsReq s p r.rid then s
  else
    match freeUnit s p dedicated with
    | some l => updUnit p l (fun u => { u with ctx1 := some r.rid, clock := true }) s
    | none => s

/-- The operation detaches its sequencer, and its result waits in the unit (**R194**). -/
def detach (r : Req) (k : Keys) (a : Answer) (s : State) : State :=
  let ded := bigRsa r k || (dedicatedOnly r.desc).isSome
  takeContext r ded (updReq r.rid (fun y => { y with
    phase := .detached, seqr := none
    result := some { status := a.status, detail := a.detail, output := a.output, store := a.store } }) s)

-- Running a command ------------------------------------------------------------------------------------------------------------------------

/-- Free values that one command may use. -/
def drawsPerCommand : Nat := 16

/-- What randomness a command finds (**R188**, **R244**). -/
inductive Rng where
  /-- The calls were made. -/
  | go (s : State)
  /-- It waits for blinding bytes. -/
  | blind
  /-- It waits for a consumer-2 instance. -/
  | wait
  /-- No reseed can end the wait. -/
  | fault
  deriving DecidableEq, Repr

/-- The DRBG calls of a command that is about to start. -/
def drawCalls (r : Req) (s : State) : Rng :=
  let (c, b) := rngCalls r.desc
  if r.isEnsign then .go (updReq r.rid (fun x => { x with calls := [] }) (makeCalls r.calls s))
  else if b ≠ 0 ∧ (blockedInst s 3).isSome then .blind
  else
    match rrCalls 2 c s with
    | none => if s.ent.sourceFail then .fault else .wait
    | some t =>
      match rrCalls 3 b t with
      | none => .blind
      | some u => .go u

/-- Issue slots and digest steps counted (**R169**). -/
def countOps (l : List (Nat × Nat)) (s : State) : State :=
  l.foldl (fun t e =>
    let g := t.eng
    { t with eng :=
        if e.1 = 0 then { g with aesBlocks := satAdd 64 g.aesBlocks e.2 }
        else if e.1 = 1 then { g with tdeaBlocks := satAdd 64 g.tdeaBlocks e.2 }
        else if e.1 = 2 then { g with digestComp := satAdd 64 g.digestComp e.2 }
        else { g with keccakPerm := satAdd 64 g.keccakPerm e.2 } }) s

/-- The calculation run, its free values counted, and its end: detached, or concluded here.  An output longer than
OUT_CAP is refused and leaves no effect (**R77** 0x07 for what only the key record shows). -/
def runCalc (f : Calc) (r : Req) (k : Keys) (s : State) : State :=
  let n := s.freeCtr
  let s0 := { s with freeCtr := n + drawsPerCommand }
  let (a, t0) := f s0 r k n
  let t := countOps a.ops t0
  if r.desc.outCap.toNat < a.output.length then endReq r.rid stMalformed (malDetail 0x30 7) s0
  else if !r.isEnsign && a.status = stOk && detaches r.desc (boundOf r k) then detach r k a t else conclude r a t

/-- A command after its keys are fetched: usage, sizes, randomness, calculation. -/
def runKeyed (pre : Pre) (f : Calc) (r : Req) (k : Keys) (s : State) : State :=
  match pre s r k with
  | some (st, d) => endReq r.rid st d s
  | none =>
    match sizeFault s r k with
    | some (st, d) => endReq r.rid st d s
    | none =>
      match drawCalls r s with
      | .go t => runCalc f r k t
      | .blind => updReq r.rid (fun x => { x with phase := .blindWait, seqr := none }) s
      | .wait => updReq r.rid (fun x => { x with phase := .rngWait, seqr := none, drbgWait := true }) s
      | .fault => endReq r.rid stDevice (lastSeq s) s

/-- A request at its sequencer: a scratchpad error (**R332**), the key fetch, the new handle (KEY_IMPORT
tests it last, **R142**), then the command. -/
def runReq (pre : Pre) (f : Calc) (r : Req) (spUe : Option Nat) (s : State) : State :=
  match spUe, catalogue r.desc.code with
  | some w, _ => endReq r.rid stMemory 0 (spUncorrectable w s)
  | none, none => endReq r.rid stUnknown 0 s
  | none, some c =>
    match fetchKeys c r s with
    | .inr (st, d, t) => endReq r.rid st d t
    | .inl (k, t) =>
      match (if r.desc.code = 0x0801 then none else freshFault c r t) with
      | some (st, d) => endReq r.rid st d t
      | none => runKeyed pre f r k t

/-- A request command's row: the request of this number executes at a sequencer and carries this code. -/
def runCmd (code : Nat) (pre : Pre) (f : Calc) (rid : Nat) (spUe : Option Nat) (s : State) : Res :=
  match findReq s rid with
  | none => .next s
  | some r =>
    if r.phase == .executing && r.seqr.isSome && r.desc.code == code then .next (runReq pre f r spUe s) else .next s

/-- A calculation that keeps the state. -/
def pureCalc (f : Req → Keys → Nat → Answer) : Calc := fun s r k n => (f r k n, s)

-- Waits and tasks --------------------------------------------------------------------------------------------------------------------------

/-- A request that waited joins its queue again, and takes an idle sequencer. -/
def requeue (rid : Nat) (s : State) : State :=
  offerSeq rid (updReq rid (fun x => { x with phase := .queued, seqr := none }) s)

/-- BLIND_WAIT_RESUME (**R188**): consumer 3 serves again. -/
def execBlindWaitResume (s : State) : Res :=
  match s.rqs.live.find? fun r => r.phase == .blindWait with
  | some r => if (blockedInst s 3).isNone then .next (requeue r.rid s) else .next s
  | none => .next s

/-- RNG_WAIT_RESUME (**R244**): a consumer-2 instance can serve again; under SOURCE_FAIL the command ends at once. -/
def execRngWaitResume (s : State) : Res :=
  match s.rqs.live.find? fun r => r.phase == .rngWait with
  | some r =>
    if (rrInst s 2).isSome then .next (requeue r.rid s)
    else if s.ent.sourceFail then .next (endReq r.rid stDevice (lastSeq s) s)
    else .next s
  | none => .next s

/-- CORE_COMPLETION_INTERRUPT (**R194**): the unit's detached operation is done; its completion task is queued. -/
def execCoreCompletionInterrupt (pool : Nat) (unit : Nat) (s : State) : Res :=
  match (tget? s.eng.units (256 * pool + unit)).bind (·.ctx1) with
  | none => .next s
  | some rid =>
    match findReq s rid with
    | some r =>
      if r.phase == .detached then
        let t := updReq rid (fun x => { x with phase := .releaseQueued }) s
        .next { t with eng := { t.eng with tasks := t.eng.tasks ++ [rid] } }
      else .next s
    | none => .next s

/-- RELEASE_STEP (**R194**): a free sequencer that serves the class takes the oldest completion task. -/
def execReleaseStep (seqr : Nat) (s : State) : Res :=
  if !seqFree s seqr || !seqShared s seqr then .next s
  else
    match s.eng.tasks with
    | [] => .next s
    | rid :: rest =>
      let t := { s with eng := { s.eng with tasks := rest } }
      match findReq t rid with
      | some r =>
        match r.result with
        | some x => .next (conclude r { status := x.status, detail := x.detail, output := x.output, store := x.store } t)
        | none => .next t
      | none => .next t

end Sys2Proof.Machine
end

