-- ==== Sys2Proof/Machine/Payment.lean ====
section
/-! DEFINITION. Payment functions: the confirmation of keys (**R119**), PIN blocks and their translation and
verification (**R117**-**R127**), card verification values (**R128**), EMV cryptograms (**R129**-**R132**) and MACs (**R133**). -/

namespace Sys2Proof.Machine

-- Usage and confirmation (R117, R119, R138) --------------------------------------------------------------------------------

/-- A stored key's usage, mode, algorithm and, where the list is not empty, its length in bytes. -/
def needKey (which : Nat) (k : Option KeyRec) (usage modes algs : String) (lens : List Nat) : Option (Nat × Nat) :=
  match k with
  | none => none
  | some x =>
    if x.usage != ascii usage then usageFail which 1
    else if !(ascii modes).contains x.mode then usageFail which 2
    else if (ascii algs).contains x.alg && (lens.isEmpty || lens.contains x.material.length) then none
    else usageFail which 3

/-- The confirmation block of key material (**R358**): AES 16 bytes, TDEA 8 bytes and 8 zeros, others zero. -/
def confirmOf (alg : Byte) (key : Bytes) : Bytes :=
  if alg = 0x41 then aesEnc key (List.replicate 16 0)
  else if alg = 0x54 then fit 16 (tdeaEnc key (List.replicate 8 0))
  else List.replicate 16 0

/-- The lane's block under the key equals the record's confirmation value (**R119**). -/
def KeyRec.confirmed (k : KeyRec) : Bool := confirmOf k.alg k.material == k.confirm

/-- Issue slots of the lane that a cipher uses. -/
def laneOps (aes : Bool) (n : Nat) : List (Nat × Nat) := [(if aes then 0 else 1, n)]

/-- A key is AES. -/
def KeyRec.isAes (k : KeyRec) : Bool := k.alg == 0x41

/-- KEY_CHECK_MISMATCH (**R119**, **R167**): the record, the discarded copy, and the test due after a second mismatch
on one lane within 100 ms. The lane is a free choice (log entry 7). -/
def checkMismatch (r : Req) (k : KeyRec) (n : Nat) (s : State) : State :=
  let p := if k.isAes then 2 else 3
  let lane := Config.freeNat n % max 1 (enabledCount p)
  let again := match (unitOf s p lane).lastMismatch with | some m => decide (s.mtime < m + 100000000) | none => false
  let t := updUnit p lane (fun u => { u with lastMismatch := some s.mtime, kat := u.kat || again }) s
  logEvent 0x603 (BitVec.ofNat 8 r.slice :: leBytes 4 k.handle ++ [BitVec.ofNat 8 lane]) (uncache r.slice k.handle t)

/-- A calculation of groups 0x01-0x05, after the confirmation of its keys (**R119**, **R122**). -/
def withConfirm (f : Calc) : Calc := fun s r k n =>
  let ok := fun (x : Option KeyRec) => match x with | some y => y.confirmed | none => true
  let slots := fun (x : Option KeyRec) => match x with | some y => laneOps y.isAes 1 | none => []
  if !ok k.a then
    let t := checkMismatch r (k.a.getD {}) n s
    ({ status := stDevice, detail := lastSeq t, ops := slots k.a }, t)
  else if !ok k.b then
    let t := checkMismatch r (k.b.getD {}) n s
    ({ status := stDevice, detail := lastSeq t, ops := slots k.a ++ slots k.b }, t)
  else
    let (a, t) := f s r k n
    ({ a with ops := slots k.a ++ slots k.b ++ a.ops }, t)

/-- The material of a fetched key. -/
def matOf (k : Option KeyRec) : Bytes := match k with | some x => x.material | none => []

/-- Whether a fetched key is AES. -/
def aesOf (k : Option KeyRec) : Bool := match k with | some x => x.isAes | none => true

-- PIN blocks (R117, R118) -----------------------------------------------------------------------------------------------------

/-- The PAN field of a format. -/
def panField (f : Nat) (pan : List Nat) : Bytes :=
  if f = 4 then packNibbles (((pan.length - 12) :: pan ++ List.replicate 32 0).take 32)
  else if f = 1 then List.replicate 8 0
  else
    let body := pan.dropLast
    let right := body.drop (body.length - 12)
    packNibbles (List.replicate (16 - right.length) 0 ++ right)

/-- The plain PIN field of a format with its random bytes. -/
def pinField (f : Nat) (pin : List Nat) (rnd : Bytes) : Bytes :=
  let fill := 14 - pin.length
  let head := f :: pin.length :: pin
  if f = 0 then packNibbles (head ++ List.replicate fill 15)
  else if f = 1 then packNibbles (head ++ (nibbles rnd).take fill)
  else if f = 3 then packNibbles (head ++ (rnd.take fill).map fun b => 10 + b.toNat % 6)
  else packNibbles (head ++ List.replicate fill 10) ++ rnd.take 8

/-- Encoding of a PIN block under a key (**R117**). -/
def pinEncode (f : Nat) (key : Bytes) (pan pin : List Nat) (rnd : Bytes) : Bytes :=
  let x := pinField f pin rnd
  if f = 4 then aesEnc key (xorBytes (aesEnc key x) (panField 4 pan)) else tdeaEnc key (xorBytes x (panField f pan))

/-- Decoding of a PIN block (**R118**): its digits, if every check passes. -/
def pinDecode (f : Nat) (key : Bytes) (pan : List Nat) (block : Bytes) : Option (List Nat) :=
  let x := if f = 4 then aesDec key (xorBytes (aesDec key block) (panField 4 pan))
    else xorBytes (tdeaDec key block) (panField f pan)
  let ns := nibbles x
  let n := ns.getD 1 0
  let pin := (ns.drop 2).take n
  let fill := (ns.take 16).drop (2 + n)
  let fillOk := match f with
    | 0 => fill.all (· == 15)
    | 3 => fill.all (10 ≤ ·)
    | 4 => fill.all (· == 10)
    | _ => true
  if ns.getD 0 99 == f && 4 ≤ n && n ≤ 12 && pin.all (· ≤ 9) && fillOk then some pin else none

/-- Lane operations of a decode or an encode (**R117**). -/
def pinOps (f : Nat) : List (Nat × Nat) := if f = 4 then [(0, 2)] else [(1, 1)]

/-- Algorithm letter of a PIN format. -/
def pinAlg (f : Nat) : String := if f = 4 then "A" else "T"

/-- Input and output PIN formats of P0. -/
def finOf (r : Req) : Nat := r.desc.p % 16
/-- Output or reference format. -/
def foutOf (r : Req) : Nat := r.desc.p / 16 % 16

/-- The PIN of KEY_A's block, first in the input. -/
def inputPin (r : Req) (k : Keys) : Option (List Nat) :=
  pinDecode (finOf r) (matOf k.a) r.desc.panList (r.input.take (pinLen (finOf r)))

/-- Digits and values of 16 nibbles by decimalisation (**R124** steps 3-5). -/
def decimalise (block : Bytes) (n : Nat) : List Nat :=
  let ns := nibbles block
  ((ns.filter (· ≤ 9)) ++ (ns.filter (10 ≤ ·)).map (· - 10)).take n

/-- The PIN verification value (**R124**). -/
def pvv (key : Bytes) (pan pin : List Nat) (pvki : Nat) : List Nat :=
  let body := pan.dropLast
  decimalise (tdeaEnc key (packNibbles (body.drop (body.length - 11) ++ [pvki] ++ pin.take 4))) 4

/-- The natural PIN of `n` digits (**R125**). -/
def naturalPin (key table vdata : Bytes) (n : Nat) : List Nat :=
  ((nibbles (tdeaEnc key vdata)).map fun x => (table.getD x 0).toNat).take n

/-- Checks of a group 0x01 command: KEY_A a P0 key of the input format. -/
def prePin (usageB modesB : String) (two : Bool) : Pre := fun _ r k => firstFail [
  needKey 1 k.a "P0" "DB" (pinAlg (finOf r)) [],
  if two then needKey 2 k.b usageB modesB (pinAlg (foutOf r)) [] else needKey 2 k.b usageB modesB "T" [16]]

/-- PIN_TRANSLATE (**R121**, **R122**). -/
def calcTranslate : Calc := withConfirm (pureCalc fun r k n =>
  match inputPin r k with
  | none => { status := stVerify, ops := pinOps (finOf r) }
  | some pin =>
    { output := pinEncode (foutOf r) (matOf k.b) r.desc.panList pin (freeBytes n 16), ops := pinOps (finOf r) ++ pinOps (foutOf r) })

/-- PIN_TRANSLATE. -/
def execPinTranslate (rid : Nat) (spUe : Option Nat) (s : State) : Res :=
  runCmd 0x0101 (prePin "P0" "EB" true) calcTranslate rid spUe s

/-- PIN_VERIFY_PVV (**R124**). -/
def execPinVerifyPvv (rid : Nat) (spUe : Option Nat) (s : State) : Res :=
  runCmd 0x0102 (prePin "V2" "VC" false) (withConfirm (pureCalc fun r k _ =>
    let o := pinLen (finOf r)
    match inputPin r k with
    | none => { status := stVerify, ops := pinOps (finOf r) }
    | some pin =>
      { verdict (pvv (matOf k.b) r.desc.panList pin ((bytesAt r.input o 1).headD 0).toNat == nibbles (bytesAt r.input (o + 1) 2)) with
        ops := pinOps (finOf r) ++ [(1, 1)] })) rid spUe s

/-- PIN_VERIFY_OFFSET (**R125**). -/
def execPinVerifyOffset (rid : Nat) (spUe : Option Nat) (s : State) : Res :=
  runCmd 0x0103 (prePin "V1" "VC" false) (withConfirm (pureCalc fun r k _ =>
    let o := pinLen (finOf r)
    let off := (nibbles (bytesAt r.input o 6)).takeWhile (· ≤ 9)
    match inputPin r k with
    | none => { status := stVerify, ops := pinOps (finOf r) }
    | some pin =>
      let nat := naturalPin (matOf k.b) (bytesAt r.input (o + 6) 16) (bytesAt r.input (o + 22) 8) pin.length
      { verdict (off.length == pin.length && List.zipWith (fun a b => (a + b) % 10) nat off == pin) with
        ops := pinOps (finOf r) ++ [(1, 1)] })) rid spUe s

/-- PIN_VERIFY_COMPARE (**R126**). -/
def execPinVerifyCompare (rid : Nat) (spUe : Option Nat) (s : State) : Res :=
  runCmd 0x0104 (prePin "P0" "DB" true) (withConfirm (pureCalc fun r k _ =>
    let ref := pinDecode (foutOf r) (matOf k.b) r.desc.panList (bytesAt r.input (pinLen (finOf r)) (pinLen (foutOf r)))
    { verdict (match inputPin r k, ref with | some a, some b => a == b | _, _ => false) with
      ops := pinOps (finOf r) ++ pinOps (foutOf r) })) rid spUe s

/-- PVV_GENERATE (**R124**). -/
def execPvvGenerate (rid : Nat) (spUe : Option Nat) (s : State) : Res :=
  runCmd 0x0105 (prePin "V2" "GC" false) (withConfirm (pureCalc fun r k _ =>
    match inputPin r k with
    | none => { status := stVerify, ops := pinOps (finOf r) }
    | some pin =>
      { output := packNibbles (pvv (matOf k.b) r.desc.panList pin ((bytesAt r.input (pinLen (finOf r)) 1).headD 0).toNat)
        ops := pinOps (finOf r) ++ [(1, 1)] })) rid spUe s

/-- OFFSET_GENERATE (**R125**). -/
def execOffsetGenerate (rid : Nat) (spUe : Option Nat) (s : State) : Res :=
  runCmd 0x0106 (prePin "V1" "GC" false) (withConfirm (pureCalc fun r k _ =>
    let o := pinLen (finOf r)
    match inputPin r k with
    | none => { status := stVerify, ops := pinOps (finOf r) }
    | some pin =>
      let nat := naturalPin (matOf k.b) (bytesAt r.input o 16) (bytesAt r.input (o + 16) 8) pin.length
      let off := List.zipWith (fun p q => (p + 10 - q) % 10) pin nat
      { output := packNibbles (off ++ List.replicate (12 - off.length) 15), ops := pinOps (finOf r) ++ [(1, 1)] })) rid spUe s

-- Card verification values (R128) -----------------------------------------------------------------------------------------------

/-- The card verification value of `n` digits (**R128**). -/
def cvv (key : Bytes) (pan expiry service : List Nat) (n : Nat) : List Nat :=
  let d := packNibbles ((pan ++ expiry ++ service ++ List.replicate 32 0).take 32)
  let ka := key.take 8
  let r := xorBytes (desEnc ka (d.take 8)) (d.drop 8)
  decimalise (desEnc ka (desDec (key.drop 8) (desEnc ka r))) n

/-- Checks of a group 0x02 command. -/
def preCvv (modes : String) : Pre := fun _ _ k => needKey 1 k.a "C0" modes "T" [16]

/-- CVV_VERIFY (**R128**). -/
def execCvvVerify (rid : Nat) (spUe : Option Nat) (s : State) : Res :=
  runCmd 0x0201 (preCvv "VC") (withConfirm (pureCalc fun r k _ =>
    let v := (nibbles (bytesAt r.input 4 3)).takeWhile (· ≤ 9)
    { verdict (cvv (matOf k.a) r.desc.panList (nibbles (bytesAt r.input 0 2)) ((nibbles (bytesAt r.input 2 2)).take 3) v.length == v) with
      ops := [(1, 2)] })) rid spUe s

/-- CVV_GENERATE (**R128**). -/
def execCvvGenerate (rid : Nat) (spUe : Option Nat) (s : State) : Res :=
  runCmd 0x0202 (preCvv "GC") (withConfirm (pureCalc fun r k _ =>
    let v := cvv (matOf k.a) r.desc.panList (nibbles (bytesAt r.input 0 2)) ((nibbles (bytesAt r.input 2 2)).take 3) (r.desc.p % 16)
    { output := packNibbles (v ++ List.replicate (6 - v.length) 15), ops := [(1, 2)] })) rid spUe s

-- EMV (R129-R132) --------------------------------------------------------------------------------------------------------------

/-- Odd DES parity of the two keys derived. -/
def emvPair (e : Bytes → Bytes) (y z : Bytes) (len : Nat) : Bytes := (e y ++ e z).take len

/-- The ICC master key (**R129**): TDEA by step 2, AES by EMV Book 2 A1.4.3. -/
def emvMaster (aes : Bool) (imk : Bytes) (pan psn : List Nat) : Bytes :=
  let ds := pan ++ psn
  let ff := fun (l : Bytes) => l.map fun b => ~~~ b
  if aes then
    let y := packNibbles (List.replicate (32 - ds.length) 0 ++ ds)
    emvPair (aesEnc imk) y (ff y) imk.length
  else
    let t := ds.drop (ds.length - 16)
    let y := packNibbles (List.replicate (16 - t.length) 0 ++ t)
    oddParity (emvPair (tdeaEnc imk) y (ff y) 16)

/-- The session key (**R129** step 3; AES by EMV Book 2 A1.3.1). -/
def emvSession (aes : Bool) (mk atc : Bytes) : Bytes :=
  if aes then
    if mk.length = 16 then aesEnc mk (fit 16 atc)
    else emvPair (aesEnc mk) (fit 16 (atc ++ [0xF0])) (fit 16 (atc ++ [0x0F])) mk.length
  else emvPair (tdeaEnc mk) (fit 8 (atc ++ [0xF0])) (fit 8 (atc ++ [0x0F])) 16

/-- The session key of a command: PSN at 0, ATC at 1. -/
def emvKey (r : Req) (k : Keys) : Bytes :=
  emvSession (aesOf k.a) (emvMaster (aesOf k.a) (matOf k.a) r.desc.panList (nibbles (bytesAt r.input 0 1))) (bytesAt r.input 1 2)

/-- The method's MAC, 8 bytes: algorithm 3 with padding method 2, or AES-CMAC. -/
def emvMac (aes : Bool) (sk m : Bytes) : Bytes :=
  if aes then (cmac { aes := true, key := sk } m).take 8 else macAlg3 sk (macPad 2 8 m)

/-- The ARPC of a method (**R130**). -/
def emvArpc (aes : Bool) (method : Nat) (sk arqc extra : Bytes) : Bytes :=
  if method = 2 then (emvMac aes sk (arqc ++ extra)).take 4
  else if aes then (aesEnc sk (arqc ++ fit 8 extra)).take 8
  else tdeaEnc sk (xorBytes arqc (fit 8 extra))

/-- Checks of a group 0x03 command: the algorithm of the method (**R129**). -/
def preEmv (usage : String) : Pre := fun _ r k =>
  if r.desc.p % 16 = 2 then needKey 1 k.a usage "X" "A" [] else needKey 1 k.a usage "X" "T" [16]

/-- Slots of an EMV command: a free number at most the bound of **R120** less the confirmation (log entry 7). -/
def emvOps (k : Keys) (n aesBound tdeaBound : Nat) : List (Nat × Nat) :=
  if aesOf k.a then [(0, Config.freeNat n % aesBound)] else [(1, Config.freeNat n % tdeaBound)]

/-- Length of ARC or CSU by P0 [7:4]. -/
def arpcExtra (r : Req) : Nat := if r.desc.p / 16 % 16 = 2 then 4 else 2

/-- ARQC_VERIFY (**R129**). -/
def execArqcVerify (rid : Nat) (spUe : Option Nat) (s : State) : Res :=
  runCmd 0x0301 (preEmv "E0") (withConfirm (pureCalc fun r k n =>
    { verdict (emvMac (aesOf k.a) (emvKey r k) (r.input.drop 11) == bytesAt r.input 3 8) with
      ops := emvOps k n 22 37 })) rid spUe s

/-- ARQC_VERIFY_ARPC (**R130**): the ARPC only after the ARQC verifies. -/
def execArqcVerifyArpc (rid : Nat) (spUe : Option Nat) (s : State) : Res :=
  runCmd 0x0302 (preEmv "E0") (withConfirm (pureCalc fun r k n =>
    let x := arpcExtra r
    let sk := emvKey r k
    let arqc := bytesAt r.input 3 8
    if emvMac (aesOf k.a) sk (r.input.drop (11 + x)) == arqc then
      { output := emvArpc (aesOf k.a) (r.desc.p / 16 % 16) sk arqc (bytesAt r.input 11 x), ops := emvOps k n 23 39 }
    else { status := stVerify, ops := emvOps k n 23 39 })) rid spUe s

/-- ARPC_GENERATE (**R130**). -/
def execArpcGenerate (rid : Nat) (spUe : Option Nat) (s : State) : Res :=
  runCmd 0x0303 (preEmv "E0") (withConfirm (pureCalc fun r k n =>
    { output := emvArpc (aesOf k.a) (r.desc.p / 16 % 16) (emvKey r k) (bytesAt r.input 3 8) (bytesAt r.input 11 (arpcExtra r))
      ops := emvOps k n 7 7 })) rid spUe s

/-- Slots of a script command beside the confirmation (**R507**): at most 4, and the fixed part. -/
def scriptOps (k : Keys) (n fixed : Nat) : List (Nat × Nat) := laneOps (aesOf k.a) (Config.freeNat n % 5 + fixed)

/-- SCRIPT_MAC (**R131**). -/
def execScriptMac (rid : Nat) (spUe : Option Nat) (s : State) : Res :=
  runCmd 0x0304 (preEmv "E2") (withConfirm (pureCalc fun r k n =>
    let m := r.input.drop 3
    let blocks := if aesOf k.a then max 1 ((m.length + 15) / 16) + 1 else m.length / 8 + 1 + 2
    { output := (emvMac (aesOf k.a) (emvKey r k) m).take (r.desc.p / 16 % 16), ops := scriptOps k n blocks })) rid spUe s

/-- SCRIPT_ENCRYPT (**R131**): CBC with a zero IV after padding method 2. -/
def execScriptEncrypt (rid : Nat) (spUe : Option Nat) (s : State) : Res :=
  runCmd 0x0305 (preEmv "E1") (withConfirm (pureCalc fun r k n =>
    let c : Cipher := { aes := aesOf k.a, key := emvKey r k }
    let m := macPad 2 c.block (r.input.drop 3)
    { output := cbcEnc c (List.replicate c.block 0) m, ops := scriptOps k n (m.length / c.block) })) rid spUe s

-- MACs (R133) ---------------------------------------------------------------------------------------------------------------------

/-- MAC length of P0. -/
def macLenOf (r : Req) : Nat := macLen (r.desc.p / 16 % 16)

/-- The usage that an algorithm names. -/
def macUsage (alg : Nat) : String := if alg = 1 then "M1" else if alg = 3 then "M3" else "M6"

/-- Checks of a group 0x04 command: the key, then the length that its algorithm allows. -/
def preMac (modes : String) : Pre := fun _ r k =>
  let alg := r.desc.p % 16
  firstFail [
    needKey 1 k.a (macUsage alg) modes (if alg = 5 then "AT" else "T") (if alg = 3 then [16] else []),
    require (aesOf k.a || macLenOf r ≤ 8) (some (stMalformed, malDetail 0x3E 10))]

/-- The MAC of a message and its lane operations beside the confirmation (**R133**, **R507**). -/
def macOf (alg pad : Nat) (k : Option KeyRec) (m : Bytes) : Bytes × List (Nat × Nat) :=
  let key := matOf k
  if alg = 5 then
    let c : Cipher := { aes := aesOf k, key := key }
    (cmac c m, laneOps c.aes (max 1 ((m.length + c.block - 1) / c.block) + 1))
  else
    let p := macPad (pad + 1) 8 m
    if alg = 3 then (macAlg3 key p, [(1, p.length / 8 + 2)]) else (macAlg1 key p, [(1, p.length / 8)])

/-- MAC_GENERATE (**R133**). -/
def execMacGenerate (rid : Nat) (spUe : Option Nat) (s : State) : Res :=
  runCmd 0x0401 (preMac "GC") (withConfirm (pureCalc fun r k _ =>
    let (m, o) := macOf (r.desc.p % 16) (r.desc.p / 256 % 4) k.a r.input
    { output := m.take (macLenOf r), ops := o })) rid spUe s

/-- MAC_VERIFY (**R133**): the MAC first, then the message. -/
def execMacVerify (rid : Nat) (spUe : Option Nat) (s : State) : Res :=
  runCmd 0x0402 (preMac "VC") (withConfirm (pureCalc fun r k _ =>
    let n := macLenOf r
    let (m, o) := macOf (r.desc.p % 16) (r.desc.p / 256 % 4) k.a (r.input.drop n)
    { verdict (m.take n == r.input.take n) with ops := o })) rid spUe s

end Sys2Proof.Machine
end

