-- ==== Sys2Proof/Machine/KeyBlock.lean ====
section
/-! DEFINITION. Symmetric keys at their entry and exit: the acceptance rules (**R138**-**R141**), X9.143 key blocks of
versions B and D (**R142**, **R143**), KEY_IMPORT, KEY_EXPORT, and the DUKPT commands (**R134**-**R136**). -/

namespace Sys2Proof.Machine

-- Acceptance (R138-R141) -----------------------------------------------------------------------------------------------------

/-- Algorithms, key lengths in bits and modes of a usage (**R138**): per algorithm letter the lengths. -/
def usageRow (u : Bytes) : Option (List (Byte × List Nat) × String) :=
  let a := (chr "A", [128, 192, 256])
  let t2 := (chr "T", [128])
  let t := (chr "T", [128, 192])
  let rows : List (String × List (Byte × List Nat) × String) := [
    ("B0", [a, t2], "X"), ("C0", [t2], "CGV"), ("D0", [a, t], "BDE"), ("E0", [a, t2], "X"), ("E1", [a, t2], "X"),
    ("E2", [a, t2], "X"), ("K1", [a, t], "BDE"), ("M1", [t], "CGV"), ("M3", [t2], "CGV"), ("M6", [a, t], "CGV"),
    ("M7", [(chr "H", (List.range 49).map fun i => 128 + 8 * i)], "CGV"), ("P0", [a, t], "BDE"), ("V1", [t2], "CGV"),
    ("V2", [t2], "CGV")]
  (rows.find? fun r => ascii r.1 == u).map (·.2)

/-- What a symmetric record fails of **R138**: the kind of KEY_USAGE. -/
def attrKind (k : KeyRec) (checkHash : Bool) : Option Nat :=
  match usageRow k.usage with
  | none => some 1
  | some (algs, modes) =>
    match algs.lookup k.alg with
    | none => some 3
    | some lens =>
      if !lens.contains k.bits then some 3
      else if !(ascii modes).contains k.mode then some 2
      else if !(ascii "ENS").contains k.exportability || !(ascii "01").contains k.context then some 4
      else if bytesAt k.attrs 4 1 == ascii "c" then some 1
      else if checkHash && (if k.usage == ascii "M7" then !(1 ≤ k.hash && k.hash ≤ 3) else k.hash != 0) then some 3
      else none

/-- DES key bits without parity. -/
def desBits (l : Bytes) : Bytes := l.map fun b => b &&& 0xFE

/-- Component keys of a TDEA key repeat (**R140**). -/
def tdeaRepeats (key : Bytes) : Bool :=
  desBits (key.take 8) == desBits (bytesAt key 8 8) ||
    (key.length == 24 && desBits (bytesAt key 8 8) == desBits (bytesAt key 16 8))

/-- Strength in bits (**R140**). -/
def KeyRec.strength (k : KeyRec) : Nat :=
  if k.alg = chr "T" then (if k.bits = 128 then 80 else 112)
  else if k.alg = chr "H" then min 256 k.bits else k.bits

/-- Check value of key material (**R141**). -/
def kcvOf (alg : Byte) (hash : Nat) (key : Bytes) : Bytes :=
  if alg = chr "T" then (tdeaEnc key (List.replicate 8 0)).take 3
  else if alg = chr "A" then (cmac { aes := true, key := key } (List.replicate 16 0)).take 5
  else (hmac hash key (List.replicate 16 0)).take 5

/-- The check value of a symmetric record. -/
def KeyRec.kcv (k : KeyRec) : Bytes := kcvOf k.alg k.hash k.material

/-- Lane and digest work of the confirmation and the check value of a new symmetric key (**R165**, **R507**). -/
def entryOps (k : KeyRec) : List (Nat × Nat) :=
  if k.alg = chr "A" then [(0, 2)] else if k.alg = chr "T" then [(1, 2)] else [(2, 4)]

/-- Attributes with their flags and domain set (**R137**). -/
def attrsWith (a : Bytes) (flags dom : Nat) : Bytes := a.take 10 ++ leBytes 2 flags ++ leBytes 2 dom ++ bytesAt a 14 2

/-- A symmetric record of attributes and material (**R358**). -/
def symRecord (a : Bytes) (flags dom : Nat) (key : Bytes) : KeyRec where
  typ := 1
  attrs := attrsWith a flags dom
  confirm := confirmOf ((bytesAt a 2 1).headD 0) key
  material := key

-- Key blocks (X9.143) ----------------------------------------------------------------------------------------------------------

/-- Uppercase hexadecimal digit of a nibble. -/
def hexDigit (n : Nat) : Byte := BitVec.ofNat 8 (if n < 10 then 48 + n else 55 + n)

/-- Hexadecimal text of bytes. -/
def hexOf (l : Bytes) : Bytes := (nibbles l).map hexDigit

/-- Value of a hexadecimal digit; 16 where it is none. -/
def hexVal (b : Byte) : Nat :=
  let n := b.toNat
  if 48 ≤ n ∧ n ≤ 57 then n - 48 else if 65 ≤ n ∧ n ≤ 70 then n - 55 else 16

/-- Bytes of hexadecimal text, if all of it is. -/
def unhex (l : Bytes) : Option Bytes :=
  let v := l.map hexVal
  if l.length % 2 = 0 ∧ v.all (· < 16) then some (packNibbles v) else none

/-- Decimal number of digits, if they are. -/
def decNum (l : Bytes) : Option Nat :=
  if l.all fun b => 48 ≤ b.toNat && b.toNat ≤ 57 then some (l.foldl (fun n b => 10 * n + (b.toNat - 48)) 0) else none

/-- `k` decimal digits of a number. -/
def decText (k n : Nat) : Bytes := ((List.range k).reverse.map fun i => BitVec.ofNat 8 (48 + n / 10 ^ i % 10))

/-- One optional block: its place, ID and data. -/
structure OptBlock where
  /-- Offset in the key block. -/
  off : Nat := 0
  /-- Two characters. -/
  id : Bytes := []
  /-- Characters after the length. -/
  data : Bytes := []
  deriving DecidableEq, Repr

/-- Optional blocks from an offset on, and the offset after them; the offset of the first that is malformed. -/
def parseOpts (b : Bytes) : Nat → Nat → List OptBlock → (List OptBlock × Nat) ⊕ Nat
  | 0, off, l => .inl (l, off)
  | n + 1, off, l =>
    match unhex (bytesAt b (off + 2) 2) with
    | none => .inr off
    | some h =>
      let short := beNat h
      let ll := 2 * beNat ((unhex (bytesAt b (off + 4) 2)).getD [0])
      let (len, head) := if short = 0 then (beNat ((unhex (bytesAt b (off + 6) ll)).getD [0]), 6 + ll) else (short, 4)
      if len < head ∨ b.length < off + len then .inr off
      else parseOpts b n (off + len) (l ++ [{ off := off, id := bytesAt b off 2, data := bytesAt b (off + head) (len - head) }])

/-- A key block as parsed by its header. -/
structure Block where
  /-- Version D (AES). -/
  aes : Bool := true
  /-- Optional blocks. -/
  opts : List OptBlock := []
  /-- Length of header and optional blocks. -/
  head : Nat := 16
  deriving DecidableEq, Repr

/-- Header syntax (**R142** step 2): the parsed block, or the offset of the field that fails. -/
def parseBlock (b : Bytes) : Block ⊕ Nat :=
  let ver := (bytesAt b 0 1).headD 0
  if ver ≠ chr "B" ∧ ver ≠ chr "D" then .inr 0
  else if decNum (bytesAt b 1 4) ≠ some b.length then .inr 1
  else if !((b.take 16).all fun c => 0x20 ≤ c.toNat && c.toNat ≤ 0x7E) then .inr 5
  else
    match decNum (bytesAt b 12 2) with
    | none => .inr 12
    | some n =>
      match parseOpts b n 16 [] with
      | .inr off => .inr off
      | .inl (l, off) => .inl { aes := ver == chr "D", opts := l, head := off }

/-- Algorithm indicator of the key derivation by protection-key length. -/
def kbAlg (aes : Bool) (len : Nat) : Nat :=
  if aes then (if len = 16 then 2 else if len = 24 then 3 else 4) else (if len = 16 then 0 else 1)

/-- A key-block binding key: purpose 0 encryption, 1 authentication. -/
def kbKey (aes : Bool) (kbpk : Bytes) (purpose : Nat) : Bytes :=
  let c : Cipher := { aes := aes, key := kbpk }
  let n := (kbpk.length + c.block - 1) / c.block
  let one := fun i => cmac c ([BitVec.ofNat 8 (i + 1)] ++ beBytes 2 purpose ++ [0] ++ beBytes 2 (kbAlg aes kbpk.length) ++
    beBytes 2 (8 * kbpk.length))
  (((List.range n).map one).flatten).take kbpk.length

/-- MAC of a key block over its header text and clear key field. -/
def kbMac (aes : Bool) (kbpk head clear : Bytes) : Bytes := cmac { aes := aes, key := kbKey aes kbpk 1 } (head ++ clear)

/-- Steps 3 and 4 of **R142** up to the key length field: the key, or none. -/
def openBlock (b : Bytes) (p : Block) (kbpk : Bytes) : Option Bytes :=
  let ml := if p.aes then 32 else 16
  let bs := if p.aes then 16 else 8
  if b.length < p.head + ml then none
  else
    match unhex (bytesAt b p.head (b.length - p.head - ml)), unhex (b.drop (b.length - ml)) with
    | some enc, some mac =>
      if enc.length = 0 ∨ enc.length % bs ≠ 0 then none
      else
        let clear := cbcDec { aes := p.aes, key := kbKey p.aes kbpk 0 } mac enc
        if kbMac p.aes kbpk (b.take p.head) clear != mac then none
        else
          let bits := beNat (clear.take 2)
          if bits = 0 ∨ bits % 8 ≠ 0 ∨ clear.length < 2 + bits / 8 then none else some (bytesAt clear 2 (bits / 8))
    | _, _ => none

/-- Data of the first optional block of an ID. -/
def optOf (l : List OptBlock) (id : String) : Option Bytes := (l.find? fun o => o.id == ascii id).map (·.data)

/-- HMAC hash code of an HM block (X9.143: 21 SHA-256, 22 SHA-384, 23 SHA-512); 0 none. -/
def hmHash (l : List OptBlock) : Nat :=
  match optOf l "HM" with
  | some d => if d == ascii "21" then 1 else if d == ascii "22" then 2 else if d == ascii "23" then 3 else 0
  | none => 0

/-- Data of a KC or KP block: the check value after its algorithm characters. -/
def kcData (alg : Byte) (kcv : Bytes) : Bytes := ascii (if alg = chr "T" then "00" else "01") ++ hexOf kcv

/-- An optional block as text. -/
def optText (id : String) (data : Bytes) : Bytes := ascii id ++ hexOf [BitVec.ofNat 8 (4 + data.length)] ++ data

/-- The PB block that fills the optional blocks to whole cipher blocks, from random bytes; empty where none is due. -/
def padOpts (bs len : Nat) (rnd : Bytes) : Bytes :=
  if len % bs = 0 then []
  else
    let gap := bs - len % bs
    let n := if gap < 4 then gap + bs else gap
    optText "PB" ((rnd.take (n - 4)).map fun b => BitVec.ofNat 8 (0x20 + b.toNat % 95))

/-- A key block: the nine header characters after the length (usage, algorithm, mode, version, exportability), the
context, the optional blocks and the key, wrapped under a protection key with random bytes. -/
def wrapBlock (aes : Bool) (kbpk fields context : Bytes) (opts : List Bytes) (key rnd : Bytes) : Bytes :=
  let bs := if aes then 16 else 8
  let pb := padOpts bs (opts.flatten).length rnd
  let all := opts ++ (if pb = [] then [] else [pb])
  let field := beBytes 2 (8 * key.length) ++ key
  let clearLen := (field.length + bs - 1) / bs * bs
  let clear := (field ++ (rnd.drop 32) ++ List.replicate bs 0).take clearLen
  let total := 16 + (all.flatten).length + 2 * clearLen + 2 * bs
  let head := ascii (if aes then "D" else "B") ++ decText 4 total ++ fields ++ decText 2 all.length ++ context ++ ascii "0" ++
    all.flatten
  let mac := kbMac aes kbpk head clear
  head ++ hexOf (cbcEnc { aes := aes, key := kbKey aes kbpk 0 } mac clear) ++ hexOf mac

/-- Lane operations of a key block (**R507**): a free number up to 6, the header blocks, and twice the key blocks. -/
def blockOps (aes : Bool) (head enc n : Nat) : List (Nat × Nat) :=
  let bs := if aes then 16 else 8
  laneOps aes (Config.freeNat n % 7 + (head + bs - 1) / bs + 2 * (enc / bs))

-- KEY_IMPORT (R142) ------------------------------------------------------------------------------------------------------------

/-- Steps 1 and 2 of **R142**. -/
def preImport : Pre := fun _ r k =>
  let ver := (bytesAt r.input 0 1).headD 0
  firstFail [
    needKey 1 k.a "K1" "DB" (if ver = chr "D" then "A" else if ver = chr "B" then "T" else "AT") [],
    (match parseBlock r.input with | .inr off => some (stMalformed, malDetail off 10) | .inl _ => none)]

/-- The attribute record that a key block's header gives (**R137**), with the HMAC hash of its HM block. -/
def blockAttrs (b key : Bytes) (hash : Nat) : Bytes :=
  bytesAt b 5 7 ++ bytesAt b 14 1 ++ leBytes 2 (8 * key.length) ++ [0, 0, 0, 0] ++ [BitVec.ofNat 8 hash, 0]

/-- Optional blocks that the module accepts (**R142** step 6): the offset of the first it does not. -/
def badOpt (l : List OptBlock) : Option Nat :=
  (l.find? fun o => !(["KS", "IK", "KC", "KP", "PB", "TS", "HM"].any fun i => o.id == ascii i)).map (·.off)

/-- Steps 3-6 of **R142**. -/
def calcImport : Calc := pureCalc fun r k n =>
  match parseBlock r.input with
  | .inr off => { status := stMalformed, detail := malDetail off 10 }
  | .inl p =>
    let kbpk := matOf k.a
    let ops := blockOps p.aes p.head ((r.input.length - p.head) / 2 - (if p.aes then 16 else 8)) n
    match openBlock r.input p kbpk with
    | none => { status := stVerify, ops := ops }
    | some key =>
      let hash := if bytesAt r.input 5 2 == ascii "M7" then hmHash p.opts else 0
      let a := blockAttrs r.input key hash
      let rec1 := { symRecord a (4 + 8 * b2n (nbit r.desc.p 0)) r.domain key with vol := nbit r.desc.p 1 }
      let kc := match optOf p.opts "KC" with
        | some d => !(ascii "ATH").contains rec1.alg || (rec1.alg == chr "H" && hash == 0) || d == kcData rec1.alg rec1.kcv
        | none => true
      if !kc then { status := stVerify, ops := ops }
      else
        match attrKind rec1 false with
        | some kind => { status := stUsage, detail := 0x200 + kind, ops := ops }
        | none =>
          if rec1.alg = chr "T" ∧ tdeaRepeats key then { status := stUsage, detail := 0x203, ops := ops }
          else if (k.a.getD {}).strength < rec1.strength then { status := stUsage, detail := 0x104, ops := ops }
          else
            match badOpt p.opts with
            | some off => { status := stMalformed, detail := malDetail off 10, ops := ops }
            | none =>
              if rec1.usage = ascii "M7" ∧ hash = 0 then
                { status := stMalformed, detail := malDetail ((p.opts.find? fun o => o.id == ascii "HM").map (·.off) |>.getD 12) 10,
                  ops := ops }
              else { output := rec1.kcv, store := some rec1, ops := ops ++ entryOps rec1 }

/-- KEY_IMPORT (**R142**). -/
def execKeyImport (rid : Nat) (spUe : Option Nat) (s : State) : Res := runCmd 0x0801 preImport calcImport rid spUe s

-- KEY_EXPORT (R143, R145) ----------------------------------------------------------------------------------------------------------

/-- Modes that permit no more than a stored mode (**R139**). -/
def narrower (stored : Byte) : Bytes :=
  if stored = chr "B" then ascii "BDE" else if stored = chr "C" then ascii "CGV" else [stored]

/-- A header option byte, the stored value where it is ASCII 0. -/
def optionOr (b stored : Byte) : Byte := if b = 0x30 then stored else b

/-- The algorithm letter of a key-block version. -/
def verAlg (v : Byte) : String := if v = chr "D" then "A" else "T"

/-- Optional blocks of an export (**R143**): HM for M7, KC and KP as asked. -/
def exportOpts (flags : Nat) (k : KeyRec) (kbpk : KeyRec) : List Bytes :=
  (if k.usage = ascii "M7" then [optText "HM" (if k.hash = 1 then ascii "21" else if k.hash = 2 then ascii "22" else ascii "23")]
    else []) ++
  (if nbit flags 0 then [optText "KC" (kcData k.alg k.kcv)] else []) ++
  (if nbit flags 1 then [optText "KP" (kcData kbpk.alg kbpk.kcv)] else [])

/-- Approvals that KEY_EXPORT still misses (**R145**, **R148**). -/
def exportMissing (s : State) (r : Req) (k : KeyRec) : Nat :=
  if nbit k.flags 3 then
    2 - (countingApprovals s.mtime 0 (opStatement r.desc r.slice r.input) s.cust.approvals []).length
  else 0

/-- Checks of KEY_EXPORT (**R139**, **R140**, **R143**, **R148**). -/
def preExport : Pre := fun s r k =>
  let o := fun i => (bytesAt r.input i 1).headD 0
  match k.a, k.b with
  | some a, some b =>
    firstFail [
      needKey 1 (some a) "K1" "EB" (verAlg (o 0)) [],
      require (b.typ == 1 && (usageRow b.usage).isSome) (usageFail 2 1),
      require ((b.exportability == chr "E" || b.exportability == chr "S") && b.context == chr "0") (usageFail 2 4),
      require (b.strength ≤ a.strength) (usageFail 1 4),
      require ((narrower b.mode).contains (optionOr (o 1) b.mode)) (usageFail 2 2),
      require (exportMissing s r b == 0) (some (stDual, exportMissing s r b))]
  | _, _ => none

/-- KEY_EXPORT's block. -/
def exportAnswer (r : Req) (a b : KeyRec) (n : Nat) : Answer :=
  let o := fun i => (bytesAt r.input i 1).headD 0
  let fields := b.usage ++ [b.alg] ++ [optionOr (o 1) b.mode] ++ bytesAt r.input 4 2 ++ [optionOr (o 2) b.exportability]
  let out := wrapBlock a.isAes a.material fields [o 3] (exportOpts (o 6).toNat b a) b.material (freeBytes n 64)
  let enc := (b.material.length + 2 + (if a.isAes then 15 else 7)) / (if a.isAes then 16 else 8) * (if a.isAes then 16 else 8)
  { output := out, ops := blockOps a.isAes (out.length - 2 * enc) enc (n + 1) }

/-- KEY_EXPORT: its approvals reserved, then the block. -/
def calcExport : Calc := fun s r k n =>
  match k.a, k.b with
  | some a, some b =>
    let ans := exportAnswer r a b n
    if nbit b.flags 3 then
      match reserveApprovals 2 0 (opStatement r.desc r.slice r.input) s with
      | .inl (_, t) => (ans, updReq r.rid (fun x => { x with approvals := true }) t)
      | .inr m => ({ status := stDual, detail := m }, s)
    else (ans, s)
  | _, _ => ({}, s)

/-- KEY_EXPORT (**R143**). -/
def execKeyExport (rid : Nat) (spUe : Option Nat) (s : State) : Res := runCmd 0x0802 preExport calcExport rid spUe s

-- DUKPT (R134-R136; ANSI X9.24-3) ----------------------------------------------------------------------------------------------------

/-- Derivation data of AES DUKPT. -/
def dukData (block usage bits : Nat) (tail : Bytes) : Bytes :=
  [1, BitVec.ofNat 8 block] ++ beBytes 2 usage ++ beBytes 2 (if bits = 128 then 2 else if bits = 192 then 3 else 4) ++
  beBytes 2 bits ++ tail

/-- A derived key of the derivation key's length. -/
def dukDerive (key : Bytes) (usage : Nat) (tail : Bytes) : Bytes :=
  let bits := 8 * key.length
  (aesEnc key (dukData 1 usage bits tail) ++ (if key.length = 16 then [] else aesEnc key (dukData 2 usage bits tail))).take key.length

/-- AES initial key of a BDK and an initial key ID. -/
def dukInitial (bdk ikid : Bytes) : Bytes := dukDerive bdk 0x8001 ikid

/-- Derivation keys along the set bits of the counter, from bit `k - 1` down. -/
def dukWalk (id4 : Bytes) (ctr : Nat) : Nat → Nat → Bytes → Bytes
  | 0, _, key => key
  | k + 1, done, key =>
    if ctr.testBit k then
      let d := done + 2 ^ k
      dukWalk id4 ctr k d (dukDerive key 0x8000 (id4 ++ beBytes 4 d))
    else dukWalk id4 ctr k done key

/-- AES working key of a usage indicator. -/
def dukAes (bdk ksn : Bytes) (usage : Nat) : Bytes :=
  let ctr := beNat (bytesAt ksn 8 4)
  let id4 := bytesAt ksn 4 4
  dukDerive (dukWalk id4 ctr 32 0 (dukInitial bdk (ksn.take 8))) usage (id4 ++ beBytes 4 ctr)

/-- C0C0C0C0 00000000 twice. -/
def dukMask : Bytes := [0xC0, 0xC0, 0xC0, 0xC0, 0, 0, 0, 0, 0xC0, 0xC0, 0xC0, 0xC0, 0, 0, 0, 0]

/-- The 10-byte KSN with its counter zero. -/
def ksnBase (ksn : Bytes) : Bytes := beBytes 10 (beNat (ksn.take 10) / 2 ^ 21 * 2 ^ 21)

/-- TDEA initial key (IPEK). -/
def ipek (bdk ksn : Bytes) : Bytes :=
  let d := (ksnBase ksn).take 8
  tdeaEnc bdk d ++ tdeaEnc (xorBytes bdk dukMask) d

/-- One non-reversible key generation step. -/
def nrkgp (key r8 : Bytes) : Bytes :=
  let half := fun (k : Bytes) => xorBytes (desEnc (k.take 8) (xorBytes r8 (k.drop 8))) (k.drop 8)
  half (xorBytes key dukMask) ++ half key

/-- Future keys along the set bits of the counter, from bit `k - 1` down. -/
def ipekWalk (base : Nat) (ctr : Nat) : Nat → Nat → Bytes → Bytes
  | 0, _, key => key
  | k + 1, done, key =>
    if ctr.testBit k then
      let d := done + 2 ^ k
      ipekWalk base ctr k d (nrkgp key (beBytes 8 (base + d)))
    else ipekWalk base ctr k done key

/-- TDEA working key before its variant. -/
def dukTdea (bdk ksn : Bytes) : Bytes :=
  ipekWalk (beNat ((ksnBase ksn).drop 2)) (beNat (bytesAt ksn 7 3) % 2 ^ 21) 21 0 (ipek bdk ksn)

/-- A variant: the mask of both halves. -/
def dukVariant (key : Bytes) (v : Nat) : Bytes := xorBytes key (beBytes 8 v ++ beBytes 8 v)

/-- Working key by purpose: 0 PIN encryption, 1 MAC request, 2 data encryption request (**R134**). -/
def workingKey (tdea : Bool) (bdk ksn : Bytes) (purpose : Nat) : Bytes :=
  if tdea then
    let k := dukTdea bdk ksn
    if purpose = 0 then dukVariant k 0xFF
    else if purpose = 1 then dukVariant k 0xFF00
    else
      let v := dukVariant k 0xFF0000
      tdeaEnc v (v.take 8) ++ tdeaEnc v (v.drop 8)
  else dukAes bdk ksn (if purpose = 0 then 0x1000 else if purpose = 1 then 0x2000 else 0x3000)

/-- Variant of a request: TDEA with P0 [8]. -/
def dukTdeaReq (r : Req) : Bool := nbit r.desc.p 8

/-- The KSN of a request. -/
def ksnOf (r : Req) : Bytes := r.input.take (ksnLen r.desc.p)

/-- KEY_A a base derivation key of the variant; in ENSIGN an AES one of 128 bits (**R134**). -/
def preDukpt : Pre := fun _ r k =>
  firstFail [
    if dukTdeaReq r then needKey 1 k.a "B0" "X" "T" [16] else needKey 1 k.a "B0" "X" "A" [],
    require (!(r.isEnsign && !dukTdeaReq r && (matOf k.a).length != 16)) (usageFail 1 3)]

/-- Lane operations of a working-key derivation: a free number up to the bound of **R507** (log entry 7). -/
def dukOps (tdea : Bool) (n : Nat) : List (Nat × Nat) := if tdea then [(1, Config.freeNat n % 23)] else [(0, Config.freeNat n % 19)]

/-- The PAN of DUKPT_PIN_TRANSLATE: the descriptor's, or the input's 11 bytes (**R135**), and where the block starts. -/
def dukPan (r : Req) : List Nat × Nat :=
  let k := ksnLen r.desc.p
  if !r.desc.panSet && (finOf r == 4 || foutOf r == 4) then
    ((nibbles (bytesAt r.input (k + 1) 10)).take ((bytesAt r.input k 1).headD 0).toNat, k + 11)
  else (r.desc.panList, k)

/-- DUKPT_PIN_TRANSLATE (**R135**). -/
def execDukptPinTranslate (rid : Nat) (spUe : Option Nat) (s : State) : Res :=
  runCmd 0x0501 (fun t r k => firstFail [preDukpt t r k, needKey 2 k.b "P0" "EB" (pinAlg (foutOf r)) []])
    (withConfirm (pureCalc fun r k n =>
      let (pan, off) := dukPan r
      let wk := workingKey (dukTdeaReq r) (matOf k.a) (ksnOf r) 0
      let ops := dukOps (dukTdeaReq r) (n + 1) ++ pinOps (finOf r)
      match pinDecode (finOf r) wk pan (bytesAt r.input off (pinLen (finOf r))) with
      | none => { status := stVerify, ops := ops }
      | some pin => { output := pinEncode (foutOf r) (matOf k.b) pan pin (freeBytes n 16), ops := ops ++ pinOps (foutOf r) }))
    rid spUe s

/-- DUKPT_MAC_VERIFY (**R136**). -/
def execDukptMacVerify (rid : Nat) (spUe : Option Nat) (s : State) : Res :=
  runCmd 0x0502 preDukpt (withConfirm (pureCalc fun r k n =>
    let td := dukTdeaReq r
    let wk := workingKey td (matOf k.a) (ksnOf r) 1
    let rest := r.input.drop (ksnLen r.desc.p)
    let len := macLenOf r
    let m := rest.drop len
    let mac := if td then macAlg3 wk (macPad 1 8 m) else cmac { aes := true, key := wk } m
    let fixed := if td then max 1 ((m.length + 7) / 8) + 2 else max 1 ((m.length + 15) / 16) + 1
    { verdict (mac.take len == rest.take len) with ops := dukOps td n ++ laneOps (!td) fixed })) rid spUe s

/-- DUKPT_DECRYPT (**R136**). -/
def execDukptDecrypt (rid : Nat) (spUe : Option Nat) (s : State) : Res :=
  runCmd 0x0503 preDukpt (withConfirm (pureCalc fun r k n =>
    let td := dukTdeaReq r
    let c : Cipher := { aes := !td, key := workingKey td (matOf k.a) (ksnOf r) 2 }
    let d := r.input.drop (ksnLen r.desc.p)
    { output := cbcDec c (List.replicate c.block 0) d, ops := dukOps td n ++ laneOps (!td) (d.length / c.block) })) rid spUe s

/-- Checks of DUKPT_IK_EXPORT: BDK, protection key of the version, its strength, and a mode no wider than X. -/
def preIkExport : Pre := fun s r k =>
  let o := fun i => (bytesAt r.input (ksnLen r.desc.p + i) 1).headD 0
  firstFail [
    preDukpt s r k, needKey 2 k.b "K1" "EB" (verAlg (o 0)) [],
    require ((k.a.getD {}).strength ≤ (k.b.getD {}).strength) (usageFail 1 4),
    require (optionOr (o 1) (chr "X") == chr "X") (usageFail 2 2)]

/-- DUKPT_IK_EXPORT's block (**R136**): usage B1, mode X, with the IK or KS block. -/
def ikAnswer (r : Req) (a b : KeyRec) (n : Nat) : Answer :=
  let td := dukTdeaReq r
  let ksn := ksnOf r
  let o := fun i => (bytesAt r.input (ksnLen r.desc.p + i) 1).headD 0
  let key := if td then ipek a.material ksn else dukInitial a.material (ksn.take 8)
  let fields := ascii "B1" ++ [a.alg] ++ ascii "X" ++ bytesAt r.input (ksnLen r.desc.p + 4) 2 ++ [optionOr (o 2) a.exportability]
  let id := if td then optText "KS" (hexOf ksn) else optText "IK" (hexOf (ksn.take 8))
  let opts := id ::
    ((if nbit (o 6).toNat 0 then [optText "KC" (kcData a.alg (kcvOf a.alg 0 key))] else []) ++
     (if nbit (o 6).toNat 1 then [optText "KP" (kcData b.alg b.kcv)] else []))
  let out := wrapBlock b.isAes b.material fields [o 3] opts key (freeBytes n 64)
  let bs := if b.isAes then 16 else 8
  let enc := (key.length + 2 + bs - 1) / bs * bs
  { output := out, ops := dukOps td (n + 1) ++ blockOps b.isAes (out.length - 2 * enc) enc (n + 2) }

/-- DUKPT_IK_EXPORT (**R136**). -/
def execDukptIkExport (rid : Nat) (spUe : Option Nat) (s : State) : Res :=
  runCmd 0x0504 preIkExport (withConfirm (pureCalc fun r k n =>
    match k.a, k.b with
    | some a, some b => ikAnswer r a b n
    | _, _ => {})) rid spUe s

end Sys2Proof.Machine
end

