-- ==== Sys2Proof/Machine/Cipher.lean ====
section
/-! DEFINITION. The data cipher of group 0x06 (**R159**, **R160**), the raw digest commands and HMAC of groups 0x10 and 0x11
(**R161**-**R165**), and RANDOM (**R85**). -/

namespace Sys2Proof.Machine

-- Group 0x06 (R159) --------------------------------------------------------------------------------------------------------------

/-- Data and IV of ENCRYPT or DECRYPT; with ECB or a generated IV the whole input is data. -/
def splitIv (r : Req) (block : Nat) : Bytes × Bytes :=
  if r.desc.p % 16 = 1 ∨ nbit r.desc.p 8 then (r.input, [])
  else (r.input.take (r.input.length - block), r.input.drop (r.input.length - block))

/-- The lengths that the key's block makes wrong: MALFORMED, reason 0x06. -/
def blockLenOk (r : Req) (block : Nat) : Bool :=
  let d := (splitIv r block).1
  d.length != 0 && (r.desc.p % 16 == 3 || d.length % block == 0)

/-- Checks of ENCRYPT and DECRYPT. -/
def preCipher (modes : String) : Pre := fun _ r k => firstFail [
  needKey 1 k.a "D0" modes "AT" [],
  require (blockLenOk r (if aesOf k.a then 16 else 8)) (some (stMalformed, malDetail 0x14 6))]

/-- Lane operations of a data cipher (**R507**): one a block. -/
def dataOps (c : Cipher) (len : Nat) : List (Nat × Nat) := laneOps c.aes ((len + c.block - 1) / c.block)

/-- ENCRYPT (**R159**). -/
def calcEncrypt : Calc := pureCalc fun r k n =>
  let c : Cipher := { aes := aesOf k.a, key := matOf k.a }
  let gen := nbit r.desc.p 8
  let (d, iv0) := splitIv r c.block
  let iv := if gen then freeBytes n c.block else iv0
  let ct := match r.desc.p % 16 with | 1 => ecbEnc c d | 2 => cbcEnc c iv d | _ => ctrRun c iv d
  { output := ct ++ (if gen then iv else []), ops := dataOps c d.length }

/-- ENCRYPT. -/
def execEncrypt (rid : Nat) (spUe : Option Nat) (s : State) : Res := runCmd 0x0601 (preCipher "EB") calcEncrypt rid spUe s

/-- DECRYPT (**R159**). -/
def execDecrypt (rid : Nat) (spUe : Option Nat) (s : State) : Res :=
  runCmd 0x0602 (preCipher "DB") (pureCalc fun r k _ =>
    let c : Cipher := { aes := aesOf k.a, key := matOf k.a }
    let (d, iv) := splitIv r c.block
    { output := (match r.desc.p % 16 with | 1 => ecbDec c d | 2 => cbcDec c iv d | _ => ctrRun c iv d)
      ops := dataOps c d.length }) rid spUe s

/-- GCM_ENCRYPT (**R159**). -/
def execGcmEncrypt (rid : Nat) (spUe : Option Nat) (s : State) : Res :=
  runCmd 0x0603 (fun _ _ k => needKey 1 k.a "D0" "EB" "A" []) (pureCalc fun r k n =>
    let c : Cipher := { aes := true, key := matOf k.a }
    let gen := nbit r.desc.p 8
    let al := leNat (r.input.take 4)
    let len := r.input.length - 4 - al - (if gen then 0 else 12)
    let iv := if gen then freeBytes n 12 else r.input.drop (r.input.length - 12)
    let ct := gcmText c iv (bytesAt r.input 4 len)
    { output := ct ++ gcmTag c iv (bytesAt r.input (4 + len) al) ct ++ (if gen then iv else [])
      ops := [(0, 2 + (len + 15) / 16)] }) rid spUe s

/-- GCM_DECRYPT (**R159**, **R160**): no plaintext unless the tag matches. -/
def execGcmDecrypt (rid : Nat) (spUe : Option Nat) (s : State) : Res :=
  runCmd 0x0604 (fun _ _ k => needKey 1 k.a "D0" "DB" "A" []) (pureCalc fun r k _ =>
    let c : Cipher := { aes := true, key := matOf k.a }
    let al := leNat (r.input.take 4)
    let len := r.input.length - 32 - al
    let ct := bytesAt r.input 4 len
    let iv := bytesAt r.input (4 + len + al) 12
    let ops := [(0, 2 + (len + 15) / 16)]
    if gcmTag c iv (bytesAt r.input (4 + len) al) ct == r.input.drop (r.input.length - 16) then
      { output := gcmText c iv ct, ops := ops }
    else { status := stVerify, ops := ops }) rid spUe s

-- Digests (R161-R164) --------------------------------------------------------------------------------------------------------------

/-- No checks beyond those before admission. -/
def noPre : Pre := fun _ _ _ => none

/-- SHA256_BLOCKS (**R164**). -/
def execSha256Blocks (rid : Nat) (spUe : Option Nat) (s : State) : Res :=
  runCmd 0x1001 noPre (pureCalc fun r _ _ =>
    { output := sha256Blocks (r.input.take 32) (r.input.drop 32), ops := [(2, (r.input.length - 32) / 64)] }) rid spUe s

/-- SHA512_BLOCKS (**R164**). -/
def execSha512Blocks (rid : Nat) (spUe : Option Nat) (s : State) : Res :=
  runCmd 0x1002 noPre (pureCalc fun r _ _ =>
    { output := sha512Blocks (r.input.take 64) (r.input.drop 64), ops := [(2, (r.input.length - 64) / 128)] }) rid spUe s

/-- KECCAK_ABSORB (**R164**). -/
def execKeccakAbsorb (rid : Nat) (spUe : Option Nat) (s : State) : Res :=
  runCmd 0x1003 noPre (pureCalc fun r _ _ =>
    { output := keccakAbsorb r.desc.p (r.input.take 200) (r.input.drop 200)
      ops := [(3, (r.input.length - 200) / r.desc.p)] }) rid spUe s

/-- KECCAK_SQUEEZE (**R164**): the state after *k* permutations, then *k* blocks. -/
def execKeccakSqueeze (rid : Nat) (spUe : Option Nat) (s : State) : Res :=
  runCmd 0x1004 noPre (pureCalc fun r _ _ =>
    let k := (r.desc.outCap.toNat - 200) / r.desc.p
    let (out, st) := keccakSqueeze r.desc.p k r.input
    { output := st ++ out, ops := [(3, k)] }) rid spUe s

-- HMAC (R165) ------------------------------------------------------------------------------------------------------------------------

/-- MAC length of P0 [15:8]. -/
def hmacLen (r : Req) : Nat := if r.desc.p / 256 = 0 then hashLen (r.desc.p % 16) else r.desc.p / 256

/-- Checks of an HMAC command: an M7 key whose hash P0 names. -/
def preHmac (modes : String) : Pre := fun _ r k => firstFail [
  needKey 1 k.a "M7" modes "H" [],
  require ((k.a.getD {}).hash == r.desc.p % 16) (usageFail 1 3)]

/-- Compressions of an HMAC over a message of `len` bytes (**R165**). -/
def hmacOps (h len : Nat) : List (Nat × Nat) :=
  if h = 1 then [(2, (len + 9 + 63) / 64 + 1)] else [(2, (len + 17 + 127) / 128 + 1)]

/-- HMAC_GENERATE (**R165**). -/
def execHmacGenerate (rid : Nat) (spUe : Option Nat) (s : State) : Res :=
  runCmd 0x1101 (preHmac "GC") (pureCalc fun r k _ =>
    let h := r.desc.p % 16
    { output := (hmac h (matOf k.a) r.input).take (hmacLen r), ops := hmacOps h r.input.length }) rid spUe s

/-- HMAC_VERIFY (**R165**): the MAC, then the message. -/
def execHmacVerify (rid : Nat) (spUe : Option Nat) (s : State) : Res :=
  runCmd 0x1102 (preHmac "VC") (pureCalc fun r k _ =>
    let h := r.desc.p % 16
    let n := hmacLen r
    let m := r.input.drop n
    { verdict ((hmac h (matOf k.a) m).take n == r.input.take n) with ops := hmacOps h m.length }) rid spUe s

-- RANDOM (R85) -----------------------------------------------------------------------------------------------------------------------

/-- RANDOM: OUT_CAP bytes from the class's instances. -/
def execRandom (rid : Nat) (spUe : Option Nat) (s : State) : Res :=
  runCmd 0x4001 noPre (pureCalc fun r _ n => okOut (freeBytes n r.desc.outCap.toNat)) rid spUe s

end Sys2Proof.Machine
end

