-- ==== Sys2Proof/Machine/Bignum.lean ====
section
/-! DEFINITION. Big-number arithmetic of the Oryx cores and the Markhor callers: RSA and its paddings (RFC 8017),
the P-curves, X25519 and X448 (RFC 7748), Ed25519 and Ed448 (RFC 8032) (**R170**-**R189**; log entry 8). -/

namespace Sys2Proof.Machine

-- Modular arithmetic --------------------------------------------------------------------------------------------

/-- b^e mod m over the low `k` bits of e. -/
def powModN (m : Nat) : Nat → Nat → Nat → Nat
  | 0, _, _ => 1 % m
  | k + 1, b, e =>
    let r := powModN m k (b * b % m) (e / 2)
    if e % 2 = 1 then b * r % m else r

/-- b^e mod m. -/
def powMod (m b e : Nat) : Nat := powModN m (Nat.log2 e + 1) (b % m) e

/-- The inverse modulo a prime. -/
def invMod (p a : Nat) : Nat := powMod p a (p - 2)

/-- Subtraction modulo p. -/
def subMod (p a b : Nat) : Nat := (a + (p - b % p)) % p

-- RSA -----------------------------------------------------------------------------------------------------------

/-- An RSA public key in the inline layout of **R177**. -/
structure RsaPub where
  /-- Modulus words of 64 bits. -/
  w : Nat := 0
  /-- Public exponent. -/
  e : Nat := 0
  /-- Modulus. -/
  n : Nat := 0
  deriving DecidableEq, Repr

/-- The inline layout read (**R177**). -/
def rsaParse (l : Bytes) : RsaPub :=
  let w := leNat (bytesAt l 0 2)
  { w := w, e := beNat (bytesAt l 4 4), n := beNat (bytesAt l 8 (8 * w)) }

/-- The inline layout written (**R177**). -/
def rsaBytes (k : RsaPub) : Bytes := leBytes 2 k.w ++ [0, 0] ++ beBytes 4 k.e ++ beBytes (8 * k.w) k.n

/-- The key passes the validation phase (**R184**) for lengths of at least `wMin` words. -/
def rsaKeyOk (wMin : Nat) (k : RsaPub) : Bool :=
  wMin ≤ k.w && k.w ≤ 128 && k.n % 2 == 1 && decide (2 ^ (64 * k.w - 1) ≤ k.n) && k.e % 2 == 1 && 3 ≤ k.e &&
    k.e < 2 ^ 32

/-- The DER prefix of DigestInfo for a hash code (RFC 8017 §9.2). -/
def digestInfo (h : Nat) : Bytes :=
  let n : Byte := if h = 1 then 1 else if h = 2 then 2 else 3
  let l := hashLen h
  [0x30, BitVec.ofNat 8 (l + 17), 0x30, 0x0D, 0x06, 0x09, 0x60, 0x86, 0x48, 0x01, 0x65, 0x03, 0x04, 0x02, n] ++
    [0x05, 0x00, 0x04, BitVec.ofNat 8 l]

/-- EMSA-PKCS1-v1_5 in `k` bytes. -/
def emsaPkcs1 (k h : Nat) (digest : Bytes) : Bytes :=
  let t := digestInfo h ++ digest
  [0x00, 0x01] ++ List.replicate (k - 3 - t.length) 0xFF ++ [0x00] ++ t

/-- MGF1 blocks from a counter up. -/
def mgf1Blocks (h : Nat) (seed : Bytes) : Nat → Nat → Bytes
  | 0, _ => []
  | n + 1, i => hashOf h (seed ++ beBytes 4 i) ++ mgf1Blocks h seed n (i + 1)

/-- MGF1. -/
def mgf1 (h : Nat) (seed : Bytes) (len : Nat) : Bytes := (mgf1Blocks h seed (len / hashLen h + 1) 0).take len

/-- EMSA-PSS over `64 w - 1` bits with a salt as long as the digest (**R178**). -/
def emsaPss (k h : Nat) (digest salt : Bytes) : Bytes :=
  let hh := hashOf h (List.replicate 8 0 ++ digest ++ salt)
  let dbLen := k - hashLen h - 1
  let db := List.replicate (dbLen - salt.length - 1) 0 ++ [0x01] ++ salt
  let masked := xorBytes db (mgf1 h hh dbLen)
  match masked with
  | b :: r => (b &&& 0x7F) :: r ++ hh ++ [0xBC]
  | [] => []

/-- EMSA-PSS verification. -/
def emsaPssVerify (k h : Nat) (digest em : Bytes) : Bool :=
  let hl := hashLen h
  let dbLen := k - hl - 1
  let masked := em.take dbLen
  let hh := (em.drop dbLen).take hl
  let dbx := xorBytes masked (mgf1 h hh dbLen)
  let db := match dbx with
    | b :: r => (b &&& 0x7F) :: r
    | [] => []
  let salt := db.drop (dbLen - hl)
  em.getLastD 0 == 0xBC && !(masked.headD 0).msb &&
    db.take (dbLen - hl) == List.replicate (dbLen - hl - 1) 0 ++ [0x01] &&
    hh == hashOf h (List.replicate 8 0 ++ digest ++ salt)

/-- OAEP encoding in `k` bytes with an empty label. -/
def oaepEncode (k h : Nat) (m seed : Bytes) : Bytes :=
  let hl := hashLen h
  let db := hashOf h [] ++ List.replicate (k - m.length - 2 * hl - 2) 0 ++ [0x01] ++ m
  let masked := xorBytes db (mgf1 h seed (k - hl - 1))
  [0x00] ++ xorBytes seed (mgf1 h masked hl) ++ masked

/-- OAEP decoding. -/
def oaepDecode (k h : Nat) (em : Bytes) : Option Bytes :=
  let hl := hashLen h
  let masked := em.drop (hl + 1)
  let seed := xorBytes ((em.drop 1).take hl) (mgf1 h masked hl)
  let db := xorBytes masked (mgf1 h seed (k - hl - 1))
  let rest := (db.drop hl).dropWhile (· == 0)
  if em.headD 1 == 0 && db.take hl == hashOf h [] && rest.headD 0 == 1 then some (rest.drop 1) else none

/-- The byte generator of implicit rejection (draft-irtf-cfrg-rsa-guidance): blocks from a counter up. -/
def irPrf (kdk label : Bytes) (len : Nat) : Nat → Nat → Bytes
  | 0, _ => []
  | n + 1, i => hmac 1 kdk (beBytes 2 i ++ label ++ beBytes 2 (8 * len)) ++ irPrf kdk label len n (i + 1)

/-- The smallest all-ones number at or above n, over 16 bits. -/
def onesAbove (n : Nat) : Nat := 2 ^ (Nat.log2 n + 1) - 1

/-- PKCS #1 v1.5 decryption with implicit rejection (**R186**): private exponent, ciphertext, decrypted block. -/
def pkcs1Decode (k d : Nat) (ct em : Bytes) : Bytes :=
  let kdk := hmac 1 (sha256 (beBytes k d)) ct
  let lens := (irPrf kdk (ascii "length") 256 8 0).take 256
  let alt := (irPrf kdk (ascii "message") k (k / 32 + 1) 0).take k
  let limit := k - 10
  let altLen := (chunks 2 lens).foldl (fun a c =>
    let v := Nat.land (beNat c) (onesAbove limit)
    if v < limit then v else a) 0
  let body := em.drop 2
  let ps := body.takeWhile (· != 0)
  if em.take 2 == [0x00, 0x02] && 8 ≤ ps.length && ps.length < body.length then body.drop (ps.length + 1)
  else alt.drop (k - altLen)

-- P-curves ------------------------------------------------------------------------------------------------------

/-- A short Weierstrass curve with a = -3. -/
structure Curve where
  /-- Field element length in bytes. -/
  len : Nat
  /-- Bits of the order. -/
  nbits : Nat
  /-- Field prime. -/
  p : Nat
  /-- Coefficient b. -/
  b : Nat
  /-- Order. -/
  n : Nat
  /-- Generator x. -/
  gx : Nat
  /-- Generator y. -/
  gy : Nat
  deriving DecidableEq, Repr

/-- P-256 (FIPS 186-5, SP 800-186). -/
def p256 : Curve where
  len := 32
  nbits := 256
  p := 2 ^ 256 - 2 ^ 224 + 2 ^ 192 + 2 ^ 96 - 1
  b := 0x5AC635D8AA3A93E7B3EBBD55769886BC651D06B0CC53B0F63BCE3C3E27D2604B
  n := 0xFFFFFFFF00000000FFFFFFFFFFFFFFFFBCE6FAADA7179E84F3B9CAC2FC632551
  gx := 0x6B17D1F2E12C4247F8BCE6E563A440F277037D812DEB33A0F4A13945D898C296
  gy := 0x4FE342E2FE1A7F9B8EE7EB4A7C0F9E162BCE33576B315ECECBB6406837BF51F5

/-- P-384. -/
def p384 : Curve where
  len := 48
  nbits := 384
  p := 2 ^ 384 - 2 ^ 128 - 2 ^ 96 + 2 ^ 32 - 1
  b := 0xB3312FA7E23EE7E4988E056BE3F82D19181D9C6EFE8141120314088F5013875AC656398D8A2ED19D2A85C8EDD3EC2AEF
  n := 0xFFFFFFFFFFFFFFFFFFFFFFFFFFFFFFFFFFFFFFFFFFFFFFFFC7634D81F4372DDF581A0DB248B0A77AECEC196ACCC52973
  gx := 0xAA87CA22BE8B05378EB1C71EF320AD746E1D3B628BA79B9859F741E082542A385502F25DBF55296C3A545E3872760AB7
  gy := 0x3617DE4A96262C6F5D9E98BF9292DC29F8F41DBD289A147CE9DA3113B5F0B8C00A60B1CE1D7E819D7A431D7C90EA0E5F

/-- P-521. -/
def p521 : Curve where
  len := 66
  nbits := 521
  p := 2 ^ 521 - 1
  b := 0x0051953EB9618E1C9A1F929A21A0B68540EEA2DA725B99B315F3B8B489918EF109E156193951EC7E937B1652C0BD3BB1BF073573DF883D2C34F1EF451FD46B503F00
  n := 0x01FFFFFFFFFFFFFFFFFFFFFFFFFFFFFFFFFFFFFFFFFFFFFFFFFFFFFFFFFFFFFFFFFA51868783BF2F966B7FCC0148F709A5D03BB5C9B8899C47AEBB6FB71E91386409
  gx := 0x00C6858E06B70404E9CD9E3ECB662395B4429C648139053FB521F828AF606B4D3DBAA14B5E77EFE75928FE1DC127A2FFA8DE3348B3C1856A429BF97E7E31C2E5BD66
  gy := 0x011839296A789A3BC0045C8A5FB42C7D1BD998F54449579B446817AFBD17273E662C97EE72995EF42640C550B9013FAD0761353C7086A272C24088BE94769FD16650

/-- The P-curve of a curve code 1-3 (**R86**). -/
def curveOf (code : Nat) : Curve := if code = 2 then p384 else if code = 3 then p521 else p256

/-- A point; none is the identity. -/
abbrev Point := Option (Nat × Nat)

/-- The point lies on the curve. -/
def onCurve (c : Curve) (x y : Nat) : Bool :=
  x < c.p && y < c.p && (y * y + 3 * x) % c.p == (x * x * x + c.b) % c.p

/-- Point addition. -/
def ecAdd (c : Curve) : Point → Point → Point
  | none, q => q
  | q, none => q
  | some (x1, y1), some (x2, y2) =>
    if x1 = x2 ∧ (y1 + y2) % c.p = 0 then none
    else
      let l :=
        if x1 = x2 then (3 * x1 * x1 + (c.p - 3)) * invMod c.p (2 * y1) % c.p
        else subMod c.p y2 y1 * invMod c.p (subMod c.p x2 x1) % c.p
      let x3 := subMod c.p (l * l) (x1 + x2)
      some (x3, subMod c.p (l * subMod c.p x1 x3) y1)

/-- k times a point, over the low `n` bits of k. -/
def ecMulN (c : Curve) : Nat → Nat → Point → Point
  | 0, _, _ => none
  | n + 1, k, q => 
    let r := ecMulN c n (k / 2) (ecAdd c q q)
    if k % 2 = 1 then ecAdd c q r else r

/-- k times a point. -/
def ecMul (c : Curve) (k : Nat) (q : Point) : Point := ecMulN c (Nat.log2 k + 1) k q

/-- The generator. -/
def ecBase (c : Curve) : Point := some (c.gx, c.gy)

/-- A SEC 1 point, uncompressed or compressed (**R177**), valid under **R184**. -/
def ecDecode (c : Curve) (l : Bytes) : Option (Nat × Nat) :=
  let tag := l.headD 0
  if tag = 0x04 ∧ l.length = 2 * c.len + 1 then
    let x := beNat (bytesAt l 1 c.len)
    let y := beNat (bytesAt l (1 + c.len) c.len)
    if onCurve c x y then some (x, y) else none
  else if (tag = 0x02 ∨ tag = 0x03) ∧ l.length = c.len + 1 then
    let x := beNat (bytesAt l 1 c.len)
    let t := (x * x * x + c.b + (c.p - 3) * x) % c.p
    let y := powMod c.p t ((c.p + 1) / 4)
    let y' := if y % 2 = tag.toNat % 2 then y else c.p - y
    if onCurve c x y' then some (x, y') else none
  else none

/-- The uncompressed encoding of a point; the identity has none and is never encoded. -/
def ecEncode (c : Curve) : Point → Bytes
  | some (x, y) => [0x04] ++ beBytes c.len x ++ beBytes c.len y
  | none => []

/-- A digest as a number of at most the order's bits: its leftmost bits (**R179**). -/
def digestNat (c : Curve) (d : Bytes) : Nat := beNat d / 2 ^ (8 * d.length - c.nbits)

/-- ECDSA with a given nonce: r then s. -/
def ecdsaSign (c : Curve) (d k : Nat) (digest : Bytes) : Nat × Nat :=
  let r := match ecMul c k (ecBase c) with
    | some (x, _) => x % c.n
    | none => 0
  (r, invMod c.n k * (digestNat c digest + r * d) % c.n)

/-- ECDSA verification (**R185**) for r and s in range. -/
def ecdsaVerify (c : Curve) (q : Point) (digest : Bytes) (r s : Nat) : Bool :=
  let w := invMod c.n s
  match ecAdd c (ecMul c (digestNat c digest * w % c.n) (ecBase c)) (ecMul c (r * w % c.n) q) with
  | some (x, _) => x % c.n == r
  | none => false

-- X-curves ------------------------------------------------------------------------------------------------------

/-- Field prime of X25519 and Ed25519. -/
def p25519 : Nat := 2 ^ 255 - 19

/-- Field prime of X448 and Ed448. -/
def p448 : Nat := 2 ^ 448 - 2 ^ 224 - 1

/-- Montgomery ladder from bit `n - 1` down on (x2, z2, x3, z3). -/
def ladder (p a24 u k : Nat) : Nat → Nat × Nat × Nat × Nat → Nat × Nat × Nat × Nat
  | 0, v => v
  | n + 1, (x2, z2, x3, z3) =>
    let bit := k.testBit n
    let (x2, z2, x3, z3) := if bit then (x3, z3, x2, z2) else (x2, z2, x3, z3)
    let a := (x2 + z2) % p
    let aa := a * a % p
    let b := subMod p x2 z2
    let bb := b * b % p
    let e := subMod p aa bb
    let c := (x3 + z3) % p
    let d := subMod p x3 z3
    let da := d * a % p
    let cb := c * b % p
    let y3 := (da + cb) * (da + cb) % p
    let w3 := u * (subMod p da cb * subMod p da cb % p) % p
    let y2 := aa * bb % p
    let w2 := e * ((aa + a24 * e) % p) % p
    ladder p a24 u k n (if bit then (y3, w3, y2, w2) else (y2, w2, y3, w3))

/-- u-coordinate of k times the point of u, over `n` bits of k; 0 for the identity. -/
def ladderMul (p a24 n k u : Nat) : Nat :=
  match ladder p a24 u k n (1, 0, u, 1) with
  | (x2, z2, _, _) => x2 * invMod p z2 % p

/-- X25519 scalar as RFC 7748 clamps it. -/
def clamp25519 (b : Bytes) : Nat := (leNat b % 2 ^ 254 / 8 * 8) + 2 ^ 254

/-- X448 scalar as RFC 7748 clamps it. -/
def clamp448 (b : Bytes) : Nat := leNat b % 2 ^ 447 / 4 * 4 + 2 ^ 447

/-- X25519 (code 4) or X448 (code 5) on byte strings. -/
def xdh (code : Nat) (scalar u : Bytes) : Bytes :=
  if code = 5 then leBytes 56 (ladderMul p448 39081 448 (clamp448 scalar) (leNat u))
  else leBytes 32 (ladderMul p25519 121665 255 (clamp25519 scalar) (leNat u))

/-- The base point's u-coordinate. -/
def xBase (code : Nat) : Bytes := if code = 5 then leBytes 56 5 else leBytes 32 9

/-- A u-coordinate below p and not of small order (**R184**). -/
def xOk (code : Nat) (u : Bytes) : Bool :=
  if code = 5 then u.length == 56 && leNat u < p448 && ladderMul p448 39081 3 4 (leNat u) != 0
  else u.length == 32 && leNat u < p25519 && ladderMul p25519 121665 4 8 (leNat u) != 0

-- Ed-curves -----------------------------------------------------------------------------------------------------

/-- A twisted Edwards curve a x^2 + y^2 = 1 + d x^2 y^2 of RFC 8032. -/
structure EdCurve where
  /-- True for Ed448. -/
  goldilocks : Bool
  /-- Field prime. -/
  p : Nat
  /-- Coefficient a modulo p. -/
  a : Nat
  /-- Coefficient d modulo p. -/
  d : Nat
  /-- Order of the prime subgroup. -/
  l : Nat
  /-- Encoding length. -/
  len : Nat
  /-- Cofactor. -/
  cof : Nat
  /-- Generator x. -/
  gx : Nat
  /-- Generator y. -/
  gy : Nat
  deriving DecidableEq, Repr

/-- Ed25519. -/
def ed25519 : EdCurve where
  goldilocks := false
  p := p25519
  a := p25519 - 1
  d := 0x52036CEE2B6FFE738CC740797779E89800700A4D4141D8AB75EB4DCA135978A3
  l := 2 ^ 252 + 27742317777372353535851937790883648493
  len := 32
  cof := 8
  gx := 15112221349535400772501151409588531511454012693041857206046113283949847762202
  gy := 46316835694926478169428394003475163141307993866256225615783033603165251855960

/-- Ed448. -/
def ed448 : EdCurve where
  goldilocks := true
  p := p448
  a := 1
  d := p448 - 39081
  l := 2 ^ 446 - 13818066809895115352007386748515426880336692474882178609894547503885
  len := 57
  cof := 4
  gx := 224580040295924300187604334099896036246789641632564134246125461686950415467406032909029192869357953282578032075146446173674602635247710
  gy := 298819210078481492676017930443930673437544040154080242095928241372331506189835876003536878655418784733982303233503462500531545062832660

/-- The Ed-curve of a curve code 6 or 7. -/
def edOf (code : Nat) : EdCurve := if code = 7 then ed448 else ed25519

/-- Projective addition, complete on these curves. -/
def edAdd (c : EdCurve) (q r : Nat × Nat × Nat) : Nat × Nat × Nat :=
  let (x1, y1, z1) := q
  let (x2, y2, z2) := r
  let a := z1 * z2 % c.p
  let b := a * a % c.p
  let cc := x1 * x2 % c.p
  let d := y1 * y2 % c.p
  let e := c.d * (cc * d % c.p) % c.p
  let f := subMod c.p b e
  let g := (b + e) % c.p
  (a * f % c.p * subMod c.p ((x1 + y1) * (x2 + y2)) (cc + d) % c.p, a * g % c.p * subMod c.p d (c.a * cc) % c.p,
   f * g % c.p)

/-- k times a point, over the low `n` bits of k. -/
def edMulN (c : EdCurve) : Nat → Nat → Nat × Nat × Nat → Nat × Nat × Nat
  | 0, _, _ => (0, 1, 1)
  | n + 1, k, q =>
    let r := edMulN c n (k / 2) (edAdd c q q)
    if k % 2 = 1 then edAdd c q r else r

/-- k times a point. -/
def edMul (c : EdCurve) (k : Nat) (q : Nat × Nat × Nat) : Nat × Nat × Nat := edMulN c (Nat.log2 k + 1) k q

/-- Equality of projective points. -/
def edEq (c : EdCurve) (q r : Nat × Nat × Nat) : Bool :=
  q.1 * r.2.2 % c.p == r.1 * q.2.2 % c.p && q.2.1 * r.2.2 % c.p == r.2.1 * q.2.2 % c.p

/-- The identity. -/
def edZero : Nat × Nat × Nat := (0, 1, 1)

/-- The generator. -/
def edBase (c : EdCurve) : Nat × Nat × Nat := (c.gx, c.gy, 1)

/-- RFC 8032 encoding. -/
def edEncode (c : EdCurve) (q : Nat × Nat × Nat) : Bytes :=
  let zi := invMod c.p q.2.2
  leBytes c.len (q.2.1 * zi % c.p + 2 ^ (8 * c.len - 1) * (q.1 * zi % c.p % 2))

/-- RFC 8032 decoding, refusing y at or above p and an encoding with no x (**R184**). -/
def edDecode (c : EdCurve) (l : Bytes) : Option (Nat × Nat × Nat) :=
  let v := leNat l
  let y := v % 2 ^ (8 * c.len - 1)
  let sign := v / 2 ^ (8 * c.len - 1)
  if c.p ≤ y ∨ l.length ≠ c.len then none
  else
    let u := subMod c.p (y * y) 1
    let w := subMod c.p (c.d * (y * y % c.p)) c.a
    let x2 := u * invMod c.p w % c.p
    let x0 := if c.goldilocks then powMod c.p x2 ((c.p + 1) / 4) else powMod c.p x2 ((c.p + 3) / 8)
    let x := if x0 * x0 % c.p = x2 then x0 else x0 * powMod c.p 2 ((c.p - 1) / 4) % c.p
    if x * x % c.p ≠ x2 ∨ (x = 0 ∧ sign = 1) then none
    else some ((if x % 2 = sign then x else c.p - x), y, 1)

/-- The hash of EdDSA: SHA-512, or SHAKE256 of 114 bytes behind dom4 with an empty context (**R179**). -/
def edHash (c : EdCurve) (m : Bytes) : Bytes :=
  if c.goldilocks then shake256 (ascii "SigEd448" ++ [0, 0] ++ m) 114 else sha512 m

/-- The secret scalar and the prefix of a private key. -/
def edSecret (c : EdCurve) (priv : Bytes) : Nat × Bytes :=
  let h := if c.goldilocks then shake256 priv 114 else sha512 priv
  (if c.goldilocks then leNat (h.take 56) % 2 ^ 447 / 4 * 4 + 2 ^ 447 else clamp25519 (h.take 32), h.drop c.len)

/-- The public key of a private key. -/
def edPublic (c : EdCurve) (priv : Bytes) : Bytes := edEncode c (edMul c (edSecret c priv).1 (edBase c))

/-- EdDSA signature (RFC 8032). -/
def edSign (c : EdCurve) (priv m : Bytes) : Bytes :=
  let (s, pre) := edSecret c priv
  let a := edPublic c priv
  let r := leNat (edHash c (pre ++ m)) % c.l
  let rb := edEncode c (edMul c r (edBase c))
  let k := leNat (edHash c (rb ++ a ++ m)) % c.l
  rb ++ leBytes c.len ((r + k * s) % c.l)

/-- A public key in the prime-order subgroup (**R184**). -/
def edKeyOk (c : EdCurve) (a : Bytes) : Bool :=
  match edDecode c a with
  | some q => edEq c (edMul c c.l q) edZero
  | none => false

/-- The signature's parts pass **R184**: R decodes and is not of small order, S is below the order. -/
def edSigOk (c : EdCurve) (sig : Bytes) : Bool :=
  (match edDecode c (sig.take c.len) with
   | some r => !edEq c (edMul c c.cof r) edZero
   | none => false) && leNat (sig.drop c.len) < c.l

/-- The cofactored equation of **R185**. -/
def edVerify (c : EdCurve) (a m sig : Bytes) : Bool :=
  match edDecode c a, edDecode c (sig.take c.len) with
  | some qa, some qr =>
    let k := leNat (edHash c (sig.take c.len ++ a ++ m)) % c.l
    let s := leNat (sig.drop c.len)
    edEq c (edMul c c.cof (edMul c s (edBase c))) (edMul c c.cof (edAdd c qr (edMul c k qa)))
  | _, _ => false

end Sys2Proof.Machine
end

