-- ==== Sys2Proof/Machine/Oryx.lean ====
section
/-! DEFINITION. The Oryx commands of group 0x20 (**R176**-**R189**): RSA, the curves and the modular commands; and the
records of asymmetric keys (**R180**-**R182**). -/

namespace Sys2Proof.Machine

-- Asymmetric records (R180-R182) ------------------------------------------------------------------------------------------------

/-- Attributes of a key pair that a command makes itself: usage, algorithm, mode, parameter code, exportability. Key
version and context, which no rule gives, are free values (log entry 7). -/
def madeAttrs (usage alg mode : String) (param : Nat) (exp : String) (n : Nat) : Bytes :=
  ascii usage ++ ascii alg ++ ascii mode ++ freeBytes n 2 ++ ascii exp ++ freeBytes (n + 1) 1 ++ leBytes 2 param ++
    [0, 0, 0, 0, 0, 0]

/-- A key pair's record: flag [0] generated inside (**R137**). -/
def pairRecord (attrs : Bytes) (dom : Nat) (priv pub : Bytes) : KeyRec where
  typ := 2
  attrs := attrsWith attrs 1 dom
  confirm := List.replicate 16 0
  material := priv
  pub := pub

/-- A key of the command's family: usage, mode, algorithm letter and parameter code. -/
def needPair (k : Option KeyRec) (usage modes alg : String) (params : List Nat) : Option (Nat × Nat) :=
  match k with
  | none => none
  | some x =>
    firstFail [needKey 1 k usage modes alg [],
      require (params.isEmpty || params.contains x.bits) (usageFail 1 3)]

/-- MALFORMED for a length that only the key record shows (**R77** 0x06). -/
def badLen : Option (Nat × Nat) := some (stMalformed, malDetail 0x14 6)

/-- MALFORMED for a key that the ENSIGN row does not cover (**R97**). -/
def badRow : Option (Nat × Nat) := some (stMalformed, malDetail 0x3E 10)

/-- INPUT_REJECTED (**R184**). -/
def rejected : Answer := { status := stRejected }

/-- The ENSIGN row of a request, none where no row is given. -/
def rowOf (r : Req) : Option Nat := if r.isEnsign && r.desc.row != 0 then some r.desc.row else none

/-- A curve row is exact (**R192**); row 0 serves every curve of the command (log entry 32). -/
def curveRow (r : Req) (cv : Nat) : Option (Nat × Nat) :=
  match rowOf r with
  | some x => require (x == cv) badRow
  | none => none

/-- Curve code of a command: the record's, or P0's with an inline key. -/
def curveCode (r : Req) (k : Keys) : Nat := match k.a with | some x => x.bits | none => r.desc.q % 16

/-- The public key of a command and the rest of its input: the record's, or `n` bytes inline. -/
def pubOf (r : Req) (k : Keys) (n : Nat) : Bytes × Bytes :=
  match k.a with
  | some x => (x.pub, r.input)
  | none => (r.input.take n, r.input.drop n)

-- RSA (R178, R186) ---------------------------------------------------------------------------------------------------------------

/-- RSA key of a command, and the rest of the input. -/
def rsaOf (r : Req) (k : Keys) : RsaPub × Bytes :=
  let (p, rest) := pubOf r k (8 + 8 * leNat (bytesAt r.input 0 2))
  (rsaParse p, rest)

/-- The RSA row covers the key. -/
def rsaRow (r : Req) (k : Keys) : Option (Nat × Nat) :=
  if r.isEnsign && (if r.desc.row = 0 then 8 else r.desc.row) * 8 < (rsaOf r k).1.w then badRow else none

/-- Checks of RSA_SIGN. -/
def preRsaSign : Pre := fun _ r k => firstFail [needPair k.a "S0" "ST" "R" [], rsaRow r k]

/-- RSA_SIGN (**R178**). -/
def execRsaSign (rid : Nat) (spUe : Option Nat) (s : State) : Res :=
  runCmd 0x2001 preRsaSign (pureCalc fun r k n =>
    let key := (rsaOf r k).1
    let h := leNat (r.input.take 1)
    let dg := r.input.drop 1
    let em := if r.desc.p % 16 = 1 then emsaPkcs1 (8 * key.w) h dg else emsaPss (8 * key.w) h dg (freeBytes n (hashLen h))
    let m := beNat em
    if m = 0 ∨ key.n ≤ m then rejected else okOut (beBytes (8 * key.w) (powMod key.n m (beNat (matOf k.a))))) rid spUe s

/-- Checks of RSA_VERIFY: with a stored key, the lengths of its layout. -/
def preRsaVerify : Pre := fun _ r k =>
  let (key, rest) := rsaOf r k
  let h := leNat (bytesAt rest (8 * key.w) 1)
  firstFail [
    needPair k.a "S0" "VS" "R" [], rsaRow r k,
    require (k.a.isNone || (8 * key.w < rest.length && rest.length ≤ 8 * key.w + 65)) badLen,
    require (1 ≤ h && h ≤ 3) (some (stMalformed, malDetail (r.input.length - rest.length + 8 * key.w) 10)),
    require (rest.length == 8 * key.w + 1 + hashLen h) badLen]

/-- RSA_VERIFY (**R178**, **R185**). -/
def execRsaVerify (rid : Nat) (spUe : Option Nat) (s : State) : Res :=
  runCmd 0x2002 preRsaVerify (pureCalc fun r k _ =>
    let (key, rest) := rsaOf r k
    let sig := beNat (rest.take (8 * key.w))
    let h := leNat (bytesAt rest (8 * key.w) 1)
    let dg := rest.drop (8 * key.w + 1)
    if !rsaKeyOk 16 key || sig == 0 || key.n ≤ sig then rejected
    else
      let em := beBytes (8 * key.w) (powMod key.n sig key.e)
      verdict (if r.desc.p % 16 = 1 then em == emsaPkcs1 (8 * key.w) h dg else emsaPssVerify (8 * key.w) h dg em)) rid spUe s

/-- Bytes that a padding takes of the modulus length. -/
def rsaPad (r : Req) : Nat := if r.desc.q % 16 = 1 then 11 else 2 * hashLen (r.desc.q / 16 % 16) + 2

/-- Checks of RSA_DECRYPT: the ciphertext's length and the largest plaintext. -/
def preRsaDecrypt : Pre := fun _ r k =>
  let w := (rsaOf r k).1.w
  firstFail [
    needPair k.a "D1" "DT" "R" [],
    require (r.input.length == 8 * w) badLen,
    require (8 * w - rsaPad r ≤ r.desc.outCap.toNat) (some (stMalformed, malDetail 0x30 7))]

/-- RSA_DECRYPT (**R186**): implicit rejection for PKCS #1 v1.5, INPUT_REJECTED for OAEP. -/
def execRsaDecrypt (rid : Nat) (spUe : Option Nat) (s : State) : Res :=
  runCmd 0x2003 preRsaDecrypt (pureCalc fun r k _ =>
    let key := (rsaOf r k).1
    let c := beNat r.input
    let d := beNat (matOf k.a)
    if c = 0 ∨ key.n ≤ c then rejected
    else
      let em := beBytes (8 * key.w) (powMod key.n c d)
      if r.desc.q % 16 = 1 then okOut (pkcs1Decode (8 * key.w) d r.input em)
      else
        match oaepDecode (8 * key.w) (r.desc.q / 16 % 16) em with
        | some m => okOut m
        | none => rejected) rid spUe s

/-- Checks of RSA_ENCRYPT: the plaintext fits the padding. -/
def preRsaEncrypt : Pre := fun _ r k =>
  let (key, rest) := rsaOf r k
  firstFail [
    needPair k.a "D1" "EB" "R" [],
    require (rest.length + rsaPad r ≤ 8 * key.w) badLen]

/-- RSA_ENCRYPT (**R178**). -/
def execRsaEncrypt (rid : Nat) (spUe : Option Nat) (s : State) : Res :=
  runCmd 0x2004 preRsaEncrypt (pureCalc fun r k n =>
    let (key, m) := rsaOf r k
    let len := 8 * key.w
    if !rsaKeyOk 16 key then rejected
    else
      let em := if r.desc.q % 16 = 1 then
          [0x00, 0x02] ++ (freeBytes n (len - 3 - m.length)).map (fun b => BitVec.ofNat 8 (1 + b.toNat % 255)) ++ [0x00] ++ m
        else oaepEncode len (r.desc.q / 16 % 16) m (freeBytes n (hashLen (r.desc.q / 16 % 16)))
      okOut (beBytes len (powMod key.n (beNat em) key.e))) rid spUe s

/-- RSA_KEYGEN (**R178**): modulus and private exponent are free values, the modulus odd and of full length. -/
def execRsaKeygen (rid : Nat) (spUe : Option Nat) (s : State) : Res :=
  runCmd 0x2005 noPre (pureCalc fun r _ n =>
    let w := r.desc.q % 256
    let e := beNat (r.input.take 4)
    let low := 2 ^ (64 * w - 1)
    if e % 2 = 0 ∨ e < 3 then rejected
    else
      let modulus := low + (beNat (freeBytes n (8 * w)) % low) / 2 * 2 + 1
      let pub := rsaBytes { w := w, e := e, n := modulus }
      let attrs := if r.desc.q / 256 = 1 then madeAttrs "S0" "R" "S" (64 * w) "N" (n + 2)
        else madeAttrs "D1" "R" "D" (64 * w) "N" (n + 2)
      { output := pub, store := some (pairRecord attrs r.domain (freeBytes (n + 1) (8 * w)) pub) }) rid spUe s

-- Curves (R179) -------------------------------------------------------------------------------------------------------------------

/-- Free digest steps of an EdDSA operation, SHA-512 or Keccak (log entry 7). -/
def edOps (cv n : Nat) : List (Nat × Nat) := [(if cv = 7 then 3 else 2, Config.freeNat n)]

/-- ECDSA_SIGN (**R179**). -/
def execEcdsaSign (rid : Nat) (spUe : Option Nat) (s : State) : Res :=
  runCmd 0x2006 (fun _ r k => firstFail [needPair k.a "S0" "S" "E" [1, 2, 3], curveRow r (curveCode r k)])
    (pureCalc fun r k n =>
      let c := curveOf (curveCode r k)
      let nonce := beNat (freeBytes n (2 * c.len)) % c.n
      let (x, y) := ecdsaSign c (beNat (matOf k.a)) nonce r.input
      okOut (beBytes c.len x ++ beBytes c.len y)) rid spUe s

/-- Length of an inline curve key of the input. -/
def inlineCurve (r : Req) : Nat := curveInline (r.desc.q % 16) (r.input.headD 0)

/-- Checks of ECDSA_VERIFY. -/
def preEcdsaVerify : Pre := fun _ r k =>
  let cv := curveCode r k
  let rest := (pubOf r k (inlineCurve r)).2
  firstFail [
    needPair k.a "S0" "VS" "E" [1, 2, 3], curveRow r cv,
    require (curveSig cv < rest.length && rest.length ≤ curveSig cv + 64) badLen]

/-- ECDSA_VERIFY (**R184**, **R185**). -/
def execEcdsaVerify (rid : Nat) (spUe : Option Nat) (s : State) : Res :=
  runCmd 0x2007 preEcdsaVerify (pureCalc fun r k _ =>
    let c := curveOf (curveCode r k)
    let (pub, rest) := pubOf r k (inlineCurve r)
    let dl := rest.length - 2 * c.len
    let x := beNat (bytesAt rest dl c.len)
    let y := beNat (bytesAt rest (dl + c.len) c.len)
    match ecDecode c pub with
    | none => rejected
    | some q =>
      if x = 0 ∨ y = 0 ∨ c.n ≤ x ∨ c.n ≤ y then rejected else verdict (ecdsaVerify c (some q) (rest.take dl) x y)) rid spUe s

/-- EDDSA_SIGN (**R179**). -/
def execEddsaSign (rid : Nat) (spUe : Option Nat) (s : State) : Res :=
  runCmd 0x2008 (fun _ r k => firstFail [needPair k.a "S0" "S" "E" [6, 7], curveRow r (curveCode r k)])
    (pureCalc fun r k n =>
      let cv := curveCode r k
      { output := edSign (edOf cv) (matOf k.a) r.input, ops := edOps cv n }) rid spUe s

/-- Checks of EDDSA_VERIFY. -/
def preEddsaVerify : Pre := fun _ r k =>
  let cv := curveCode r k
  firstFail [
    needPair k.a "S0" "VS" "E" [6, 7], curveRow r cv,
    require (curveSig cv ≤ (pubOf r k (curveLen cv)).2.length) badLen]

/-- EDDSA_VERIFY (**R184**, **R185**). -/
def execEddsaVerify (rid : Nat) (spUe : Option Nat) (s : State) : Res :=
  runCmd 0x2009 preEddsaVerify (pureCalc fun r k n =>
    let cv := curveCode r k
    let c := edOf cv
    let (pub, rest) := pubOf r k (curveLen cv)
    let ml := rest.length - 2 * c.len
    let sig := rest.drop ml
    if !edKeyOk c pub || !edSigOk c sig then { rejected with ops := edOps cv n }
    else { verdict (edVerify c pub (rest.take ml) sig) with ops := edOps cv n }) rid spUe s

/-- What an attribute record of a symmetric key fails (**R138**), on handle 2. -/
def attrFail (a : Bytes) : Option (Nat × Nat) :=
  match attrKind { attrs := a } true with
  | some kind => usageFail 2 kind
  | none => none

/-- Shared-secret length of a curve. -/
def ecdhLen (cv : Nat) : Nat := curveLen cv

/-- Checks of ECDH_DERIVE: KEY_A, the peer key's length, the result's record. -/
def preEcdh : Pre := fun _ r k =>
  let cv := curveCode r k
  let n := r.input.length
  let a := bytesAt r.input (n - 16) 16
  firstFail [
    needPair k.a "K3" "X" "E" [1, 2, 3, 4, 5], curveRow r cv,
    require (n == 16 + curveInline cv (r.input.headD 0)) badLen, attrFail a,
    require (leNat (bytesAt a 8 2) ≤ 8 * ecdhLen cv) (usageFail 2 3)]

/-- The shared secret: the x- or u-coordinate; none where the peer key fails **R184**. -/
def ecdhSecret (cv : Nat) (priv peer : Bytes) : Option Bytes :=
  if cv ≤ 3 then
    let c := curveOf cv
    match ecDecode c peer with
    | some q => (match ecMul c (beNat priv) (some q) with | some (x, _) => some (beBytes c.len x) | none => none)
    | none => none
  else if xOk cv peer then some (xdh cv priv peer) else none

/-- ECDH_DERIVE (**R179**, **R361**): a VOLATILE symmetric key of the secret's leftmost bytes. -/
def execEcdhDerive (rid : Nat) (spUe : Option Nat) (s : State) : Res :=
  runCmd 0x200A preEcdh (pureCalc fun r k _ =>
    let n := r.input.length
    let a := bytesAt r.input (n - 16) 16
    match ecdhSecret (curveCode r k) (matOf k.a) (r.input.take (n - 16)) with
    | none => rejected
    | some z =>
      let key := z.take (leNat (bytesAt a 8 2) / 8)
      let x := { symRecord a (leNat (bytesAt a 10 2)) r.domain key with vol := true }
      if x.alg = chr "T" ∧ tdeaRepeats key then { status := stUsage, detail := 0x203 }
      else { output := x.kcv, store := some x, ops := entryOps x }) rid spUe s

/-- Checks of EC_KEYGEN's record (**R180**, **R181**): the curve's usage and mode. -/
def preEcKeygen : Pre := fun _ r _ =>
  let cv := r.desc.q % 16
  let a : KeyRec := { attrs := r.input.take 16 }
  let s0 := a.usage == ascii "S0" && cv != 4 && cv != 5
  let k3 := a.usage == ascii "K3" && cv ≤ 5
  firstFail [
    require (s0 || k3) (usageFail 2 1),
    require (a.alg == chr "E" && a.bits == cv) (usageFail 2 3),
    require (a.mode == chr (if s0 then "S" else "X")) (usageFail 2 2),
    require (a.exportability == chr "N" && (ascii "01").contains a.context) (usageFail 2 4)]

/-- Public key of a private curve key. -/
def curvePublic (cv : Nat) (priv : Bytes) : Bytes :=
  if cv ≤ 3 then let c := curveOf cv; ecEncode c (ecMul c (beNat priv) (ecBase c))
  else if cv ≤ 5 then xdh cv priv (xBase cv)
  else edPublic (edOf cv) priv

/-- A private curve key from randomness (**R179**). -/
def curvePrivate (cv n : Nat) : Bytes :=
  if cv ≤ 3 then let c := curveOf cv; beBytes c.len (beNat (freeBytes n (2 * c.len)) % c.n) else freeBytes n (curveLen cv)

/-- EC_KEYGEN (**R179**). -/
def execEcKeygen (rid : Nat) (spUe : Option Nat) (s : State) : Res :=
  runCmd 0x200B preEcKeygen (pureCalc fun r _ n =>
    let cv := r.desc.q % 16
    let priv := curvePrivate cv n
    let pub := curvePublic cv priv
    { output := pub, store := some (pairRecord (r.input.take 16) r.domain priv pub) }) rid spUe s

-- Modular commands (R178, R184) ----------------------------------------------------------------------------------------------------

/-- A modular command's modulus is accepted: 1-128 words, odd, top word not zero. -/
def modulusOk (w n : Nat) : Bool := 1 ≤ w && w ≤ 128 && n % 2 == 1 && decide (2 ^ (64 * (w - 1)) ≤ n)

/-- An operand is neither zero nor at or above the modulus. -/
def operandOk (n a : Nat) : Bool := a != 0 && a < n

/-- MOD_EXP (**R178**). -/
def execModExp (rid : Nat) (spUe : Option Nat) (s : State) : Res :=
  runCmd 0x200C noPre (pureCalc fun r _ _ =>
    let w := leNat (bytesAt r.input 0 2)
    let x := leNat (bytesAt r.input 2 2)
    let a := beNat (bytesAt r.input 4 (8 * w))
    let e := beNat (bytesAt r.input (4 + 8 * w) (8 * x))
    let n := beNat (bytesAt r.input (4 + 8 * w + 8 * x) (8 * w))
    if modulusOk w n && 1 ≤ x && x ≤ 128 && operandOk n a && e != 0 then okOut (beBytes (8 * w) (powMod n a e)) else rejected)
    rid spUe s

/-- MOD_MUL (**R178**). -/
def execModMul (rid : Nat) (spUe : Option Nat) (s : State) : Res :=
  runCmd 0x200D noPre (pureCalc fun r _ _ =>
    let w := leNat (bytesAt r.input 0 2)
    let at1 := fun (i : Nat) => beNat (bytesAt r.input (4 + 8 * w * i) (8 * w))
    let n := at1 2
    if modulusOk w n && operandOk n (at1 0) && operandOk n (at1 1) then okOut (beBytes (8 * w) (at1 0 * at1 1 % n)) else rejected)
    rid spUe s

end Sys2Proof.Machine
end

