-- ==== Sys2Proof/Machine/Pq.lean ====
section
/-! DEFINITION. The post-quantum and hybrid commands of groups 0x30, 0x31, 0x32 and 0x38 (**R198**-**R227**).  The schemes
themselves are opaque functions of Config brought to the lengths that the manual gives (log entry 9); layouts, checks,
records, indices and the hybrid combination are computed. -/

namespace Sys2Proof.Machine

-- Families ------------------------------------------------------------------------------------------------------------------------

/-- Private-key lengths of the schemes' standards (log entry 9): ML-KEM, ML-DSA, SLH-DSA, stateful, HQC, McEliece. -/
def pqPrivLen (fam : String) (p : Nat) : Nat :=
  match fam with
  | "K" => [1632, 2400, 3168].getD (p - 1) 0
  | "L" => [2560, 4032, 4896].getD (p - 1) 0
  | "S" => 4 * slhN p
  | "Q" => [2305, 4586, 7317].getD (p - 1) 0
  | "M" => [6492, 13608, 13932, 13948, 14120].getD ((p - 1) / 2) 0
  | _ => 64

/-- Public-key lengths. -/
def pqPubLen (fam : String) (p : Nat) : Nat :=
  match fam with
  | "K" => kemPub p
  | "L" => dsaPub p
  | "S" => slhPub p
  | "F" => statefulPub p
  | "Q" => hqcPub p
  | _ => mcePub p

/-- Number of a family in the opaque functions: its algorithm byte. -/
def famNo (fam : String) : Nat := (chr fam).toNat

/-- A key pair of a family from a draw: public key, private key. -/
def pqPair (fam : String) (p n : Nat) : Bytes × Bytes :=
  let (a, b) := Config.pqKeygen (famNo fam) p n
  (fit (pqPubLen fam p) a, fit (pqPrivLen fam p) b)

/-- Ciphertext length of a KEM family. -/
def pqCtLen (fam : String) (p : Nat) : Nat := if fam = "K" then kemCt p else if fam = "Q" then hqcCt p else mceCt p

/-- Encapsulation: ciphertext, secret of 32 bytes (**R203**). -/
def pqEncapsOf (fam : String) (p : Nat) (pub : Bytes) (n : Nat) : Bytes × Bytes :=
  let (c, z) := Config.pqEncaps (famNo fam) p pub n
  (fit (pqCtLen fam p) c, fit 32 z)

/-- Decapsulation with implicit rejection (**R205**, **R223**). -/
def pqDecapsOf (fam : String) (p : Nat) (priv ct : Bytes) : Bytes := fit 32 (Config.pqDecaps (famNo fam) p priv ct)

/-- Signature length of a family. -/
def pqSigLen (fam : String) (p : Nat) : Nat := if fam = "L" then dsaSig p else if fam = "S" then slhSig p else statefulSig p

/-- A signature: `rnd` the number of its randomness or its index, 0 deterministic. -/
def pqSignOf (fam : String) (p : Nat) (priv ctx m : Bytes) (ext : Bool) (rnd : Nat) : Bytes :=
  fit (pqSigLen fam p) (Config.pqSign (famNo fam) p priv ctx m ext rnd)

-- Checks shared -------------------------------------------------------------------------------------------------------------------

/-- The set of a command: the record's, or P0's with an inline key. -/
def setOf (r : Req) (k : Keys) : Nat := match k.a with | some x => x.bits | none => r.desc.q % 16

/-- A set larger than the ENSIGN row by a figure (**R97**). -/
def setRow (r : Req) (size : Nat → Nat) (p : Nat) : Option (Nat × Nat) :=
  match rowOf r with
  | some x => require (size p ≤ size x) badRow
  | none => none

/-- The modulus check of FIPS 203 on an encapsulation key of a set (**R204**). -/
def kemModulusOk (p : Nat) (pub : Bytes) : Bool :=
  let v := leNat (pub.take (384 * (p + 1)))
  (List.range (256 * (p + 1))).all fun i => v / 4096 ^ i % 4096 < 3329

/-- Attributes of a KEM secret that is not returned (**R203**); its key version is a free value. -/
def secretAttrs (n : Nat) : Bytes := ascii "K1AB" ++ freeBytes n 2 ++ ascii "N0" ++ leBytes 2 256 ++ [0, 0, 0, 0, 0, 0]

/-- The answer of an encapsulation or decapsulation: the secret returned after `out`, or stored VOLATILE. -/
def secretAnswer (r : Req) (out z : Bytes) (n : Nat) : Answer :=
  if nbit r.desc.p 8 then okOut (out ++ z)
  else
    let x := { symRecord (secretAttrs n) 0 r.domain z with typ := 5, vol := true }
    { output := out, store := some x, ops := [(0, 1)] }

/-- A returned secret of a decapsulation needs exportability E (**R86**). -/
def exportSecret (r : Req) (k : Keys) : Option (Nat × Nat) :=
  require (!nbit r.desc.p 8 || (k.a.getD {}).exportability != chr "N") (usageFail 1 4)

/-- A key generation of a family: usage, mode, set, exportability. -/
def keygenAnswer (r : Req) (fam usage mode exp : String) (p n : Nat) : Answer :=
  let (pub, priv) := pqPair fam p n
  { output := pub, store := some (pairRecord (madeAttrs usage fam mode p exp (n + 1)) r.domain priv pub) }

/-- Exportability that P0 [9] gives a KEM pair. -/
def kemExp (r : Req) : String := if nbit r.desc.p 9 then "E" else "N"

-- ML-KEM (R203-R206) ----------------------------------------------------------------------------------------------------------------

/-- MLKEM_KEYGEN. -/
def execMlkemKeygen (rid : Nat) (spUe : Option Nat) (s : State) : Res :=
  runCmd 0x3001 noPre (pureCalc fun r _ n => keygenAnswer r "K" "D1" "B" (kemExp r) (r.desc.q % 16) n) rid spUe s

/-- Public key of a KEM or verification command: the record's or inline. -/
def pqPub (fam : String) (r : Req) (k : Keys) : Bytes := (pubOf r k (pqPubLen fam (setOf r k))).1

/-- MLKEM_ENCAPS (**R203**, **R204**). -/
def execMlkemEncaps (rid : Nat) (spUe : Option Nat) (s : State) : Res :=
  runCmd 0x3002 (fun _ r k => firstFail [needPair k.a "D1" "EB" "K" [], setRow r id (setOf r k)])
    (pureCalc fun r k n =>
      let p := setOf r k
      let pub := pqPub "K" r k
      if k.a.isNone && !kemModulusOk p pub then rejected
      else
        let (c, z) := pqEncapsOf "K" p pub n
        secretAnswer r c z (n + 1)) rid spUe s

/-- Checks of a decapsulation: key, row, ciphertext length, returned secret. -/
def preDecaps (fam : String) (size : Nat → Nat) : Pre := fun _ r k => firstFail [
  needPair k.a "D1" "DB" fam [], setRow r size (setOf r k),
  require (r.input.length == pqCtLen fam (setOf r k)) badLen, exportSecret r k]

/-- MLKEM_DECAPS (**R205**). -/
def execMlkemDecaps (rid : Nat) (spUe : Option Nat) (s : State) : Res :=
  runCmd 0x3003 (preDecaps "K" id)
    (pureCalc fun r k n => secretAnswer r [] (pqDecapsOf "K" (setOf r k) (matOf k.a) r.input) n) rid spUe s

-- ML-DSA (R207-R210) ------------------------------------------------------------------------------------------------------------------

/-- MLDSA_KEYGEN. -/
def execMldsaKeygen (rid : Nat) (spUe : Option Nat) (s : State) : Res :=
  runCmd 0x3004 noPre (pureCalc fun r _ n => keygenAnswer r "L" "S0" "S" "N" (r.desc.q % 16) n) rid spUe s

/-- Context and message behind a context length, or an external mu. -/
def ctxMsg (ext : Bool) (l : Bytes) : Bytes × Bytes :=
  if ext then ([], l) else let c := (l.headD 0).toNat; ((l.drop 1).take c, l.drop (1 + c))

/-- Permutations that a digest unit adds for a long message (**R208**). -/
def longOps (l : Bytes) : List (Nat × Nat) :=
  let b := l.length - 1
  if 4096 < b then [(3, (b - 4096 + 135) / 136)] else []

/-- The lane of an ENSIGN signature: the one whose context 0 holds it, else a free choice. -/
def laneOf (s : State) (rid n : Nat) : Nat :=
  match s.eng.units.find? fun e => e.1 / 256 == 6 && e.2.ctx0 == some rid with
  | some e => e.1 % 256
  | none => Config.freeNat n % enabledCount 6

/-- The iteration limit of **R100**: DEVICE_FAULT, and a known-answer test of the lane before further work. -/
def iterLimit (r : Req) (n : Nat) (s : State) : Answer × State :=
  let l := laneOf s r.rid n
  let t := updUnit 6 l (fun u => { u with kat := true }) s
  ({ status := stDevice, detail := lastSeq t },
    { t with eng := { t.eng with
        mldsaLimit := satAdd 32 t.eng.mldsaLimit 1, mkhFault := { t.eng.mkhFault with lastUnit := l, lastCause := 4 } } })

/-- A signing calculation under the limit of **R100**. -/
def limited (iters : Nat) (f : Calc) : Calc := fun s r k n =>
  if r.isEnsign && 128 ≤ iters then iterLimit r n s else f s r k n

/-- MLDSA_SIGN (**R207**-**R209**): `iters` rejections of the loop. -/
def execMldsaSign (rid : Nat) (spUe : Option Nat) (iters : Nat) (s : State) : Res :=
  runCmd 0x3005 (fun _ r k => firstFail [needPair k.a "S0" "S" "L" [], setRow r id (setOf r k)])
    (limited iters (pureCalc fun r k n =>
      let ext := nbit r.desc.p 9
      let (c, m) := ctxMsg ext r.input
      { output := pqSignOf "L" (setOf r k) (matOf k.a) c m ext (if nbit r.desc.p 8 then n + 1 else 0)
        ops := if ext then [] else longOps r.input })) rid spUe s

/-- The part of a verification's input behind the key, and its signature and tail. -/
def sigTail (fam : String) (r : Req) (k : Keys) : Bytes × Bytes :=
  let rest := (pubOf r k (pqPubLen fam (setOf r k))).2
  let n := pqSigLen fam (setOf r k)
  (rest.take n, rest.drop n)

/-- Checks of MLDSA_VERIFY that a stored key's set decides. -/
def preMldsaVerify : Pre := fun _ r k =>
  let rest := (pubOf r k (pqPubLen "L" (setOf r k))).2
  let n := dsaSig (setOf r k)
  let t := rest.drop n
  let ext := nbit r.desc.p 9
  firstFail [
    needPair k.a "S0" "VS" "L" [], setRow r id (setOf r k),
    require (if ext then rest.length == n + 64 else n + 1 + (t.headD 0).toNat ≤ rest.length) badLen,
    require (!r.isEnsign || ext || t.length ≤ 4097) (some (stMalformed, malDetail 0x02 3))]

/-- MLDSA_VERIFY (**R210**). -/
def execMldsaVerify (rid : Nat) (spUe : Option Nat) (s : State) : Res :=
  runCmd 0x3006 preMldsaVerify (pureCalc fun r k _ =>
    let ext := nbit r.desc.p 9
    let (sig, t) := sigTail "L" r k
    let (c, m) := ctxMsg ext t
    { verdict (Config.pqVerify (famNo "L") (setOf r k) (pqPub "L" r k) c m ext sig) with
      ops := if ext then [] else longOps t }) rid spUe s

-- SLH-DSA (R214, R215) ------------------------------------------------------------------------------------------------------------------

/-- Free digest steps of a hash-based operation (log entry 7). -/
def hashOps (keccak : Bool) (n : Nat) : List (Nat × Nat) := [(if keccak then 3 else 2, Config.freeNat n)]

/-- An SLH-DSA set of the SHAKE kind. -/
def slhShake (p : Nat) : Bool := p % 2 == 0

/-- SLHDSA_KEYGEN. -/
def execSlhdsaKeygen (rid : Nat) (spUe : Option Nat) (s : State) : Res :=
  runCmd 0x3101 noPre (pureCalc fun r _ n =>
    let p := r.desc.q % 16
    { keygenAnswer r "S" "S0" "S" "N" p n with ops := hashOps (slhShake p) (n + 4) }) rid spUe s

/-- SLHDSA_SIGN (**R214**). -/
def execSlhdsaSign (rid : Nat) (spUe : Option Nat) (s : State) : Res :=
  runCmd 0x3102 (fun _ _ k => needPair k.a "S0" "S" "S" []) (pureCalc fun r k n =>
    let (c, m) := ctxMsg false r.input
    { output := pqSignOf "S" (setOf r k) (matOf k.a) c m false (if nbit r.desc.p 8 then n + 1 else 0)
      ops := hashOps (slhShake (setOf r k)) (n + 1) }) rid spUe s

/-- Checks of SLHDSA_VERIFY that a stored key's set decides (**R213**). -/
def preSlhVerify : Pre := fun _ r k =>
  let (sig, t) := sigTail "S" r k
  let c := (t.headD 0).toNat
  firstFail [
    needPair k.a "S0" "VS" "S" [], setRow r (fun p => (slhCycles p).2.2) (setOf r k),
    require (sig.length == pqSigLen "S" (setOf r k) && 1 + c ≤ t.length) badLen,
    require (!r.isEnsign || t.length - 1 - c ≤ 64) (some (stMalformed, malDetail 0x02 3))]

/-- SLHDSA_VERIFY (**R213**). -/
def execSlhdsaVerify (rid : Nat) (spUe : Option Nat) (s : State) : Res :=
  runCmd 0x3103 preSlhVerify (pureCalc fun r k n =>
    let (sig, t) := sigTail "S" r k
    let (c, m) := ctxMsg false t
    { verdict (Config.pqVerify (famNo "S") (setOf r k) (pqPub "S" r k) c m false sig) with
      ops := hashOps (slhShake (setOf r k)) n }) rid spUe s

-- Stateful signatures (R216-R220) --------------------------------------------------------------------------------------------------------

/-- Type codes at the head of a set's public key (RFC 8554, RFC 8391; log entry 9). -/
def typeCodes (p : Nat) : Bytes :=
  let lms := fun (a b : Nat) => beBytes 4 a ++ beBytes 4 b
  match p with
  | 1 => lms 6 3 | 2 => lms 7 3 | 3 => lms 8 3 | 4 => lms 9 3 | 5 => lms 8 4
  | 6 => beBytes 4 2 ++ lms 6 3
  | 7 => beBytes 4 1 | 8 => beBytes 4 2 | 9 => beBytes 4 3
  | 10 => beBytes 4 1
  | _ => beBytes 4 3

/-- The type codes of a public key are those of its set (**R220**). -/
def typeCodesOk (p : Nat) (pub : Bytes) : Bool := pub.take (typeCodes p).length == typeCodes p

/-- Indices of a set. -/
def totalIndices (p : Nat) : Nat := 2 ^ statefulLog2 p

/-- STATEFUL_KEYGEN (**R217**): the first block of indices is reserved with the record (log entry 33). -/
def execStatefulKeygen (rid : Nat) (spUe : Option Nat) (s : State) : Res :=
  runCmd 0x3104 noPre (pureCalc fun r _ n =>
    let p := r.desc.q % 16
    let (tail, priv) := pqPair "F" p n
    let pub := typeCodes p ++ tail.drop (typeCodes p).length
    let k := { pairRecord (madeAttrs "S0" "F" "S" p "N" (n + 1)) r.domain priv pub with
      typ := 4, nextIdx := 0, limit := min 4096 (totalIndices p), large := true }
    { output := pub, store := some k, ops := hashOps false (n + 4) }) rid spUe s

/-- The first line and record of a live key, by its exact-match entry. -/
def liveRecord (s : State) (sl h : Nat) : Option (Nat × KeyRec) :=
  match emFind s sl h with
  | .bucket _ e => (recordAt s e).map fun k => (e.record, k)
  | .stash _ e => (recordAt s e).map fun k => (e.record, k)
  | _ => none

/-- A record changed in place. -/
def setRecord (line : Nat) (k : KeyRec) (s : State) : State :=
  { s with kvt := { s.kvt with records := tset s.kvt.records line k } }

/-- The next block of a key has been asked for and not committed. -/
def blockAsked (s : State) (k : KeyRec) : Bool :=
  s.kvt.storePending.any (fun o => match o with | .limit sl h _ => sl == k.slice && h == k.handle | _ => false) ||
  (tgetD s.fab.own k.domain {}).limits.any fun e => e.2.1 == k.slice && e.2.2.1 == k.handle

/-- A delta of the final changes and asked limits that wait, sent to the standby where a session serves it (**R298**). -/
def sendDelta (d : Nat) (s : State) : State :=
  let o := tgetD s.fab.own d {}
  let asked := o.limits.filter fun e => e.1 == 0
  let e := domainOf s d
  if o.pendingPut.isEmpty && o.pendingDel.isEmpty && asked.isEmpty then s
  else
    match (if e.state = 1 ∧ e.sby then sessionTo s e.standby else none) with
    | none => s
    | some i =>
      let n := o.seqNo + 1
      let t := { s with fab := { s.fab with own := tset s.fab.own d { o with
        seqNo := n, pendingPut := [], pendingDel := []
        limits := o.limits.map fun x => if x.1 = 0 then (n, x.2) else x } } }
      let items := o.pendingPut.length + o.pendingDel.length + asked.length
      sendMsg i false { typ := 5, bytes := 60 + 12 * items, what := .message i 5 0 [d, 1, e.pennant, n, items] } t

/-- The next block asked for (**R218**): from the standby where the domain has one, at once, else from the flash copy. -/
def askBlock (k : KeyRec) (s : State) : State :=
  let total := totalIndices k.bits
  let l := min total (k.limit + 4096)
  if k.nextIdx + 1024 < k.limit || total ≤ k.limit || blockAsked s k then s
  else if standalone s || !(domainOf s k.domain).sby then
    { s with kvt := { s.kvt with storePending := s.kvt.storePending ++ [.limit k.slice k.handle l] } }
  else
    sendDelta k.domain { s with fab := { s.fab with own := tupd s.fab.own k.domain {} fun o =>
      { o with limits := o.limits ++ [(0, k.slice, k.handle, l)] } } }

/-- A committed limit becomes usable, and the next block is asked for where 1,024 indices or fewer remain (**R218**). -/
def useLimit (sl h l : Nat) (s : State) : State :=
  match liveRecord s sl h with
  | some (line, k) =>
    if k.limit < l then askBlock { k with limit := l } (setRecord line { k with limit := l } s) else s
  | none => s

/-- STATEFUL_SIGN (**R218**): the index is burned at allocation. -/
def calcStatefulSign : Calc := fun s r k n =>
  match liveRecord s r.slice r.desc.keyA.toNat with
  | none => ({ status := stNotFound, detail := 1 }, s)
  | some (line, x) =>
    if totalIndices x.bits ≤ x.nextIdx then ({ status := stUsage, detail := 0x105 }, s)
    else if x.limit ≤ x.nextIdx then
      let t := askBlock x (logEvent 0x605 (BitVec.ofNat 8 r.slice :: leBytes 4 x.handle) s)
      ({ status := stUsage, detail := 0x105 },
        { t with eng := { t.eng with statefulWait := satAdd 16 t.eng.statefulWait 1 } })
    else
      let y := { x with nextIdx := x.nextIdx + 1 }
      let t := askBlock y (setRecord line y (updReq r.rid (fun q => { q with index := some x.nextIdx }) s))
      ({ output := pqSignOf "F" x.bits (matOf k.a) [] r.input false x.nextIdx ++ leBytes 8 x.nextIdx, ops := hashOps false n }, t)

/-- STATEFUL_SIGN. -/
def execStatefulSign (rid : Nat) (spUe : Option Nat) (s : State) : Res :=
  runCmd 0x3105 (fun _ r k => firstFail [needPair k.a "S0" "S" "F" [],
      require (pqSigLen "F" (setOf r k) + 8 ≤ r.desc.outCap.toNat) (some (stMalformed, malDetail 0x30 7))])
    calcStatefulSign rid spUe s

/-- Checks of STATEFUL_VERIFY. -/
def preStatefulVerify : Pre := fun _ r k =>
  let (sig, t) := sigTail "F" r k
  firstFail [
    needPair k.a "S0" "VS" "F" [], setRow r statefulCycles (setOf r k),
    require (sig.length == pqSigLen "F" (setOf r k)) badLen,
    require (!r.isEnsign || t.length ≤ 64) (some (stMalformed, malDetail 0x02 3))]

/-- STATEFUL_VERIFY (**R213**, **R220**). -/
def execStatefulVerify (rid : Nat) (spUe : Option Nat) (s : State) : Res :=
  runCmd 0x3106 preStatefulVerify (pureCalc fun r k n =>
    let (sig, m) := sigTail "F" r k
    let pub := pqPub "F" r k
    if !typeCodesOk (setOf r k) pub then rejected
    else { verdict (Config.pqVerify (famNo "F") (setOf r k) pub [] m false sig) with ops := hashOps false n }) rid spUe s

/-- STATEFUL_REMAINING (**R220**). -/
def execStatefulRemaining (rid : Nat) (spUe : Option Nat) (s : State) : Res :=
  runCmd 0x3107 (fun _ _ k => require ((k.a.getD {}).typ == 4) (usageFail 1 3)) (fun t r _ _ =>
    match liveRecord t r.slice r.desc.keyA.toNat with
    | some (_, x) => (okOut (leBytes 8 (totalIndices x.bits - x.nextIdx)), t)
    | none => ({ status := stNotFound, detail := 1 }, t)) rid spUe s

-- HQC and Classic McEliece (R222-R225) ------------------------------------------------------------------------------------------------------

/-- HQC_KEYGEN. -/
def execHqcKeygen (rid : Nat) (spUe : Option Nat) (s : State) : Res :=
  runCmd 0x3201 noPre (pureCalc fun r _ n => keygenAnswer r "Q" "D1" "B" (kemExp r) (r.desc.q % 16) n) rid spUe s

/-- HQC_ENCAPS. -/
def execHqcEncaps (rid : Nat) (spUe : Option Nat) (s : State) : Res :=
  runCmd 0x3202 (fun _ _ k => needPair k.a "D1" "EB" "Q" []) (pureCalc fun r k n =>
    let (c, z) := pqEncapsOf "Q" (setOf r k) (pqPub "Q" r k) n
    secretAnswer r c z (n + 1)) rid spUe s

/-- HQC_DECAPS (**R223**). -/
def execHqcDecaps (rid : Nat) (spUe : Option Nat) (s : State) : Res :=
  runCmd 0x3203 (preDecaps "Q" id)
    (pureCalc fun r k n => secretAnswer r [] (pqDecapsOf "Q" (setOf r k) (matOf k.a) r.input) n) rid spUe s

/-- MCELIECE_KEYGEN (**R222**, **R224**): the public key stays in the large-public-key region. -/
def execMcelieceKeygen (rid : Nat) (spUe : Option Nat) (s : State) : Res :=
  runCmd 0x3204 noPre (pureCalc fun r _ n =>
    { keygenAnswer r "M" "D1" "B" (kemExp r) (r.desc.q % 16) n with output := [] }) rid spUe s

/-- MCELIECE_ENCAPS. -/
def execMcelieceEncaps (rid : Nat) (spUe : Option Nat) (s : State) : Res :=
  runCmd 0x3205 (fun _ _ k => needPair k.a "D1" "EB" "M" []) (pureCalc fun r k n =>
    let (c, z) := pqEncapsOf "M" (setOf r k) (pqPub "M" r k) n
    secretAnswer r c z (n + 1)) rid spUe s

/-- MCELIECE_DECAPS (**R223**). -/
def execMcelieceDecaps (rid : Nat) (spUe : Option Nat) (s : State) : Res :=
  runCmd 0x3206 (preDecaps "M" mceCycles)
    (pureCalc fun r k n => secretAnswer r [] (pqDecapsOf "M" (setOf r k) (matOf k.a) r.input) n) rid spUe s

-- Hybrid commands (R226, R227) -----------------------------------------------------------------------------------------------------------------

/-- The combined secret of **R226**. -/
def hybridSecret (zm zx ct cx pkx : Bytes) : Bytes :=
  sha3_256 (ascii "MORILATIK-HKEM-1" ++ zm ++ zx ++ sha3_256 ct ++ cx ++ pkx)

/-- HYBRID_KEM_KEYGEN. -/
def execHybridKemKeygen (rid : Nat) (spUe : Option Nat) (s : State) : Res :=
  runCmd 0x3801 noPre (pureCalc fun r _ n =>
    let (pub, priv) := pqPair "K" 2 n
    let x := freeBytes (n + 3) 32
    let all := pub ++ xdh 4 x (xBase 4)
    { output := all, store := some (pairRecord (madeAttrs "D1" "Y" "B" 0 (kemExp r) (n + 1)) r.domain (priv ++ x) all) }) rid spUe s

/-- HYBRID_ENCAPS (**R226**). -/
def execHybridEncaps (rid : Nat) (spUe : Option Nat) (s : State) : Res :=
  runCmd 0x3802 (fun _ _ k => needPair k.a "D1" "EB" "Y" []) (pureCalc fun r k n =>
    let pub := (pubOf r k 1216).1
    let pkx := pub.drop 1184
    if !xOk 4 pkx || (k.a.isNone && !kemModulusOk 2 (pub.take 1184)) then rejected
    else
      let (ct, zm) := pqEncapsOf "K" 2 (pub.take 1184) n
      let e := freeBytes (n + 1) 32
      let cx := xdh 4 e (xBase 4)
      secretAnswer r (ct ++ cx) (hybridSecret zm (xdh 4 e pkx) ct cx pkx) (n + 2)) rid spUe s

/-- HYBRID_DECAPS (**R226**). -/
def execHybridDecaps (rid : Nat) (spUe : Option Nat) (s : State) : Res :=
  runCmd 0x3803 (fun _ r k => firstFail [needPair k.a "D1" "DB" "Y" [], exportSecret r k]) (pureCalc fun r k n =>
    let ct := r.input.take 1088
    let cx := r.input.drop 1088
    let x := (matOf k.a).drop 2400
    let pkx := ((k.a.getD {}).pub).drop 1184
    if !xOk 4 cx then rejected
    else secretAnswer r [] (hybridSecret (pqDecapsOf "K" 2 ((matOf k.a).take 2400) ct) (xdh 4 x cx) ct cx pkx) n) rid spUe s

/-- HYBRID_SIGN_KEYGEN. -/
def execHybridSignKeygen (rid : Nat) (spUe : Option Nat) (s : State) : Res :=
  runCmd 0x3804 noPre (pureCalc fun r _ n =>
    let (pub, priv) := pqPair "L" 2 n
    let x := curvePrivate 1 (n + 3)
    let all := pub ++ curvePublic 1 x
    { output := all, store := some (pairRecord (madeAttrs "S0" "Z" "S" 0 "N" (n + 1)) r.domain (priv ++ x) all) }) rid spUe s

/-- Context of the hybrid signature. -/
def hsigCtx : Bytes := ascii "MORILATIK-HSIG-1"

/-- HYBRID_SIGN (**R227**). -/
def execHybridSign (rid : Nat) (spUe : Option Nat) (iters : Nat) (s : State) : Res :=
  runCmd 0x3805 (fun _ _ k => needPair k.a "S0" "S" "Z" []) (limited iters (pureCalc fun r k n =>
    let m := r.input
    let pub := ((k.a.getD {}).pub).take 1952
    let mu := fit 64 (Config.mldsaMu 2 pub hsigCtx m)
    let nonce := beNat (freeBytes n 64) % p256.n
    let (x, y) := ecdsaSign p256 (beNat ((matOf k.a).drop 4032)) nonce mu
    { output := pqSignOf "L" 2 ((matOf k.a).take 4032) hsigCtx m false (n + 1) ++ beBytes 32 x ++ beBytes 32 y
      ops := longOps (0 :: hsigCtx ++ m) })) rid spUe s

/-- HYBRID_VERIFY (**R87**, **R227**): a public point that fails **R184** is INPUT_REJECTED, any failing signature
VERIFY_FAILED (log entry 34). -/
def execHybridVerify (rid : Nat) (spUe : Option Nat) (s : State) : Res :=
  runCmd 0x3806 (fun _ _ k => needPair k.a "S0" "VS" "Z" []) (pureCalc fun r k _ =>
    let (pub, rest) := pubOf r k 2017
    let m := rest.drop 3373
    let mu := fit 64 (Config.mldsaMu 2 (pub.take 1952) hsigCtx m)
    let x := beNat (bytesAt rest 3309 32)
    let y := beNat (bytesAt rest 3341 32)
    match ecDecode p256 (pub.drop 1952) with
    | none => rejected
    | some q =>
      let pq := Config.pqVerify (famNo "L") 2 (pub.take 1952) hsigCtx m false (rest.take 3309)
      let ec := x != 0 && y != 0 && x < p256.n && y < p256.n && ecdsaVerify p256 (some q) mu x y
      { verdict (pq && ec) with ops := longOps (0 :: hsigCtx ++ m) }) rid spUe s

end Sys2Proof.Machine
end

