-- ==== Sys2Proof/Machine/Keys.lean ====
section
/-! DEFINITION. The key commands that make, delete, show and attest keys (**R85**, **R137**-**R141**, **R150**, **R182**, **R370**), the
statements' keys (**R354**, **R364**), and the flash key store's commit (**R360**). -/

namespace Sys2Proof.Machine

-- Device secret and statement keys (R353, R354, R364, R369) -----------------------------------------------------------------------------

/-- First fuse of a DS row (**R353**, **R392**). -/
def dsFuse (row : Nat) : Nat := if row = 0 then 352 else 624

/-- The device secret in use, if the module has one. -/
def dsOf (s : State) : Option (BitVec 256) := s.lcs.dsRow.map fun r => BitVec.ofNat 256 (fuseField s.lcs.fuse (dsFuse r) 256)

/-- The measurement M of firmware and image (**R354**). -/
def measureOf (mW mU mI : Bytes) : Bytes := sha384 (mW ++ mU ++ mI)

/-- mI of the loaded image, or 48 zero bytes. -/
def imageMeasure (s : State) : Bytes := match s.img.cfg with | some c => c.measure | none => List.replicate 48 0

/-- The measurement M in force. -/
def measureNow (s : State) : Bytes := measureOf s.kvt.fw.mW s.kvt.fw.mU (imageMeasure s)

/-- A key derived from a DS (**R354**): HKDF-SHA-384 of its 32 bytes, least significant first (log entry 21). -/
def dsKey (ds : BitVec 256) (salt : Bytes) (info : String) (n : Nat) : Bytes := hkdf salt (leBytes 32 ds.toNat) (ascii info) n

/-- K_table (**R262**, **R354**). -/
def tableKey (ds : BitVec 256) : BitVec 128 := BitVec.ofNat 128 (leNat (dsKey ds [] "MORILATIK-TBL-1" 16))

/-- The identity seed. -/
def identitySeed (ds : BitVec 256) : Bytes := dsKey ds [] "MORILATIK-ID-1" 80

/-- The layer seed under a measurement. -/
def layerSeed (ds : BitVec 256) (m : Bytes) : Bytes := dsKey ds m "MORILATIK-LAYER-1" 80

/-- The ML-DSA-65 key pair of a seed (**R364**). -/
def seedDsa (seed : Bytes) : Bytes × Bytes :=
  let (a, b) := Config.dsaOfSeed (seed.take 32)
  (fit 1952 a, fit 4032 b)

/-- The P-256 scalar of a seed: its last 48 bytes mod (n - 1), plus 1 (**R364**). -/
def seedScalar (seed : Bytes) : Nat := beNat (seed.drop 32) % (p256.n - 1) + 1

/-- The public key of a seed in the encoding of **R281**: ML-DSA-65, then the P-256 point. -/
def seedPub (seed : Bytes) : Bytes := fit 2017 ((seedDsa seed).1 ++ ecEncode p256 (ecMul p256 (seedScalar seed) (ecBase p256)))

/-- A signature by the key pair of a seed in the manner of HYBRID_SIGN (**R227**) with a context of its own: 3,373 bytes. -/
def seedSign (seed ctx body : Bytes) (n : Nat) : Bytes :=
  let (pub, priv) := seedDsa seed
  let (x, y) := ecdsaSign p256 (seedScalar seed) (beNat (freeBytes n 64) % p256.n) (fit 64 (Config.mldsaMu 2 pub ctx body))
  fit 3373 (pqSignOf "L" 2 priv ctx body false (n + 1) ++ beBytes 32 x ++ beBytes 32 y)

/-- The layer public key, 2,017 bytes (**R369**). -/
def layerPubOf (s : State) : Bytes := seedPub (layerSeed ((dsOf s).getD 0) (measureNow s))

/-- A signature of the layer key: 3,373 bytes. -/
def layerSign (s : State) (ctx : String) (body : Bytes) (n : Nat) : Bytes :=
  seedSign (layerSeed ((dsOf s).getD 0) (measureNow s)) (ascii ctx) body n

/-- A signature of the identity key: 3,373 bytes. -/
def identitySign (s : State) (ctx : String) (body : Bytes) (n : Nat) : Bytes :=
  seedSign (identitySeed ((dsOf s).getD 0)) (ascii ctx) body n

-- KEY_GENERATE (R137-R141) -----------------------------------------------------------------------------------------------------------------

/-- What an attribute record of a symmetric key fails (**R138**), with the length's check. -/
def preSymmetric (a : Bytes) : Option (Nat × Nat) := attrFail a

/-- Key material of a record from random bytes: odd parity for TDEA (**R137**). -/
def materialOf (a : Bytes) (raw : Bytes) : Bytes := if bytesAt a 2 1 == ascii "T" then oddParity raw else raw

/-- The flags of a record made here: one of [2:0], with DC_EXPORT of the input (**R137**). -/
def entryFlags (bit : Nat) (a : Bytes) : Nat := bit + 8 * b2n (nbit (leNat (bytesAt a 10 2)) 3)

/-- A new symmetric key stored, with its check value as output; TDEA repeats are refused (**R140**). -/
def storeSymmetric (r : Req) (a key : Bytes) (bit : Nat) : Answer :=
  let x := symRecord a (entryFlags bit a) r.domain key
  if x.alg = chr "T" ∧ tdeaRepeats key then { status := stUsage, detail := 0x203 }
  else { output := x.kcv, store := some x, ops := entryOps x }

/-- KEY_GENERATE (**R85**, **R137**). -/
def execKeyGenerate (rid : Nat) (spUe : Option Nat) (s : State) : Res :=
  runCmd 0x0803 (fun _ r _ => preSymmetric r.input) (pureCalc fun r _ n =>
    let a := r.input.take 16
    storeSymmetric r a (materialOf a (freeBytes n (leNat (bytesAt a 8 2) / 8))) 1) rid spUe s

-- KEY_COMPONENTS_COMBINE (R145, R150) ------------------------------------------------------------------------------------------------------------

/-- Component count of the input. -/
def partCount (r : Req) : Nat := (bytesAt r.input 0 1).headD 0 |>.toNat

/-- Approvals with a component that KEY_COMPONENTS_COMBINE still misses (**R145**, **R148**). -/
def preCombine : Pre := fun s r _ =>
  let have_ := (countingApprovals s.mtime 1 (opStatement r.desc r.slice r.input) s.cust.approvals []).length
  require (partCount r ≤ have_) (some (stDual, partCount r - have_))

/-- The combination of **R150** over its components. -/
def combineParts (r : Req) (parts : List Bytes) : Answer :=
  let a := bytesAt r.input 1 16
  let len := leNat (bytesAt a 8 2) / 8
  if parts.any fun p => p.length != len then { status := stMalformed, detail := malDetail 9 10 }
  else
    match attrFail a with
    | some (st, d) => { status := st, detail := d }
    | none =>
      let raw := parts.foldl xorBytes (List.replicate len 0)
      if raw.all (· == 0) then { status := stUsage, detail := 0x203 } else storeSymmetric r a (materialOf a raw) 2

/-- KEY_COMPONENTS_COMBINE: the approvals are reserved, then their components combined (**R148**, **R150**). -/
def calcCombine : Calc := fun s r _ _ =>
  match reserveApprovals (partCount r) 1 (opStatement r.desc r.slice r.input) s with
  | .inr m => ({ status := stDual, detail := m }, s)
  | .inl (l, t) =>
    (combineParts r (l.map fun a => a.component.getD []), updReq r.rid (fun x => { x with approvals := true }) t)

/-- KEY_COMPONENTS_COMBINE (**R150**). -/
def execKeyComponentsCombine (rid : Nat) (spUe : Option Nat) (s : State) : Res := runCmd 0x0806 preCombine calcCombine rid spUe s

-- KEY_DELETE (R220, R360, R363) ---------------------------------------------------------------------------------------------------------------------

/-- A dispatched STATEFUL_SIGN on the key has not completed (**R220**). -/
def signOutstanding (s : State) (sl h : Nat) : Bool :=
  s.rqs.live.any fun r => r.slice == sl && r.desc.keyA.toNat == h && r.desc.code == 0x3105 && r.index.isSome &&
    (r.phase == .detached || r.phase == .releaseQueued)

/-- A record's lines released to colour 0x3FF, its place free (**R337**, **R363**). -/
def freeRecord (line : Nat) (s : State) : State :=
  match tget? s.kvt.records line with
  | some k => { s with mem := releaseRecord k line s.mem, kvt := { s.kvt with records := terase s.kvt.records line } }
  | none => s

/-- The final part of a deletion: the store's commit first where the record persists, then the lines; whether a
commit is awaited (**R360**, **R363**). -/
def finalDelete (line : Nat) (k : KeyRec) (s : State) : Bool × State :=
  let t := noteChange false k.domain k.slice k.handle s
  if persists t k then
    (true, { t with kvt := { t.kvt with storePending := t.kvt.storePending ++ [.delete k.slice k.handle line] } })
  else (false, freeRecord line t)

/-- KEY_DELETE's steps (**R363**): the entry, the cached copy, then commit and lines; a change for a peer stays
provisional (**R295**). -/
def calcDelete : Calc := fun s r _ _ =>
  let h := r.desc.keyA.toNat
  match emFind s r.slice h with
  | .memory => ({ status := stMemory }, s)
  | .absent => ({ status := stNotFound, detail := 1 }, s)
  | .bucket _ e | .stash _ e =>
    match recordAt s e with
    | none => ({ status := stNotFound, detail := 1 }, s)
    | some k =>
      let t := uncache r.slice h (emDelete r.slice h s).2
      let busy := signOutstanding s r.slice h
      if r.viaPeer then ({ wait := if busy then some h else none }, provisional r false e k t)
      else
        let (w, u) := finalDelete e.record k t
        ({ wait := if w || busy then some h else none }, u)

/-- KEY_DELETE (**R363**). -/
def execKeyDelete (rid : Nat) (spUe : Option Nat) (s : State) : Res := runCmd 0x0804 noPre calcDelete rid spUe s

-- KEY_INFO, PUBLIC_KEY_EXPORT ---------------------------------------------------------------------------------------------------------------------

/-- A record holds symmetric material. -/
def KeyRec.symmetric (k : KeyRec) : Bool := k.typ == 1 || k.typ == 5

/-- KEY_INFO (**R85**): attributes and, for a symmetric key, its check value (**R141**). -/
def execKeyInfo (rid : Nat) (spUe : Option Nat) (s : State) : Res :=
  runCmd 0x0805 noPre (pureCalc fun _ k _ =>
    let x := k.a.getD {}
    if x.symmetric then
      { output := fit 16 x.attrs ++ x.kcv
        ops := [(if x.alg = chr "A" then 0 else if x.alg = chr "T" then 1 else 2, if x.alg = chr "H" then 2 else 1)] }
    else okOut (fit 16 x.attrs)) rid spUe s

/-- PUBLIC_KEY_EXPORT (**R182**): the public key or public half. -/
def execPublicKeyExport (rid : Nat) (spUe : Option Nat) (s : State) : Res :=
  runCmd 0x0809 (fun _ _ k => require (!(k.a.getD {}).symmetric) (usageFail 1 1))
    (pureCalc fun _ k _ => okOut (k.a.getD {}).pub) rid spUe s

-- KEY_ATTEST (R370) ---------------------------------------------------------------------------------------------------------------------------------

/-- The key statement's first 136 bytes (**R370**). -/
def keyStatement (s : State) (r : Req) (k : KeyRec) : Bytes :=
  let shown := if k.symmetric then fit 32 k.kcv else sha256 k.pub
  ascii "KYST" ++ leBytes 2 1 ++ [0, 0] ++ fit 32 r.input ++ sha256 (layerPubOf s) ++ [BitVec.ofNat 8 r.slice, 0] ++
    leBytes 2 k.domain ++ leBytes 4 k.handle ++ fit 16 k.attrs ++ shown ++ leBytes 8 s.mtime

/-- KEY_ATTEST (**R370**): only a key generated inside. -/
def execKeyAttest (rid : Nat) (spUe : Option Nat) (s : State) : Res :=
  runCmd 0x0807 (fun _ _ k => require (nbit (k.a.getD {}).flags 0) (usageFail 1 1))
    (fun t r k n =>
      let b := keyStatement t r (k.a.getD {})
      (okOut (b ++ layerSign t "MORILATIK-KYST-1" b n), t)) rid spUe s

-- PUBLIC_KEY_IMPORT (R181, R182) ---------------------------------------------------------------------------------------------------------------------

/-- Length of a family's public key for a parameter code, none where the code names no set (**R181**, **R182**). -/
def pubLenOf (alg : Byte) (p : Nat) : Option Nat :=
  let within := fun (n : Nat) (l : Nat) => if 1 ≤ p ∧ p ≤ n then some l else none
  if alg = chr "R" then (if p % 64 = 0 ∧ 1024 ≤ p ∧ p ≤ 8192 then some (8 + p / 8) else none)
  else if alg = chr "E" then within 7 (curvePub p)
  else if alg = chr "K" then within 3 (kemPub p)
  else if alg = chr "L" then within 3 (dsaPub p)
  else if alg = chr "S" then within 12 (slhPub p)
  else if alg = chr "F" then within 11 (statefulPub p)
  else if alg = chr "Q" then within 3 (hqcPub p)
  else if alg = chr "M" then within 10 (mcePub p)
  else if alg = chr "Y" then (if p = 0 then some 1216 else none)
  else if alg = chr "Z" then (if p = 0 then some 2017 else none)
  else none

/-- Usage and mode of a public key alone (**R181**). -/
def pubRole (alg : Byte) (p : Nat) (usage : Bytes) : Option Byte :=
  let sign := if usage == ascii "S0" then some (chr "V") else none
  let kem := if usage == ascii "D1" then some (chr "E") else none
  if alg = chr "R" then (if sign.isSome then sign else kem)
  else if alg = chr "E" then
    if usage == ascii "K3" then (if p ≤ 5 then some (chr "X") else none)
    else if p = 4 ∨ p = 5 then none else sign
  else if (ascii "LSFZ").contains alg then sign
  else if (ascii "KQMY").contains alg then kem
  else none

/-- Checks of PUBLIC_KEY_IMPORT: **R181**, then the length of the set (**R182**). -/
def prePubImport : Pre := fun _ r _ =>
  let x : KeyRec := { attrs := r.input.take 16 }
  match pubLenOf x.alg x.bits with
  | none => usageFail 2 3
  | some n =>
    match pubRole x.alg x.bits x.usage with
    | none => usageFail 2 1
    | some m => firstFail [require (x.mode == m) (usageFail 2 2), require (r.input.length == 16 + n) badLen]

/-- The public key passes the check of its family (**R182**). -/
def pubAccepted (alg : Byte) (p : Nat) (k : Bytes) : Bool :=
  if alg = chr "R" then (let q := rsaParse k; rsaKeyOk 16 q && 64 * q.w == p)
  else if alg = chr "E" then
    if p ≤ 3 then (ecDecode (curveOf p) k).isSome else if p ≤ 5 then xOk p k else edKeyOk (edOf p) k
  else if alg = chr "K" then kemModulusOk p k
  else if alg = chr "F" then typeCodesOk p k
  else if alg = chr "Y" then kemModulusOk 2 (k.take 1184) && xOk 4 (k.drop 1184)
  else if alg = chr "Z" then (ecDecode p256 (k.drop 1952)).isSome
  else true

/-- The record of an imported public key: flags [2] and [4], the request's domain, exportability N for RSA and curves
(**R180**, **R182**). -/
def pubRecord (r : Req) (a key : Bytes) : KeyRec :=
  let alg := (bytesAt a 2 1).headD 0
  let b := if alg = chr "R" ∨ alg = chr "E" then a.take 6 ++ ascii "N" ++ a.drop 7 else a
  { typ := 3, attrs := attrsWith b 20 r.domain, confirm := List.replicate 16 0, pub := key }

/-- PUBLIC_KEY_IMPORT (**R182**). -/
def execPublicKeyImport (rid : Nat) (spUe : Option Nat) (s : State) : Res :=
  runCmd 0x0808 prePubImport (pureCalc fun r _ _ =>
    let x : KeyRec := { attrs := r.input.take 16 }
    let key := r.input.drop 16
    if pubAccepted x.alg x.bits key then { store := some (pubRecord r x.attrs key) } else rejected) rid spUe s

-- The flash key store (R360, R363) -----------------------------------------------------------------------------------------------------------------------

/-- The store without a record. -/
def storeWithout (sl h : Nat) (l : List KeyRec) : List KeyRec := l.filter fun k => !(k.slice == sl && k.handle == h)

/-- The store's copy of a stateful key's limit. -/
def storeLimit (sl h lim : Nat) (s : State) : State :=
  { s with kvt := { s.kvt with store := s.kvt.store.map fun k => if k.slice = sl ∧ k.handle = h then { k with limit := lim } else k } }

/-- One pending change committed (**R360**): a record and its domain's set and pennant written, a deletion and then the
release of its lines, or a new limit that becomes usable (**R218**). -/
def commitOp (o : StoreOp) (s : State) : State :=
  match o with
  | .put k =>
    { s with kvt := { s.kvt with
        store := storeWithout k.slice k.handle s.kvt.store ++ [k]
        storeDomains := tset s.kvt.storeDomains k.domain (domainOf s k.domain).pennant } }
  | .delete sl h line => freeRecord line { s with kvt := { s.kvt with store := storeWithout sl h s.kvt.store } }
  | .limit sl h lim => storeLimit sl h lim (useLimit sl h lim s)

/-- Completions that waited for the commit are written (**R360**); a deletion of a stateful key waits for the
signatures dispatched on it (**R220**). -/
def finishCommitted (s : State) : State :=
  (s.rqs.live.filter fun r => r.phase == .waitCommit).foldl (fun t r =>
    match r.change, r.result with
    | some (sl, h), some x => if r.desc.code == 0x0804 && signOutstanding t sl h then t else finish r.rid x t
    | _, _ => t) s

/-- KEY_STORE_COMMIT (**R360**): every 2 ms, in READY and RUN, the pending changes in order. -/
def execKeyStoreCommit (s : State) : Res :=
  if !(s.pwr.state == .ready || s.pwr.state == .run) then .next s
  else
    let t := s.kvt.storePending.foldl (fun u o => commitOp o u) { s with kvt := { s.kvt with storePending := [] } }
    .next (finishCommitted t)

/-- KEY_STORE_COMPACTION (**R360**): the store keeps its contents; the space of dead entries is not modelled
(log entry 10). -/
def execKeyStoreCompaction (s : State) : Res := .next s

end Sys2Proof.Machine
end

