-- ==== Sys2Proof/Machine/Metering.lean ====
section
/-! DEFINITION. Metering latches and rings (**R319**-**R322**) and the commands of group 0x50 (**R88**, **R323**). -/

namespace Sys2Proof.Machine

-- Ring entries (R321, R322) -------------------------------------------------------------------------------------------------------

/-- Operation counts of one class, by group index. -/
def ClassMeter.opBytes (m : ClassMeter) : Bytes := (List.range 16).flatMap fun i => leBytes 4 (tgetD m.ops i 0)

/-- The 32 bytes of one class's other counters. -/
def ClassMeter.sumBytes (m : ClassMeter) : Bytes :=
  leBytes 8 m.busy ++ leBytes 8 m.bytesIn ++ leBytes 8 m.bytesOut ++ leBytes 4 m.refused ++ leBytes 4 m.skipped

/-- A ring entry of 320 bytes (**R322**). -/
def RingEntry.bytes (e : RingEntry) : Bytes :=
  leBytes 4 e.seqNo ++ [BitVec.ofNat 8 e.reason, BitVec.ofNat 8 (b2n e.moved), 0, 0] ++ leBytes 8 e.start ++ leBytes 8 e.stop ++
  leBytes 2 e.source ++ List.replicate 6 0 ++ e.ensign.opBytes ++ e.pennon.opBytes ++ e.streamer.opBytes ++
  e.ensign.sumBytes ++ e.pennon.sumBytes ++ e.streamer.sumBytes

/-- One class's counters of a ring entry's bytes. -/
def classOfBytes (b : Bytes) (c : Nat) : ClassMeter :=
  let sums := bytesAt b (224 + 32 * c) 32
  { ops := (List.range 16).filterMap fun i =>
      let n := leNat (bytesAt b (32 + 4 * (16 * c + i)) 4)
      if n = 0 then none else some (i, n)
    busy := leNat (bytesAt sums 0 8), bytesIn := leNat (bytesAt sums 8 8), bytesOut := leNat (bytesAt sums 16 8)
    refused := leNat (bytesAt sums 24 4), skipped := leNat (bytesAt sums 28 4) }

/-- A ring entry of its 320 bytes. -/
def ringOfBytes (b : Bytes) : RingEntry where
  seqNo := leNat (bytesAt b 0 4)
  reason := leNat (bytesAt b 4 1)
  moved := nbit (leNat (bytesAt b 5 1)) 0
  start := leNat (bytesAt b 8 8)
  stop := leNat (bytesAt b 16 8)
  source := leNat (bytesAt b 24 2)
  ensign := classOfBytes b 0
  pennon := classOfBytes b 1
  streamer := classOfBytes b 2

/-- The sequence that the next closed interval of a slice will have in the ring. -/
def nextRing (x : Slice) : Nat := (x.ringSeq + x.latching.length + 1) % 2 ^ 32

/-- An entry queued for the ring (**R321** step 2). -/
def queueRing (e : RingEntry) (x : Slice) : Slice := { x with latching := x.latching ++ [e] }

/-- Step 1 of a latch: the interval closes and a fresh one opens. -/
def latchSlice (reason : Nat) (moved : Bool) (sl : Nat) (s : State) : State :=
  updSlice sl (fun x => { queueRing { x.meter with reason := reason, moved := moved, stop := s.mtime } x with
    meter := { start := s.mtime } }) s

/-- Slices that the loaded image enables. -/
def enabledSlices (s : State) : List Nat := match s.img.cfg with | some c => c.tenants.map (·.1) | none => []

/-- A latch of every enabled slice (**R321**). -/
def latchAll (reason : Nat) (s : State) : State := (enabledSlices s).foldl (fun t n => latchSlice reason false n t) s

/-- MINUTE_LATCH (**R321**): a boundary of 60 s has been passed since the last one. -/
def execMinuteLatch (s : State) : Res :=
  if !(s.pwr.state == .ready || s.pwr.state == .run) || s.mtime / 60000000000 ≤ s.mgt.mtrLast / 60000000000 then .next s
  else
    let t := latchAll 1 s
    .next { t with mgt := { t.mgt with mtrLast := s.mtime } }

/-- METER_LATCH commands whose entry stands in the ring complete (**R321**). -/
def finishLatches (sl : Nat) (s : State) : State :=
  (s.rqs.live.filter fun r => r.phase == .waitLatch && r.slice == sl && r.latchSeq ≤ (slice s sl).ringSeq).foldl
    (fun t r => finish r.rid (r.result.getD {}) t) s

/-- RING_ENTRY_WRITTEN (**R321**, **R322**): the oldest closed interval enters the ring, which keeps 64. -/
def execRingEntryWritten (sl : Nat) (s : State) : Res :=
  match (slice s sl).latching with
  | [] => .next s
  | e :: rest =>
    let q := ((slice s sl).ringSeq + 1) % 2 ^ 32
    .next (finishLatches sl (updSlice sl (fun x => { x with
      latching := rest, ringSeq := q, ring := ({ e with seqNo := q } :: x.ring).take 64 }) s))

-- Group 0x50 (R88, R323) --------------------------------------------------------------------------------------------------------------

/-- ECHO (**R323**). -/
def execEcho (rid : Nat) (spUe : Option Nat) (s : State) : Res :=
  runCmd 0x5001 noPre (pureCalc fun r _ _ => okOut r.input) rid spUe s

/-- METER_LATCH (**R321**): the tenant's own slice; it completes once its entry is written. -/
def execMeterLatch (rid : Nat) (spUe : Option Nat) (s : State) : Res :=
  runCmd 0x5002 noPre (fun t r _ _ => ({ ring := some (nextRing (slice t r.slice)) }, latchSlice 2 false r.slice t)) rid spUe s

/-- METER_READ (**R323**): the newest entries present, oldest first. -/
def execMeterRead (rid : Nat) (spUe : Option Nat) (s : State) : Res :=
  runCmd 0x5003 noPre (fun t r _ _ =>
    (okOut (((slice t r.slice).ring.take r.desc.p).reverse.flatMap RingEntry.bytes), t)) rid spUe s

/-- Existing queues of a slice. -/
def queueNumbers (s : State) (sl : Nat) : List Nat := (List.range 16).filter fun q => (queue? s sl q).isSome

/-- A mask of queue numbers. -/
def queueMask (l : List Nat) : Nat := l.foldl (fun n q => n + 2 ^ q) 0

/-- Paused queues of a slice (**R310**). -/
def pausedQueues (s : State) (sl : Nat) : List Nat :=
  (queueNumbers s sl).filter fun q => match queue? s sl q with | some x => x.paused | none => false

/-- Requests of a slice and class that the module holds and has not completed. -/
def outstanding (s : State) (sl : Nat) (c : RClass) : Nat :=
  (s.rqs.live.filter fun r => r.slice == sl && clsOf r.desc == c).length

/-- The 48 bytes of SLICE_INFO (**R323**). -/
def sliceInfo (s : State) (sl : Nat) : Bytes :=
  let t := tenant s sl
  let x := slice s sl
  [BitVec.ofNat 8 x.state.code, t.flags, BitVec.ofNat 8 (queueNumbers s sl).length, BitVec.ofNat 8 t.depthLog2] ++
  leBytes 2 t.weight ++ leBytes 2 (queueMask (queueNumbers s sl)) ++ leBytes 4 t.rate ++ leBytes 4 t.depth ++
  leBytes 8 x.level ++ leBytes 4 (outstanding s sl .ensign) ++ leBytes 4 (outstanding s sl .pennon) ++
  leBytes 4 (outstanding s sl .streamer) ++ leBytes 2 (queueMask (pausedQueues s sl)) ++
  leBytes 2 (tenantSessions s sl).length ++ leBytes 4 x.ringSeq ++ [0, 0, 0, 0]

/-- SLICE_INFO (**R323**). -/
def execSliceInfo (rid : Nat) (spUe : Option Nat) (s : State) : Res :=
  runCmd 0x5004 noPre (fun t r _ _ => (okOut (sliceInfo t r.slice), t)) rid spUe s

end Sys2Proof.Machine
end

