-- ==== Sys2Proof/Machine/Engines.lean ====
section
/-! DEFINITION. Engine units (**R16**, **R17**, **R111**, **R166**-**R175**, **R190**, **R195**): boundaries, known-answer tests,
retirement with re-execution, spares, aborts, mask reseeds and unit clocks. -/

namespace Sys2Proof.Machine

-- Physical units, spares and fuses (R16, R17, R392) ---------------------------------------------------------------------------

/-- Physical units of a pool. -/
def physCount (pool : Nat) : Nat := [52, 18, 9, 68, 34, 18, 5].getD (pool - 1) 0

/-- Fuse of a physical unit, in pool order. -/
def unitFuse (pool phys : Nat) : Nat := 5248 + [0, 52, 70, 79, 147, 181, 199].getD (pool - 1) 0 + phys

/-- The physical unit's retirement fuse is blown. -/
def fuseRetired (s : State) (pool phys : Nat) : Bool := s.lcs.fuse.getLsbD (unitFuse pool phys)

/-- Spares of a pool that remain, lowest physical number first. -/
def sparesLeft (s : State) (pool : Nat) : List Nat :=
  let used := tgetD s.eng.sparesUsed pool []
  (List.range (physCount pool)).filter fun n => enabledCount pool ≤ n && !used.contains n && !fuseRetired s pool n

/-- Fuses burned through the fuse-burn stage where the capacitor holds the energy of **R384**; the others wait. -/
def burnRetired (s : State) : State :=
  let l := s.eng.fusePending
  if l.isEmpty || s.pwr.cap < burnEnergy l.length || s.wdn.lost then s
  else stageWrite 1 s.wdn.pennant s fun t =>
    { t with lcs := { t.lcs with fuse := l.foldl (fun f i => fuseBlow f i 1) t.lcs.fuse }, eng := { t.eng with fusePending := [] } }

/-- The logical units of a pool at a start: each enabled number has its own physical unit, a spare in place of a
retired one, or is absent. -/
def startPool (s : State) (pool : Nat) : List (Nat × EUnit) × List Nat :=
  (List.range (enabledCount pool)).foldl (fun acc l =>
    if fuseRetired s pool l then
      match (sparesLeft s pool).find? fun n => !acc.2.contains n with
      | some n => (acc.1 ++ [(256 * pool + l, { phys := n })], acc.2 ++ [n])
      | none => (acc.1 ++ [(256 * pool + l, { present := false, phys := l })], acc.2)
    else (acc.1 ++ [(256 * pool + l, { phys := l })], acc.2)) ([], [])

/-- Every pool's units at a start. -/
def startUnits (s : State) : State :=
  let t := { s with eng := { s.eng with sparesUsed := [] } }
  let pools := [1, 2, 3, 4, 5, 6, 7].map fun p => (p, startPool t p)
  { t with eng := { t.eng with
      units := pools.flatMap fun e => e.2.1
      sparesUsed := pools.filterMap fun e => if e.2.2.isEmpty then none else some (e.1, e.2.2) } }

-- Failures (R166, R190, R501) -------------------------------------------------------------------------------------------------------

/-- One failure counted: ENG_CD_KAT for the cipher and digest pools, the fault register of the others. -/
def countFault (pool l cause : Nat) (e : Eng) : Eng :=
  let f := fun (x : FaultReg) =>
    { x with
      katFails := if cause = 3 then satAdd 8 x.katFails 1 else x.katFails
      checkFails := if cause = 3 then x.checkFails else satAdd 8 x.checkFails 1
      lastUnit := l, lastCause := cause }
  if pool = 5 then { e with oryxFault := f e.oryxFault }
  else if pool = 6 then { e with mkhFault := f e.mkhFault }
  else if pool = 7 then { e with codeFault := f e.codeFault }
  else if cause = 3 ∧ 2 ≤ pool then { e with cdLastPool := pool, cdLastUnit := l, cdFails := satAdd 8 e.cdFails 1 }
  else e

/-- Key generation commands: a re-execution draws fresh command randomness (**R224**, **R501**). -/
def isKeygen (d : Desc) : Bool :=
  [0x2005, 0x200B, 0x3001, 0x3004, 0x3101, 0x3104, 0x3201, 0x3204, 0x3801, 0x3804].contains d.code

/-- The request needs a dedicated unit. -/
def needsDedicated (s : State) (r : Req) : Bool :=
  (dedicatedOnly r.desc).isSome || bigRsa r { a := (liveRecord s r.slice r.desc.keyA.toNat).map (·.2) }

/-- A blinding call of a re-execution: an ENSIGN call for an ENSIGN request (**R501**). -/
def freshBlinding (r : Req) (s : State) : Option State :=
  let b := (rngCalls r.desc).2
  if b = 0 then some s
  else if (blockedInst s 3).isSome then none
  else if r.isEnsign then (leastInst s 3).map fun i => countCalls i b s
  else rrCalls 3 b s

/-- A request's operation re-executed after its unit `l` of `pool` retired (**R190**, **R501**): a stateful signature
takes a new index, a key generation fresh randomness, any other operation fresh blinding only. -/
def reexecute (pool l rid : Nat) (s : State) : State :=
  match findReq s rid with
  | none => s
  | some r =>
    let mark := fun (x : Req) => { x with retried := some (pool, l) }
    if pool = 1 then
      match r.phase with
      | .executing => offerSeq rid (updReq rid (fun x => { mark x with phase := .queued, seqr := none }) s)
      | .fwdQueued => offerSeq rid (updReq rid (fun x => { x with seqr := none }) s)
      | _ => updReq rid (fun x => { x with seqr := none }) s
    else if r.phase == .executing then
      match freshBlinding r s with
      | some t => updReq rid mark t
      | none => endReq rid stDevice (lastSeq s) s
    else if r.index.isSome || isKeygen r.desc then
      let t := if r.index.isSome then { s with eng := { s.eng with burned := satAdd 64 s.eng.burned 1 } } else s
      offerSeq rid (updReq rid (fun x => { mark x with phase := .queued, seqr := none, result := none, index := none })
        { t with eng := { t.eng with tasks := t.eng.tasks.filter (· != rid) } })
    else
      match freshBlinding r s with
      | some t =>
        let u := { t with eng := { t.eng with tasks := t.eng.tasks.filter (· != rid) } }
        takeContext r (needsDedicated u r) (updReq rid (fun x => { mark x with phase := .detached }) u)
      | none => endReq rid stDevice (lastSeq s) s

/-- Requests that a unit serves, context 0 first; for a sequencer, the request it holds. -/
def unitReqs (s : State) (pool l : Nat) : List Nat :=
  let u := unitOf s pool l
  if pool = 1 then (s.rqs.live.filter fun r => r.seqr == some l).map (·.rid) else u.ctx0.toList ++ u.ctx1.toList

/-- ENSIGN requests that a second retirement of a pool within T_E may make late (**R94**). -/
def markLate (pool : Nat) (s : State) : State :=
  match tget? s.eng.retiredAt pool with
  | some m =>
    if s.mtime ≤ m + 100 * teTenths s then
      { s with rqs := { s.rqs with live := s.rqs.live.map fun r =>
          if r.isEnsign && r.work.any (fun w => w.1 == pool) then { r with lateRetire := true } else r } }
    else s
  | none => s

/-- A unit retired (**R190**, **R102**): contexts cleared, admission counts it no more, ENGINE_RETIRED logged and
raised, its operations re-executed. -/
def retireUnit (pool l cause : Nat) (s : State) : State :=
  let u := unitOf s pool l
  if !u.present || enabledCount pool ≤ l then s
  else
    let ops := unitReqs s pool l
    let spare := !(sparesLeft s pool).isEmpty
    let s1 := markLate pool (updUnit pool l (fun x => { present := false, phys := x.phys }) s)
    let e := countFault pool l cause s1.eng
    let s2 := { s1 with eng := { e with
      retiredAt := tset e.retiredAt pool s.mtime, fusePending := e.fusePending ++ [unitFuse pool u.phys] } }
    let s3 := raise 2 (logEvent 0x601 ([BitVec.ofNat 8 pool, BitVec.ofNat 8 l, BitVec.ofNat 8 u.phys, BitVec.ofNat 8 cause,
      BitVec.ofNat 8 (b2n spare)]) (burnRetired s2))
    ops.foldl (fun t r => reexecute pool l r t) (applyThrottle s3)

/-- UNIT_CHECK_FAILURE (**R166**, **R190**): a release check (1) or parity (2) failure. -/
def execUnitCheckFailure (pool unit cause : Nat) (s : State) : Res :=
  if s.pwr.state != .run || (tget? s.eng.units (256 * pool + unit)).isNone then .next s
  else .next (retireUnit pool unit cause s)

/-- An ENSIGN operation of a pool waits for a unit. -/
def ensignWaits (s : State) (pool : Nat) : Option Req :=
  firstLanded (s.rqs.live.filter fun r =>
    r.isEnsign && r.phase == .executing && poolOf r.desc == pool && !holdsReq s pool r.rid)

/-- KNOWN_ANSWER_TEST (**R166**, **R190**, **R196**): at a boundary with no ENSIGN operation in the unit and, unless
the unit may take no work before its test, none waiting; a core or lane with a context 1 also has it free. -/
def execKnownAnswerTest (pool unit : Nat) (pass : Bool) (s : State) : Res :=
  let u := unitOf s pool unit
  if s.pwr.state != .run || pool < 2 || (tget? s.eng.units (256 * pool + unit)).isNone || !u.present || u.ctx0.isSome ||
      (!u.testFirst && (ensignWaits s pool).isSome && unitKind s pool unit != 2) || (5 ≤ pool && u.ctx1.isSome) then .next s
  else if pass then .next (updUnit pool unit (fun x => { x with kat := false, testFirst := false }) s)
  else .next (retireUnit pool unit 3 s)

/-- SPARE_SWITCH_IN (**R17**, **R190**, **R505**): the Warden gives a spare the retired unit's logical number; a present
spare may itself be parked. -/
def execSpareSwitchIn (pool unit : Nat) (s : State) : Res :=
  let u := unitOf s pool unit
  if s.wdn.lost || (tget? s.eng.units (256 * pool + unit)).isNone || u.present then .next s
  else
    match sparesLeft s pool with
    | [] => .next s
    | n :: _ =>
      let t := { s with eng := { s.eng with sparesUsed := tupd s.eng.sparesUsed pool [] (· ++ [n]) } }
      .next (applyThrottle (updUnit pool unit (fun _ => { phys := n }) t))

-- Boundaries (R103, R111, R112, R163, R173-R175) ----------------------------------------------------------------------------------

/-- PENNON and STREAMER operations that wait for a unit of the pool. -/
def sharedWaits (s : State) (pool : Nat) : List Req :=
  s.rqs.live.filter fun r =>
    !r.isEnsign && (r.phase == .executing || r.phase == .detached) && poolOf r.desc == pool && !holdsReq s pool r.rid

/-- The operation that a free unit takes: a dedicated unit takes dedicated-only work first, and only it takes it. -/
def nextOperation (s : State) (pool l : Nat) : Option Req :=
  let w := sharedWaits s pool
  let big := w.filter (needsDedicated s)
  let rest := w.filter fun r => !needsDedicated s r
  if unitKind s pool l = 2 then
    match nextShared s pool big with
    | some r => some r
    | none => nextShared s pool rest
  else nextShared s pool rest

/-- OPERATION_BOUNDARY: the unit keeps an ENSIGN request it serves; else it takes a waiting ENSIGN operation (never a
dedicated unit), suspending what context 1 holds; else it parks where a throttle raise removed it; else it keeps its
operation or takes the next one. -/
def execOperationBoundary (pool unit : Nat) (s : State) : Res :=
  let u := unitOf s pool unit
  if s.pwr.state != .run || (tget? s.eng.units (256 * pool + unit)).isNone || !u.present || u.parked then .next s
  else if pool = 1 then
    .next (if u.parkDue && !seqBusy s unit && unitKind s 1 unit != 0 then
      updUnit 1 unit (fun x => { x with parked := true, parkDue := false }) s else s)
  else if u.ctx0.isSome || u.testFirst then .next s
  else
    match (if unitKind s pool unit = 2 then none else ensignWaits s pool) with
    | some r => .next (updUnit pool unit (fun x => { x with ctx0 := some r.rid, clock := true }) s)
    | none =>
      if u.parkDue && unitKind s pool unit != 0 then
        .next (updUnit pool unit (fun x => { x with parked := true, parkDue := false, clock := false }) s)
      else if u.kat || u.ctx1.isSome then .next s
      else
        match nextOperation s pool unit with
        | some r => .next (updUnit pool unit (fun x => { x with ctx1 := some r.rid, clock := true }) s)
        | none => .next s

/-- UNIT_CLOCK_STOP (**R438**): 2 us without an operation. -/
def execUnitClockStop (pool unit : Nat) (s : State) : Res :=
  if (tget? s.eng.units (256 * pool + unit)).isSome && unitIdle s pool unit then
    .next (updUnit pool unit (fun x => { x with clock := false }) s)
  else .next s

-- Mask generators (R157, R201) -----------------------------------------------------------------------------------------------------------

/-- One lane's generator reseeded, or RESEED_LATE and its record where consumer 3 is blocked. -/
def reseedLane (pool l : Nat) (s : State) : State :=
  match rrCalls 3 1 s with
  | some t =>
    let (n, u) := draw t
    if pool = 2 then { u with eng := { u.eng with aesMask := tset u.eng.aesMask l n } }
    else { u with eng := { u.eng with mkhMask := tset u.eng.mkhMask l n } }
  | none =>
    let b := BitVec.ofNat 16 (2 ^ l)
    let e := s.eng
    logEvent 0x604 [BitVec.ofNat 8 pool, BitVec.ofNat 8 l]
      { s with eng := if pool = 2 then { e with aesLate := e.aesLate ||| b } else { e with mkhLate := e.mkhLate ||| b } }

/-- The lanes with a mask generator. -/
def maskLanes (s : State) : List (Nat × Nat) :=
  ([2, 6].flatMap fun p => (List.range (enabledCount p)).map fun l => (p, l)).filter fun e => (unitOf s e.1 e.2).present

/-- Every lane reseeded before its first operation: at each entry to RUN and at UNLOCK. -/
def reseedMasks (s : State) : State := (maskLanes s).foldl (fun t e => reseedLane e.1 e.2 t) s

/-- MASK_RESEED (**R157**): every 1 ms, in RUN and not locked. -/
def execMaskReseed (pool unit : Nat) (s : State) : Res :=
  if s.pwr.state == .run && !s.tmp.locked && !s.wdn.lost && (maskLanes s).contains (pool, unit) then .next (reseedLane pool unit s)
  else .next s

-- ENGINE_ABORT (R195, R196) --------------------------------------------------------------------------------------------------------------

/-- A unit stopped and cleared: its commands end with ABORTED, and its known-answer test comes before further work. -/
def abortUnit (pool l : Nat) (s : State) : State :=
  let ops := unitReqs s pool l
  let t := updUnit pool l (fun x => { x with ctx0 := none, ctx1 := none, kat := true, testFirst := true }) s
  let u := ops.foldl (fun v r => endReq r stAborted 0 v) t
  logEvent 0x602 [BitVec.ofNat 8 pool, BitVec.ofNat 8 l] { u with eng := { u.eng with aborts := satAdd 32 u.eng.aborts 1 } }

end Sys2Proof.Machine
end

