-- ==== Sys2Proof/Machine/Fabric.lean ====
section
/-! DEFINITION. The cluster fabric (**R275**-**R306**): ports and time, frames and sessions, discovery and liveness, forwarded
requests and provisional changes, claims, snapshots, takeover and handover. -/

namespace Sys2Proof.Machine

-- Ports and time (R276, R277, R292) ---------------------------------------------------------------------------------------------

/-- The fabric section in force. -/
def fabCfg (s : State) : FabCfg := match s.img.cfg with | some c => c.fabric | none => {}

/-- Mode of a port, 0 disabled. -/
def portMode (s : State) (p : Nat) : Nat := if p = 0 then (fabCfg s).mode0 else if p = 1 then (fabCfg s).mode1 else 0

/-- A port. -/
def portOf (s : State) (p : Nat) : Port := if p = 0 then s.fab.port0 else s.fab.port1

/-- A port changed. -/
def setPort (p : Nat) (x : Port) (s : State) : State :=
  if p = 0 then { s with fab := { s.fab with port0 := x } } else { s with fab := { s.fab with port1 := x } }

/-- The module is powered beyond SLEEP with its Warden running. -/
def wardenRuns (s : State) : Bool :=
  (s.pwr.state == .ready || s.pwr.state == .run || s.pwr.state == .starting) && !s.wdn.lost && s.lcs.state != .scrapped

/-- The fabric runs: a cluster member's ports are powered, the module is not locked (**R286**), no node conflict holds. -/
def fabricUp (s : State) : Bool := wardenRuns s && !standalone s && !s.tmp.locked && !s.fab.conflict

/-- An enabled port with its link up. -/
def portUp (s : State) (p : Nat) : Bool := portMode s p != 0 && (portOf s p).link

/-- PORT_LINK_CHANGE (**R276**): an enabled port's link, with PCS alignment. -/
def execPortLinkChange (port : Nat) (up : Bool) (s : State) : Res :=
  if 2 ≤ port || portMode s port = 0 || !wardenRuns s then .next s
  else .next (setPort port { (portOf s port) with link := up, pcs := up, paused := up && (portOf s port).paused } s)

/-- PAUSE_FRAME (**R276**). -/
def execPauseFrame (port : Nat) (on : Bool) (s : State) : Res :=
  if 2 ≤ port || !portUp s port then .next s else .next (setPort port { (portOf s port) with paused := on } s)

/-- ADDRESS_RESOLUTION (**R276**): answered for the port's own address. -/
def execAddressResolution (port : Nat) (own : Bool) (s : State) : Res :=
  if own && port < 2 && portUp s port then .next (emit (.address port) s) else .next s

/-- One frame dropped under **R276**. -/
def countDrop (s : State) : State := { s with fab := { s.fab with drop := satAdd 32 s.fab.drop 1 } }

/-- FOREIGN_FRAME (**R276**). -/
def execForeignFrame (port : Nat) (s : State) : Res :=
  if port < 2 && portUp s port then .next (countDrop s) else .next s

/-- Every measured delay forgotten (**R292**). -/
def unmeasure (s : State) : State :=
  { s with lku := { s.lku with peers := s.lku.peers.map fun e =>
      (e.1, { e.2 with delay0 := 0xFFFFFFFF, delay1 := 0xFFFFFFFF, reports0 := [], reports1 := [] }) } }

/-- PTP_MESSAGE (**R277**): an offset sample, the module's time less the master's; beyond 1 us MTIME is unlocked. -/
def execPtpMessage (offset : Int) (s : State) : Res :=
  if !wardenRuns s || standalone s then .next s
  else
    let t := { s with fab := { s.fab with ptpOffset := max (-2147483648) (min 2147483647 offset) } }
    if s.fab.ptpLocked && 1000 < offset.natAbs then
      .next (fabEvent 6 (unmeasure { t with fab := { t.fab with ptpLocked := false, lockedAt := none } }))
    else .next t

-- Sessions (R278-R287) -----------------------------------------------------------------------------------------------------------------

/-- A session leaves the open ones. -/
def dropSession (i : Nat) (s : State) : State :=
  { s with
    fab := { s.fab with sessions := terase s.fab.sessions i }
    lku := { s.lku with peers := s.lku.peers.map fun e => (e.1, if e.2.session = some i then { e.2 with session := none } else e.2) } }

/-- A session closed, with a CLOSE of this reason where one is sent (**R286**). -/
def closeSession (i : Nat) (reason : Option Nat) (s : State) : State :=
  match session? s i, reason with
  | none, _ => s
  | some _, some r => dropSession i (emit (.message i 7 0 [4, r]) s)
  | some _, none => dropSession i s

/-- Every session closed and every handshake abandoned. -/
def closeAll (reason : Option Nat) (s : State) : State :=
  let t := (s.fab.sessions.map (·.1)).foldl (fun u i => closeSession i reason u) s
  { t with fab := { t.fab with hs := [] } }

/-- A frame dropped under **R279**. -/
def authDrop (s : State) : State := { s with fab := { s.fab with authDrop := satAdd 32 s.fab.authDrop 1 } }

/-- The SEQUENCE has been received, or lies 1,024 or more below the highest one (**R279**). -/
def replayed (x : Session) (q : Nat) : Bool :=
  match x.rxHigh with
  | some h => x.rxSeen.contains q || q + 1024 ≤ h
  | none => false

/-- A SEQUENCE noted as received. -/
def noteSeq (q : Nat) (x : Session) : Session :=
  let h := max q (x.rxHigh.getD 0)
  { x with rxHigh := some h, rxSeen := (q :: x.rxSeen).filter (fun n => h < n + 1024), confirmed := true }

/-- A provisional change becomes final (**R295**): it enters the next delta, and the store where it persists. -/
def finalProv (p : Prov) (s : State) : State :=
  let k := p.record
  if p.created then
    let t := match tget? s.kvt.records p.entry.record with
      | some x => if x.slice = k.slice ∧ x.handle = k.handle then setRecord p.entry.record { x with prov := false } s else s
      | none => s
    let u := noteChange true k.domain k.slice k.handle t
    if !persists u k then u
    else if 224 * 1048576 < storeUsed u + k.storeBytes then keystoreFull k.domain u
    else { u with kvt := { u.kvt with storePending := u.kvt.storePending ++ [.put { k with prov := false }] } }
  else (finalDelete p.entry.record k s).2

/-- A provisional change reversed (**R295**). -/
def reverseProv (p : Prov) (s : State) : State :=
  let t := if p.created then
      uncache p.record.slice p.record.handle (freeRecord p.entry.record (emDelete p.record.slice p.record.handle s).2)
    else (emInsert p.entry s).2
  fabEvent 8 (logEvent 0x504 (leBytes 2 p.record.domain ++ BitVec.ofNat 8 p.record.slice :: leBytes 4 p.record.handle) t)

/-- ACK of a frame (**R280**): messages acknowledged, their provisional changes final, waiting messages sent. -/
def ackUpTo (i a : Nat) (s : State) : State :=
  let hit := fun (p : Prov) => p.session == i && p.message != 0 && p.message ≤ a
  let done := s.fab.prov.filter hit
  let t := updSession i (fun x => { x with unacked := x.unacked.filter fun m => a < m.id })
    { s with fab := { s.fab with prov := s.fab.prov.filter fun p => !hit p } }
  let u := done.foldl (fun v p => finalProv p v) t
  sendWaiting i (match session? u i with | some x => x.waiting.length | none => 0) u

/-- A received frame: dropped, or its session and the state with SEQUENCE and ACK applied (**R279**, **R280**). -/
def recvFrame (h : FrameHead) (s : State) : State ⊕ (Session × State) :=
  if !fabricUp s then .inl s
  else
    match session? s h.session with
    | none => .inl (authDrop s)
    | some x =>
      if !h.tagOk || replayed x h.sequence then .inl (authDrop s)
      else .inr (x, ackUpTo h.session h.ack (updSession h.session (noteSeq h.sequence) s))

/-- The highest ID up to which every message has been received whole. -/
def advance (done : List Nat) : Nat → Nat → Nat
  | 0, a => a
  | k + 1, a => if done.contains (a + 1) then advance done k (a + 1) else a

/-- A message received whole noted for the cumulative ACK. -/
def noteMsg (id : Nat) (x : Session) : Session :=
  let d := id :: x.rxDone
  let a := advance d d.length x.rxAcked
  { x with rxAcked := a, rxDone := d.filter (a < ·), partials := x.partials.filter (· != id), ackDue := true }

/-- A received message: dropped or a duplicate, which is acknowledged again, or fresh (**R280**). -/
def recvMsg (h : FrameHead) (s : State) : State ⊕ (Session × State) :=
  match recvFrame h s with
  | .inl t => .inl t
  | .inr (x, t) =>
    if h.message ≤ x.rxAcked || x.rxDone.contains h.message then .inl (updSession h.session (fun y => { y with ackDue := true }) t)
    else .inr (x, updSession h.session (noteMsg h.message) t)

/-- A message that only a peer session may carry; a tenant session that sends it closes with reason 1 (**R287**). -/
def onPeer (h : FrameHead) (f : Session → State → State) (s : State) : State :=
  match recvMsg h s with
  | .inl t => t
  | .inr (x, t) => if x.tenant then closeSession h.session (some 1) t else f x t

/-- The identity key has signed or can sign, and the state allows handshakes (**R285** STATE, this module's part). -/
def mayHandshake (s : State) : Bool :=
  fabricUp s && (s.lcs.state == .integrator || s.lcs.state == .fielded) && s.fab.cert.isSome && s.kvt.identity

/-- Open sessions of a kind. -/
def sessionCount (s : State) (tenant : Bool) : Nat := (s.fab.sessions.filter fun e => e.2.tenant == tenant).length

/-- MTIME lies outside a validity period (**R285** VALIDITY): MTIME counts nanoseconds of the PTP timescale. -/
def outsideValidity (s : State) (a b : Nat) : Bool := s.mtime / 1000000000 < a || b < s.mtime / 1000000000

/-- Session places reserved for the endpoints of restored slices, another endpoint's (**R318**). -/
def placesHeld (s : State) (fpr : Bytes) : Nat :=
  s.slices.foldl (fun n e => n + (e.2.reservedPlaces.filter fun p =>
    s.mtime < p.2 && p.1 != fpr && !(s.fab.sessions.any fun x => x.2.tenant && x.2.fpr == p.1)).length) 0

/-- The checks of **R285** in order: the reason of the first that fails.  `subject`: SUBJECT is checked. -/
def handshakeFault (h : Handshake) (c : Cert) (sigOk subject : Bool) (s : State) : Option Nat :=
  let tenant := c.role == 2
  let open9 := (s.fab.sessions.filter fun e => e.2.tenant == tenant && e.2.fpr != c.fpr).length
  let checks : List (Bool × Nat) :=
    [(!h.formatOk || !c.formatOk || (c.role != 1 && c.role != 2), 1),
     (!mayHandshake s || (tenant && s.lcs.state != .fielded), 2),
     (c.cluster != clusterId s, 3),
     (some c.ownerFpr != s.kvt.ownerFpr || !sigOk, 4),
     (s.fab.ptpLocked && outsideValidity s c.notBefore c.notAfter, 5),
     (subject && !h.subjectOk, 6),
     (tenant && !((tenant2 s c.slice).getLsbD 0 && (tenant2 s c.slice).getLsbD 2), 7),
     (!tenant && c.node != 0xFFFF && (c.node == selfNode s ||
        (let p := peerOf s c.node; (p.state == 1 || p.state == 2) && p.fpr != c.fpr)), 8),
     ((if tenant then 4096 else 16383) ≤ open9 + (if tenant then placesHeld s c.fpr else 0), 9)]
  (checks.find? (·.1)).map (·.2)
where
  /-- Flags of a slice's tenant entry. -/
  tenant2 (s : State) (n : Nat) : BitVec 8 := (tenant s n).flags

/-- A rejection logged and counted (**R285**). -/
def rejectHandshake (reason : Nat) (fpr : Bytes) (s : State) : State :=
  fabEvent 4 (logEvent 0x502 (BitVec.ofNat 8 reason :: fit 32 fpr)
    { s with fab := { s.fab with rejReason := reason, rejCount := satAdd 24 s.fab.rejCount 1 } })

/-- Two modules hold one node ID from image or certificate: the one of the higher fingerprint takes its fabric down
until the next start (**R291**). -/
def nodeConflict (node : Nat) (fpr : Bytes) (s : State) : State :=
  if s.fab.nodeId = some node ∧ s.fab.nodeSource ≠ 3 ∧ beNat fpr < beNat s.kvt.idFpr then
    fabEvent 5 (logEvent 0x506 (leBytes 2 node ++ fit 32 fpr)
      (let t := closeAll (some 0) s; { t with fab := { t.fab with conflict := true } }))
  else s

/-- A handshake of this module towards a peer begins: a HELLO with a fresh ID and fresh ephemeral keys (**R282**-**R284**). -/
def startHello (fpr : Bytes) (s : State) : State :=
  if !mayHandshake s || 64 ≤ s.fab.hs.length then s
  else
    match wardenCalls 1 s with
    | none => s
    | some t =>
      let (n, u) := draw t
      let v := Config.freeBits 32 n
      let hid := if v = 0 then 1 else v
      emit (.clear 1 hid) { u with fab := { u.fab with
        hs := u.fab.hs ++ [{ hid := hid, initiator := true, fpr := fpr, index := u.fab.nextIndex, time := u.mtime }]
        nextIndex := u.fab.nextIndex + 1 } }

/-- Messages not acknowledged on a replaced session travel on the new one under new IDs (**R286**). -/
def carryOver (old new : Nat) (x : Session) (s : State) : State :=
  let t := x.unacked.foldl (fun u m =>
    let id := match session? u new with | some y => y.nextMsg | none => 0
    let v := updSession new (fun y => { y with
      nextMsg := y.nextMsg + 1, txSeq := y.txSeq + frames m.bytes
      unacked := y.unacked ++ [{ m with id := id, txAt := u.mtime }] }) u
    emit (.message new m.typ id []) { v with fab := { v.fab with
      retx := satAdd 32 v.fab.retx 1
      prov := v.fab.prov.map fun p => if p.session = old ∧ p.message = m.id then { p with session := new, message := id } else p } }) s
  let move := fun (o : Origin) => match o with
    | .peer i m => Origin.peer (if i = old then new else i) m
    | .tenant i m => Origin.tenant (if i = old then new else i) m
    | o => o
  let u := updSession new (fun y => { y with waiting := x.waiting }) t
  { u with rqs := { u.rqs with live := u.rqs.live.map fun r => { r with origin := move r.origin } }
           fab := { u.fab with prov := u.fab.prov.map fun p => if p.session = old then { p with session := new } else p } }

/-- A session opens (**R284**); an older one with the same peer closes, and its messages carry over (**R286**). -/
def openSession (index : Nat) (x0 : Session) (s : State) : State :=
  let (n, t0) := draw s
  let x := { x0 with openedAt := s.mtime, keys := n }
  let old := s.fab.sessions.filter fun e => e.2.fpr == x.fpr && e.2.tenant == x.tenant
  let t := { t0 with fab := { t0.fab with sessions := tset t0.fab.sessions index x } }
  let u := old.foldl (fun v e => dropSession e.1 (carryOver e.1 index e.2 v)) t
  match x.node with
  | some k => updPeer k (fun p => { p with session := some index, fpr := x.fpr }) u
  | none => u

/-- The session that a certificate opens. -/
def sessionOf (h : Handshake) (c : Cert) : Session where
  tenant := c.role == 2
  node := if c.role = 2 ∨ c.node = 0xFFFF then none else some c.node
  slice := c.slice
  fpr := c.fpr
  serial := c.serial.toNat
  notBefore := c.notBefore
  notAfter := c.notAfter
  peerIndex := h.index
  mayOwn := c.flags.getLsbD 0
  mayStandby := c.flags.getLsbD 1

/-- SESSION_HELLO (**R282**, **R283**): checked and answered with ACCEPT, or the ACCEPT of a known ID sent again. -/
def execSessionHello (h : Handshake) (s : State) : Res :=
  if !fabricUp s then .next s
  else if s.fab.hs.any (fun x => !x.initiator && x.hid == h.hid) then .next (emit (.clear 2 h.hid) s)
  else
    let mine := s.fab.hs.find? fun x => x.initiator && x.fpr == h.cert.fpr
    if mine.isSome && beNat s.kvt.idFpr < beNat h.cert.fpr then .next s
    else
      let s1 := { s with fab := { s.fab with hs := s.fab.hs.filter fun x => !(x.initiator && x.fpr == h.cert.fpr) } }
      if 64 ≤ s1.fab.hs.length then .next (countDrop s1)
      else
        match handshakeFault h h.cert (h.certSig.mldsa && h.certSig.ecdsa) false s1 with
        | some r => .next (rejectHandshake r h.cert.fpr (if r = 8 then nodeConflict h.cert.node h.cert.fpr s1 else s1))
        | none =>
          match wardenCalls 1 s1 with
          | none => .next s1
          | some t =>
            .next (emit (.clear 2 h.hid) { t with fab := { t.fab with
              hs := t.fab.hs ++ [{ hid := h.hid, fpr := h.cert.fpr, index := t.fab.nextIndex, peer := sessionOf h h.cert, time := t.mtime }]
              nextIndex := t.fab.nextIndex + 1 } })

/-- A handshake leaves those in progress. -/
def dropHs (hid : BitVec 32) (s : State) : State :=
  { s with fab := { s.fab with hs := s.fab.hs.filter fun x => x.hid != hid } }

/-- SESSION_ACCEPT (**R284**): the initiator checks, sends FINISH and opens the session, not yet confirmed. -/
def execSessionAccept (h : Handshake) (s : State) : Res :=
  match (if fabricUp s then s.fab.hs.find? fun x => x.initiator && x.hid == h.hid else none) with
  | none => .next s
  | some x =>
    let t := dropHs h.hid s
    match handshakeFault h h.cert (h.certSig.mldsa && h.certSig.ecdsa) true t with
    | some r => .next (rejectHandshake r h.cert.fpr (if r = 8 then nodeConflict h.cert.node h.cert.fpr t else t))
    | none => .next (openSession x.index { (sessionOf h h.cert) with confirmed := false } (emit (.clear 3 h.hid) t))

/-- The flags byte of this module's burgees and beacons (**R288**, **R289**). -/
def burgeeFlags (s : State) : Nat :=
  let c := match s.fab.cert with | some c => c.flags | none => 0
  b2n (c.getLsbD 0 && (fabCfg s).role.getLsbD 0) + 2 * b2n (c.getLsbD 1 && (fabCfg s).role.getLsbD 1) +
    4 * b2n s.fab.ptpLocked + 16 * b2n (s.fab.nodeId.isNone && s.fab.tentative.isSome) + 32 * b2n (s.pwr.state != .run)

/-- The module's effective roles (**R281**). -/
def mayOwn (s : State) : Bool := burgeeFlags s % 2 == 1
/-- As `mayOwn`, may stand by. -/
def mayStandby (s : State) : Bool := burgeeFlags s / 2 % 2 == 1

/-- NODE and SENDER of this module: 0xFFFE while not assigned; in burgees a tentative ID (**R291**). -/
def announced (s : State) : Nat := match s.fab.nodeId with | some n => n | none => s.fab.tentative.getD 0xFFFE

/-- Domains that this module owns. -/
def ownedDomains (s : State) : List Nat := (s.lku.domains.filter fun e => e.2.state == 1).map (·.1)

/-- The triples of the burgee of a period: at most 1,022 owned domains, in turn (**R289**). -/
def burgeeTriples (s : State) : List (Nat × Nat) :=
  let l := ownedDomains s
  let n := (l.length + 1021) / 1022
  let k := if n = 0 then 0 else s.fab.burgees % n
  ((l.drop (1022 * k)).take 1022).map fun d => (d, (domainOf s d).pennant)

/-- A session burgee sent: NODE, FLAGS, T_E, the two delays and the triples. -/
def sendBurgee (i : Nat) (s : State) : State :=
  match session? s i with
  | none => s
  | some x =>
    let p := match x.node with | some n => peerOf s n | none => {}
    let words := [announced s, burgeeFlags s, teTenths s / 100, p.rx0.getD 0xFFFFFFFF, p.rx1.getD 0xFFFFFFFF] ++
      (burgeeTriples s).flatMap fun t => [t.1, t.2]
    let t := match x.node with | some n => updPeer n (fun y => { y with rx0 := none, rx1 := none }) s | none => s
    updSession i (fun y => { y with txSeq := y.txSeq + 1, ackDue := false }) (emit (.message i 3 0 words) t)

/-- SESSION_FINISH (**R284**): the responder checks, opens the session and sends a burgee. -/
def execSessionFinish (h : Handshake) (s : State) : Res :=
  match (if fabricUp s then s.fab.hs.find? fun x => !x.initiator && x.hid == h.hid else none) with
  | none => .next s
  | some x =>
    let t := dropHs h.hid s
    let c : Cert := { h.cert with
      formatOk := true, role := if x.peer.tenant then 2 else 1, cluster := clusterId s, node := x.peer.node.getD 0xFFFF
      slice := x.peer.slice, notBefore := x.peer.notBefore, notAfter := x.peer.notAfter
      ownerFpr := s.kvt.ownerFpr.getD [], fpr := x.peer.fpr }
    match handshakeFault h c s.kvt.ownerFpr.isSome true t with
    | some r => .next (rejectHandshake r x.peer.fpr (if r = 8 then nodeConflict c.node c.fpr t else t))
    | none =>
      let u := openSession x.index x.peer t
      .next (if x.peer.tenant then u else sendBurgee x.index u)

/-- SESSION_CLOSE (**R286**): the other side's CLOSE. -/
def execSessionClose (head : FrameHead) (_reason : Nat) (s : State) : Res :=
  match recvFrame head s with
  | .inl t => .next t
  | .inr (_, t) => .next (closeSession head.session none t)

/-- HELLO_RESEND (**R283**): no ACCEPT within 100 ms of the HELLO. -/
def execHelloResend (hid : BitVec 32) (s : State) : Res :=
  match s.fab.hs.find? fun x => x.initiator && x.hid == hid with
  | some x => if x.time + 100000000 ≤ s.mtime then .next (startHello x.fpr (dropHs hid s)) else .next s
  | none => .next s

/-- FINISH_TIMEOUT (**R283**): no valid FINISH within 100 ms of the ACCEPT. -/
def execFinishTimeout (hid : BitVec 32) (s : State) : Res :=
  match s.fab.hs.find? fun x => !x.initiator && x.hid == hid with
  | some x => if x.time + 100000000 ≤ s.mtime then .next (dropHs hid s) else .next s
  | none => .next s

/-- SESSION_CONFIRM_TIMEOUT (**R283**): no authenticated frame within 100 ms of FINISH: closed without CLOSE, and a new
HELLO. -/
def execSessionConfirmTimeout (session : Nat) (s : State) : Res :=
  match session? s session with
  | some x =>
    if !x.confirmed && x.openedAt + 100000000 ≤ s.mtime then .next (startHello x.fpr (closeSession session none s)) else .next s
  | none => .next s

/-- SESSION_REKEY (**R286**): 24 h after opening, or before a SEQUENCE reaches 2^40 (from 2^39 on, log entry 36). -/
def execSessionRekey (session : Nat) (s : State) : Res :=
  match session? s session with
  | some x =>
    if !x.tenant && (x.openedAt + 86400000000000 ≤ s.mtime || 2 ^ 39 ≤ x.txSeq || 2 ^ 39 ≤ x.rxHigh.getD 0) then
      .next (startHello x.fpr s)
    else .next s
  | none => .next s

/-- RETRANSMIT_TIMER (**R280**): 50 us after the last transmission of an ENSIGN message, 1 ms of another. -/
def execRetransmitTimer (session message : Nat) (s : State) : Res :=
  match (if fabricUp s then session? s session else none) with
  | none => .next s
  | some x =>
    match x.unacked.find? fun m => m.id == message with
    | none => .next s
    | some m =>
      if m.txAt + (if m.ensign then 50000 else 1000000) ≤ s.mtime then
        let y := { x with
          txSeq := x.txSeq + frames m.bytes
          unacked := x.unacked.map fun q => if q.id = message then { q with txAt := s.mtime } else q }
        .next (emit (.message session m.typ message []) { s with fab := { s.fab with
          sessions := tset s.fab.sessions session y, retx := satAdd 32 s.fab.retx 1 } })
      else .next s

/-- STALE_SESSION (**R280**): a message unacknowledged for 1 s closes its session. -/
def execStaleSession (session : Nat) (s : State) : Res :=
  match session? s session with
  | some x => if x.unacked.any fun m => m.sentAt + 1000000000 ≤ s.mtime then .next (closeSession session none s) else .next s
  | none => .next s

/-- ACK_DELAY_EXPIRY (**R280**): ACK advanced and no frame sent for 2 us. -/
def execAckDelayExpiry (session : Nat) (s : State) : Res :=
  match (if fabricUp s then session? s session else none) with
  | some x =>
    if x.ackDue then
      .next (updSession session (fun y => { y with ackDue := false, txSeq := y.txSeq + 1 })
        (emit (.message session 3 0 [if x.tenant then 0xFFFF else announced s, 8, x.rxAcked]) s))
    else .next s
  | none => .next s

/-- REASSEMBLY_TIMEOUT (**R280**): the segments of an incomplete message are discarded. -/
def execReassemblyTimeout (session message : Nat) (s : State) : Res :=
  .next (updSession session (fun x => { x with partials := x.partials.filter (· != message) }) s)

/-- PTP_LOCK (**R277**, **R285**): MTIME becomes locked; at the first lock it may step forward by its lag, and every
session outside its validity closes with reason 5. -/
def execPtpLock (offset : Int) (s : State) : Res :=
  if !wardenRuns s || standalone s || s.fab.ptpLocked then .next s
  else
    let t0 := if s.fab.ptpStepped then s else { s with mtime := (s.mtime + (-offset).toNat) % 2 ^ 64 }
    let t := fabEvent 6 { t0 with fab := { t0.fab with
      ptpLocked := true, lockedAt := some t0.mtime, ptpOffset := max (-2147483648) (min 2147483647 offset), ptpStepped := true } }
    if s.fab.ptpStepped then .next t
    else
      let bad := t.fab.sessions.filter fun e => outsideValidity t e.2.notBefore e.2.notAfter
      .next (bad.foldl (fun u e => rejectHandshake 5 e.2.fpr (closeSession e.1 (some 5) u)) t)

-- Discovery (R288, R291) ----------------------------------------------------------------------------------------------------------------------

/-- BEACON_PERIOD (**R288**): one beacon on each enabled port. -/
def execBeaconPeriod (s : State) : Res :=
  if !fabricUp s then .next s
  else .next (([0, 1].filter (portUp s)).foldl (fun t _ => emit (.clear 0 0) t) s)

/-- BEACON (**R288**): a fingerprint of the own cluster without a session, above the own one, starts a handshake. -/
def execBeacon (cluster : BitVec 64) (fpr : Bytes) (_node : Nat) (_flags : BitVec 8) (s : State) : Res :=
  let known := s.fab.sessions.any (fun e => !e.2.tenant && e.2.fpr == fpr) || s.fab.hs.any (fun x => x.fpr == fpr)
  if fabricUp s && cluster == clusterId s && !known && beNat s.kvt.idFpr < beNat fpr then .next (startHello fpr s)
  else .next s

/-- The lowest node ID that no alive or lost peer entry holds. -/
def lowestNode (s : State) : Nat :=
  let used := (s.lku.peers.filter fun e => e.2.state == 1 || e.2.state == 2).map (·.1)
  lowestFree used (used.length + 1) 0

/-- NODE_ID_ASSIGN (**R291**): the ID held in flash if no alive peer holds it, else, 100 ms after the first session opened, the
lowest free ID becomes tentative. -/
def execNodeIdAssign (s : State) : Res :=
  if !fabricUp s || s.fab.nodeId.isSome || s.fab.tentative.isSome ||
      !(s.fab.sessions.any fun e => !e.2.tenant && e.2.openedAt + 100000000 ≤ s.mtime) then .next s
  else
    match s.fab.nodeFlash with
    | some n =>
      if (peerOf s n).state != 1 then .next { s with fab := { s.fab with nodeId := some n, nodeSource := 3 } }
      else .next { s with fab := { s.fab with tentative := some (lowestNode s), tentativeAt := s.mtime } }
    | none => .next { s with fab := { s.fab with tentative := some (lowestNode s), tentativeAt := s.mtime } }

/-- NODE_ID_CONFIRM (**R291**): announced for 30 ms without a better claim, the ID is assigned and written to flash. -/
def execNodeIdConfirm (s : State) : Res :=
  match s.fab.tentative with
  | some n =>
    if fabricUp s && s.fab.tentativeAt + 30000000 ≤ s.mtime then
      .next { s with fab := { s.fab with nodeId := some n, nodeSource := 3, nodeFlash := some n, tentative := none } }
    else .next s
  | none => .next s

-- Requests over the fabric (R90, R92, R287, R293) ----------------------------------------------------------------------------------------------

/-- The normalised delay of a message noted for the next burgee to its sender (**R292**). -/
def noteDelay (h : FrameHead) (x : Session) (s : State) : State :=
  match x.node with
  | none => s
  | some n =>
    let d := s.mtime - h.txTime - h.serial
    updPeer n (fun p => if h.port = 0 then { p with rx0 := some (max d (p.rx0.getD 0)) }
      else { p with rx1 := some (max d (p.rx1.getD 0)) }) s

/-- REQUEST_MESSAGE (**R76**, **R90**, **R287**): a request of a peer or a tenant endpoint lands. -/
def execRequestMessage (head : FrameHead) (desc : Desc) (input : Bytes) (s : State) : Res :=
  match recvMsg head s with
  | .inl t => .next t
  | .inr (x, t) =>
    let sl := if x.tenant then x.slice else desc.slice.toNat
    let r : Req := {
      rid := t.rqs.nextRid, desc := { desc with slice := BitVec.ofNat 8 sl }, slice := sl, heldAt := t.mtime, phase := .reading
      origin := if x.tenant then .tenant head.session head.message else .peer head.session head.message
      input := fit desc.inLen.toNat input }
    let u := addReq r (if x.tenant then t else noteDelay head x t)
    .next (landReq r.rid (fit desc.inLen.toNat input) u)

/-- RESPONSE_MESSAGE (**R92**, **R293**): the matching forwarding record ends and the completion is written; without one
the RESPONSE is acknowledged and discarded. -/
def execResponseMessage (head : FrameHead) (body : RespBody) (s : State) : Res :=
  .next (onPeer head (fun x t =>
    match t.rqs.live.find? fun r => r.phase == .forwarded && r.fwdTag == body.tag.toNat && some r.owner == x.node with
    | none => t
    | some r =>
      let u := updReq r.rid (fun y => { y with retried := if body.retried ∧ body.status.toNat ≠ stOk then some (0, 0) else none }) t
      wakeForward (finish r.rid { status := body.status.toNat, detail := body.detail.toNat, output := body.output, forwarded := true,
                                  node := r.owner, skipped := body.skipped } u)) s)

/-- ACK_ONLY_BURGEE (**R280**): ACK advances, without liveness. -/
def execAckOnlyBurgee (head : FrameHead) (s : State) : Res :=
  match recvFrame head s with
  | .inl t => .next t
  | .inr (_, t) => .next t

-- Domains: claims (R260, R297) -----------------------------------------------------------------------------------------------------------------------

/-- A CLAIM sent on every open peer session, by the core that the claim announcer's stage accepts (**R297**, **R419**). -/
def sendClaim (d reason pennant standby sequence : Nat) (s : State) : State :=
  stageWrite 3 s.wdn.pennant s fun t =>
    (peerSessions t).foldl (fun u i => sendMsg i false
      { typ := 4, bytes := 24, what := .message i 4 0 [d, reason, pennant, selfNode t, standby, sequence] } u) t

/-- The SBY and STANDBY of a claim that was applied; 0xFFFF clears them (**R258**). -/
def writeStandby (d standby : Nat) (s : State) : State :=
  setDomain d { (domainOf s d) with sby := standby != 0xFFFF, standby := if standby = 0xFFFF then 0 else standby } s

/-- This module's own claim: learned with the sender set to itself, then announced; the key store holds the domain's
pennant (**R360**). -/
def ownClaim (d reason pennant standby : Nat) (s : State) : State :=
  let t := writeStandby d standby (learn d (selfNode s) pennant (selfNode s) s)
  sendClaim d reason pennant standby (tgetD t.fab.own d {}).seqNo
    { t with kvt := { t.kvt with storeDomains := tset t.kvt.storeDomains d pennant } }

/-- The record lines of a domain's records. -/
def recordsOf (s : State) (d : Nat) : List (Nat × KeyRec) := s.kvt.records.filter fun e => e.2.domain == d

/-- A domain's records deleted from vault memory and from the key store (**R301**). -/
def dropDomainRecords (d : Nat) (s : State) : State :=
  let t := (recordsOf s d).foldl (fun u e => uncache e.2.slice e.2.handle (freeRecord e.1 (emDelete e.2.slice e.2.handle u).2)) s
  { t with kvt := { t.kvt with
      store := t.kvt.store.filter fun k => k.domain != d
      storeDomains := terase t.kvt.storeDomains d } }

/-- A new standby drops what it holds and asks for a full snapshot (**R301**). -/
def startResync (d : Nat) (s : State) : State :=
  let e := domainOf s d
  let t := dropDomainRecords d { s with fab := { s.fab with sby := tset s.fab.sby d {} } }
  match sessionTo t e.owner with
  | some i => sendMsg i false { typ := 6, bytes := 16, what := .message i 6 0 [d, 1, e.pennant, 0] } t
  | none => t

/-- Requests that a handover held back: forwarded to the new owner, or refused to a peer (**R302**). -/
def releaseHandover (d owner : Nat) (s : State) : State :=
  (s.rqs.live.filter fun r => r.phase == .queued && r.seqr.isNone && r.domain == d && changesState r.desc).foldl (fun t r =>
    if r.viaPeer then endReq r.rid stNotOwner d t
    else offerSeq r.rid (updReq r.rid (fun y => { y with phase := .fwdQueued, owner := owner }) t)) s

/-- A triple learned from a peer (**R260**); a LOCAL domain that passes to it stops being served here. -/
def learnPeer (d owner pennant sender : Nat) (s : State) : State :=
  let before := domainOf s d
  let t := learn d owner pennant sender s
  if before.state = 1 ∧ (domainOf t d).state = 2 then
    fabEvent 3 (releaseHandover d owner { t with fab := { t.fab with own := terase t.fab.own d } })
  else t

/-- A CLAIM from a peer (**R297**, **R301**, **R302**): the owner by **R260**, and where that applies, the standby. -/
def claimMessage (head : FrameHead) (domain pennant owner standby : Nat) (s : State) : State :=
  onPeer head (fun x t =>
    match x.node with
    | none => t
    | some n =>
      let before := domainOf t domain
      let u := learnPeer domain owner pennant n t
      let after := domainOf u domain
      if owner = n ∧ (before.pennant < pennant ∨ (before.state = 3 ∧ after.state = 2)) then
        let v := writeStandby domain standby u
        if some standby = v.fab.nodeId then
          (if (tgetD v.fab.sby domain {}).haveSet && before.owner == owner && before.sby && before.standby == standby then v
           else startResync domain v)
        else { v with fab := { v.fab with sby := terase v.fab.sby domain } }
      else u) s

-- Snapshots (R298, R299, R301) ----------------------------------------------------------------------------------------------------------------------------

/-- A full snapshot sent: begin with the domain key set, one part for each record, end (**R298**, **R301**). -/
def sendFull (d : Nat) (s : State) : State :=
  let e := domainOf s d
  match (if e.state = 1 ∧ e.sby then sessionTo s e.standby else none) with
  | none => s
  | some i =>
    let o := tgetD s.fab.own d {}
    let n := o.seqNo + 1
    let recs := (recordsOf s d).filter fun r => !r.2.prov
    let t := { s with fab := { s.fab with own := tset s.fab.own d { o with seqNo := n, pendingPut := [], pendingDel := [] } } }
    let put := fun (kind items bytes : Nat) (u : State) =>
      sendMsg i false { typ := 5, bytes := bytes, what := .message i 5 0 [d, kind, e.pennant, n, items] } u
    let parts := recs.foldl (fun u r => put 3 1 (60 + 12 + r.2.storeBytes) u) (put 2 1 (60 + 76) t)
    put 4 0 60 parts

/-- RESYNC_REQUEST (**R301**): the standby of a LOCAL domain asks for a full snapshot. -/
def execResyncRequest (head : FrameHead) (domain : Nat) (_pennant : Nat) (s : State) : Res :=
  .next (onPeer head (fun x t =>
    let e := domainOf t domain
    if e.state = 1 ∧ e.sby ∧ x.node = some e.standby then sendFull domain t else t) s)

/-- Bytes that a snapshot's items take in the domain-snapshot region. -/
def itemsBytes (l : List SnapItem) : Nat := l.foldl (fun n i => n + 12 + 64 + i.material.length + i.pub.length + 64 * i.largeLines) 60

/-- Room in the domain-snapshot region (**R43**) for one more snapshot. -/
def snapshotFits (s : State) (l : List SnapItem) : Bool :=
  let used := s.fab.sby.foldl (fun n e => e.2.pending.foldl (fun m p => m + itemsBytes p.2) n) 0
  used + itemsBytes l ≤ (region s 4).2 * 1048576

/-- A RESYNC sent: subtype, pennant believed, sequence. -/
def sendResync (i d sub sequence : Nat) (s : State) : State :=
  sendMsg i false { typ := 6, bytes := 16, what := .message i 6 0 [d, sub, (domainOf s d).pennant, sequence] } s

/-- SNAPSHOT_MESSAGE (**R298**, **R357**): discarded below the believed pennant or before the domain key set is held; else
stored and acknowledged (a full snapshot at its end), or rejected for want of room. -/
def execSnapshotMessage (head : FrameHead) (domain kind pennant sequence : Nat) (items : Option (List SnapItem)) (s : State) : Res :=
  .next (onPeer head (fun x t =>
    let e := domainOf t domain
    let b := tgetD t.fab.sby domain {}
    match items with
    | none => t
    | some l =>
      if e.state != 2 || some e.owner != x.node || !e.sby || some e.standby != t.fab.nodeId || pennant < e.pennant ||
          (!b.haveSet && kind != 2) then t
      else if !snapshotFits t l then sendResync head.session domain 3 sequence t
      else
        let (n, t1) := if kind = 2 then draw t else (0, t)
        let t2 := if kind = 2 then { t1 with kvt := { t1.kvt with dks := tset t1.kvt.dks domain n } } else t1
        let y := { b with
          haveSet := true
          pending := (if kind = 2 then [] else b.pending) ++ [(sequence, l.filter fun i => !(i.handle == 0 && i.slice == 0))]
          stored := if kind = 1 ∨ kind = 4 then sequence else b.stored }
        let t3 := { t2 with fab := { t2.fab with sby := tset t2.fab.sby domain y } }
        if kind = 1 ∨ kind = 4 then sendResync head.session domain 2 sequence t3 else t3) s)

/-- A record removed with its entry. -/
def removeKey (sl h : Nat) (s : State) : State :=
  match liveRecord s sl h with
  | some (line, _) => uncache sl h (freeRecord line (emDelete sl h s).2)
  | none => s

/-- The record of a PUT item. -/
def recOfItem (d : Nat) (i : SnapItem) : KeyRec where
  typ := i.recType
  vol := i.flags.getLsbD 0
  large := i.flags.getLsbD 1
  handle := i.handle
  slice := i.slice
  domain := d
  attrs := i.attrs
  confirm := i.confirm
  material := i.material
  pub := i.pub
  stamp := i.stamp
  nextIdx := i.nextIdx
  limit := i.limit

/-- A record written with its entry, in place of one of the same handle; where it finds no room it is left out and
logged. -/
def installRecord (k : KeyRec) (largeBytes : Nat) (s : State) : State :=
  let t := removeKey k.slice k.handle s
  match placeRecord k largeBytes t with
  | .inr (.record n) => logEvent 0x607 (BitVec.ofNat 8 k.slice :: leBytes 4 n) t
  | .inr (.large n) => logEvent 0x606 (BitVec.ofNat 8 k.slice :: leBytes 4 n) t
  | .inl (line, y) =>
    let (_, u) := emInsert (entryFor y line) t
    { u with kvt := { u.kvt with records := tset u.kvt.records line y }, mem := colourRecord y line u.mem }

/-- One item of a snapshot installed (**R298** step 3); LARGE data comes with its record (log entry 10). -/
def installItem (d : Nat) (s : State) (i : SnapItem) : State :=
  if i.kind = 1 then installRecord (recOfItem d i) (64 * i.largeLines) s
  else if i.kind = 2 then removeKey i.slice i.handle s
  else if i.kind = 3 then
    match liveRecord s i.slice i.handle with
    | some (line, k) => setRecord line { k with limit := max k.limit i.limit } s
    | none => s
  else s

/-- The oldest stored snapshot of a domain installed, at most `k` of them. -/
def installStored (d : Nat) : Nat → State → State
  | 0, s => s
  | k + 1, s =>
    let b := tgetD s.fab.sby d {}
    match b.pending with
    | [] => s
    | (n, l) :: rest =>
      installStored d k (l.foldl (installItem d) { s with fab := { s.fab with
        sby := tset s.fab.sby d { b with pending := rest, installed := n } } })

/-- SNAPSHOT_INSTALL (**R298** step 3): one stored snapshot, while the domain stays REMOTE. -/
def execSnapshotInstall (domain : Nat) (s : State) : Res :=
  if fabricUp s && (domainOf s domain).state == 2 then .next (installStored domain 1 s) else .next s

-- Takeover, handover, loss (R290, R294, R295, R300-R302) ----------------------------------------------------------------------------------------------

/-- *N* of each stateful key of a domain set to its committed *L*, the indices between burned (**R219**). -/
def settleStateful (d : Nat) (s : State) : State :=
  (recordsOf s d).foldl (fun t e =>
    if e.2.typ = 4 then
      let u := setRecord e.1 { e.2 with nextIdx := e.2.limit } t
      { u with eng := { u.eng with burned := satAdd 64 u.eng.burned (e.2.limit - e.2.nextIdx) } }
    else t) s

/-- The non-volatile records of a domain that has become LOCAL enter the key store (**R360**). -/
def persistDomain (d : Nat) (s : State) : State :=
  { s with kvt := { s.kvt with storePending := s.kvt.storePending ++
      ((recordsOf s d).filter fun e => !e.2.vol && !e.2.prov).map fun e => .put e.2 } }

/-- A standby takes a domain: every stored delta installed, then the claim (**R300** steps 3-4, **R302** step 3). -/
def takeDomain (d reason standby : Nat) (s : State) : State :=
  let e := domainOf s d
  let t := settleStateful d (installStored d (tgetD s.fab.sby d {}).pending.length s)
  let u := { t with fab := { t.fab with
    own := tset t.fab.own d { former := some e.owner, seqNo := (tgetD t.fab.sby d {}).stored }, sby := terase t.fab.sby d } }
  let v := persistDomain d (ownClaim d reason (e.pennant + 1) standby u)
  fabEvent 2 (logEvent 0x503 (leBytes 2 d ++ leBytes 4 (e.pennant + 1) ++ [BitVec.ofNat 8 reason]) v)

/-- This module may claim a domain as its standby (**R300**). -/
def mayTake (s : State) (d : Nat) : Bool :=
  let e := domainOf s d
  fabricUp s && mayOwn s && e.sby && some e.standby == s.fab.nodeId && (tgetD s.fab.sby d {}).stored != 0 && e.pennant < 0xFFFFFFFF

/-- RESYNC_HANDOVER (**R302** step 3): the standby claims and names the former owner as its standby. -/
def execResyncHandover (head : FrameHead) (domain : Nat) (_pennant : Nat) (s : State) : Res :=
  .next (onPeer head (fun x t =>
    let e := domainOf t domain
    if e.state = 2 ∧ some e.owner = x.node ∧ mayTake t domain then takeDomain domain 3 e.owner t else t) s)

/-- A handover given up: held requests go on here (log entry 35). -/
def abandonHandover (d : Nat) (s : State) : State :=
  let t := { s with fab := { s.fab with own := tupd s.fab.own d {} fun o => { o with handover := false, asked := false } } }
  (t.rqs.live.filter fun r => r.phase == .queued && r.seqr.isNone && r.domain == d && changesState r.desc).foldl
    (fun u r => offerSeq r.rid u) t

/-- The standby asked to claim once everything sent has been stored (**R302** step 2). -/
def askClaim (d : Nat) (s : State) : State :=
  let o := tgetD s.fab.own d {}
  let e := domainOf s d
  if o.handover && !o.asked && o.seqNo ≤ o.stored && o.pendingPut.isEmpty && o.pendingDel.isEmpty then
    match sessionTo s e.standby with
    | some i => sendResync i d 4 o.seqNo { s with fab := { s.fab with own := tset s.fab.own d { o with asked := true } } }
    | none => s
  else s

/-- RESYNC_STORED (**R298**, **R218**): index blocks up to the sequence commit, and a handover advances. -/
def execResyncStored (head : FrameHead) (domain : Nat) (_pennant sequence : Nat) (s : State) : Res :=
  .next (onPeer head (fun x t =>
    let e := domainOf t domain
    if e.state = 1 ∧ e.sby ∧ x.node = some e.standby then
      let o := tgetD t.fab.own domain {}
      let hit := fun (l : Nat × Nat × Nat × Nat) => l.1 != 0 && l.1 ≤ sequence
      let u := { t with fab := { t.fab with own := tset t.fab.own domain { o with
        stored := max o.stored sequence, rejected := false, limits := o.limits.filter fun l => !hit l } } }
      let v := (o.limits.filter hit).foldl (fun w l => storeLimit l.2.1 l.2.2.1 l.2.2.2 (useLimit l.2.1 l.2.2.1 l.2.2.2 w)) u
      askClaim domain v
    else t) s)

/-- RESYNC REJECT (**R298**): FAB_STANDBY_FULL; a handover that waits for the standby is given up. -/
def resyncReject (head : FrameHead) (domain : Nat) (s : State) : State :=
  onPeer head (fun x t =>
    let e := domainOf t domain
    if e.state = 1 ∧ e.sby ∧ x.node = some e.standby then
      let u := { t with fab := { t.fab with own := tupd t.fab.own domain {} fun o => { o with rejected := true } } }
      let v := fabEvent 7 (logEvent 0x505 (leBytes 2 domain ++ leBytes 2 e.standby) u)
      if (tgetD v.fab.own domain {}).handover then abandonHandover domain v else v
    else t) s

/-- A peer marked lost, in the order of **R500**: its session and paths, the sweep (**R261**), the forwarding records
(**R294**), the provisional changes (**R295**), the record, then the claims that this module may make. -/
def losePeer (n : Nat) (s : State) : State :=
  let i := (peerOf s n).session
  let s1 : State := match i with | some k => closeSession k none s | none => s
  let s2 : State := updPeer n (fun p => { p with
    state := 2, missed := 3, session := none, path0 := false, path1 := false, delay0 := 0xFFFFFFFF, delay1 := 0xFFFFFFFF
    reports0 := [], reports1 := [] }) s1
  let swept := (s2.lku.domains.filter fun e => e.2.state == 2 && e.2.owner == n).map (·.1)
  let s3 : State := { s2 with lku := { s2.lku with domains := s2.lku.domains.map fun e =>
    (e.1, if e.2.state = 2 ∧ e.2.owner = n then { e.2 with state := 3 } else e.2) } }
  let s4 : State := (s3.rqs.live.filter fun r => r.phase == .forwarded && r.owner == n).foldl (fun t r => wakeForward (lostOwner r t)) s3
  let back := s4.fab.prov.filter fun p => p.node == n
  let s5 : State := back.foldl (fun t p => reverseProv p t) { s4 with fab := { s4.fab with prov := s4.fab.prov.filter fun p => p.node != n } }
  let s6 : State := fabEvent 0 (logEvent 0x501 (leBytes 2 n) s5)
  let s7 : State := (s6.fab.own.filter fun e => e.2.handover && (domainOf s6 e.1).standby == n).foldl (fun t e => abandonHandover e.1 t) s6
  swept.foldl (fun t d => if mayTake t d then takeDomain d 2 0xFFFF t else t) s7

/-- BURGEE_MISSED's effect (**R290**): 10 ms more without a burgee; at the third the peer is lost. -/
def burgeeMissed (node : Nat) (s : State) : State :=
  let p := peerOf s node
  if p.state != 1 || !wardenRuns s || s.mtime < p.last + 10000000 * (p.missed + 1) then s
  else if p.missed + 1 < 3 then updPeer node (fun x => { x with missed := x.missed + 1 }) s
  else losePeer node s

/-- PATH_UNMARK (**R290**): no burgee of the peer through the port for 30 ms. -/
def execPathUnmark (node port : Nat) (s : State) : Res :=
  let p := peerOf s node
  if port = 0 ∧ p.path0 ∧ p.last0 + 30000000 ≤ s.mtime then .next (updPeer node (fun x => { x with path0 := false }) s)
  else if port = 1 ∧ p.path1 ∧ p.last1 + 30000000 ≤ s.mtime then .next (updPeer node (fun x => { x with path1 := false }) s)
  else .next s

-- Burgees (R289, R290, R292) -------------------------------------------------------------------------------------------------------------------------------

/-- DELAY of a port from its reports (**R292**): the largest, 1.0 us, the serialisation of 66,512 bytes, 200 ns. -/
def delayOf (s : State) (port : Nat) (peerLocked : Bool) (reports : List Nat) : Nat :=
  let l := reports.filter (· != 0xFFFFFFFF)
  let ser := if portMode s port ≤ 2 then 2661 else 5321
  match l with
  | [] => 0xFFFFFFFF
  | x :: r =>
    let settled := match s.fab.lockedAt with | some t => decide (t + 100000000 ≤ s.mtime) | none => false
    if s.fab.ptpLocked && peerLocked && settled && 10 ≤ reports.length then r.foldl max x + 1000 + ser + 200 else 0xFFFFFFFF

/-- A peer entry after a burgee (**R290**, **R292**). -/
def heardBurgee (s : State) (h : FrameHead) (b : Burgee) (fpr : Bytes) (p : PeerEntry) : PeerEntry :=
  let locked := b.flags.getLsbD 2
  let r0 := if locked && s.fab.ptpLocked then (b.delay0 :: p.reports0).take 10 else []
  let r1 := if locked && s.fab.ptpLocked then (b.delay1 :: p.reports1).take 10 else []
  { p with
    state := 1, session := some h.session, mayOwn := b.flags.getLsbD 0, mayStandby := b.flags.getLsbD 1, te := b.te
    missed := 0, last := s.mtime, fpr := fpr, reports0 := r0, reports1 := r1
    path0 := p.path0 || h.port == 0, path1 := p.path1 || h.port == 1
    last0 := if h.port = 0 then s.mtime else p.last0, last1 := if h.port = 1 then s.mtime else p.last1
    delay0 := delayOf s 0 locked r0, delay1 := delayOf s 1 locked r1 }

/-- A former owner heard again with may stand by becomes the standby of each domain taken from it (**R301**). -/
def nameFormer (n : Nat) (s : State) : State :=
  if !(peerOf s n).mayStandby then s
  else
    (s.fab.own.filter fun e => e.2.former == some n).foldl (fun t e =>
      let x := domainOf t e.1
      if x.state = 1 ∧ !x.sby ∧ x.pennant < 0xFFFFFFFF then ownClaim e.1 4 (x.pennant + 1) n t else t) s

/-- A burgee that counts for liveness, from a peer of node `n`. -/
def peerBurgee (h : FrameHead) (b : Burgee) (x : Session) (n : Nat) (s : State) : State :=
  let alive := (peerOf s n).state == 1
  let t1 := updSession h.session (fun y => { y with node := some n }) s
  let t2 := updPeer n (heardBurgee t1 h b x.fpr) (noteDelay h { x with node := some n } t1)
  let t3 := if alive then t2 else fabEvent 1 t2
  nameFormer n (b.triples.foldl (fun u t => learnPeer t.domain n t.pennant n u) t3)

/-- Another module announces the ID that this one holds tentatively (**R291**): the lower fingerprint keeps it. -/
def contestNode (b : Burgee) (fpr : Bytes) (s : State) : State :=
  let loses := !b.flags.getLsbD 4 || beNat fpr < beNat s.kvt.idFpr
  if s.fab.tentative = some b.node ∧ loses then { s with fab := { s.fab with tentative := none } } else s

/-- SESSION_BURGEE's effect (**R287**, **R289**-**R292**). -/
def sessionBurgee (head : FrameHead) (body : Burgee) (s : State) : State :=
  match recvFrame head s with
  | .inl t => t
  | .inr (x, t) =>
    if body.flags.getLsbD 3 then t
    else if x.tenant then closeSession head.session (some 1) t
    else
      let u := contestNode body x.fpr t
      if body.flags.getLsbD 4 || body.node = 0xFFFE then u
      else if some body.node = u.fab.nodeId then nodeConflict body.node x.fpr u
      else peerBurgee head body x body.node u

/-- BURGEE_PERIOD (**R289**, **R298**): a burgee on each open peer session, and a delta to each standby for which final
changes wait. -/
def execBurgeePeriod (s : State) : Res :=
  if !fabricUp s then .next s
  else
    let t := (peerSessions s).foldl (fun u i => sendBurgee i u) s
    let u := (t.fab.own.map (·.1)).foldl (fun v d => askClaim d (sendDelta d v)) t
    .next { u with fab := { u.fab with burgees := u.fab.burgees + 1 } }

end Sys2Proof.Machine
end

