-- ==== Sys2Proof/Machine/Tamper.lean ====
section
/-! DEFINITION. Tamper responses (**R395**-**R411**): endings of live requests, LOCK, ERASE with its seed kill, the clear of
**R23**, the copy of the reserve logbook, alarms, and the fuse command. -/

namespace Sys2Proof.Machine

-- Endings (R94, R499) ---------------------------------------------------------------------------------------------------------------

/-- Every live request of a kind ended with a status. -/
def endLive (p : Req → Bool) (st : Nat) (s : State) : State :=
  (s.rqs.live.filter p).foldl (fun t r => endReq r.rid st 0 t) s

/-- A LOCK ends the requests that were admitted, forwarded ones included (**R505**); a committed change completes with its
own status (**R499**). -/
def endedByLock (r : Req) : Bool := r.admitted && !(r.phase == .waitCommit || r.phase == .waitWrite)

-- What an ERASE and a power-fail clear remove (R23, R352, R398) --------------------------------------------------------------------

/-- Key slots, key cache, engine contexts and session keys cleared. -/
def clearKeys (s : State) : State :=
  { s with
    kvt := { s.kvt with vs := none, cache := [] }
    eng := { s.eng with units := s.eng.units.map fun e => (e.1, { e.2 with ctx0 := none, ctx1 := none, clock := false }) } }

/-- Vault memory without contents: no line, record, entry or uncorrectable state. -/
def loseVault (s : State) : State :=
  let m := s.mem
  { s with
    mem := { m with
      cells := m.cells.filter fun c => c.1 < 0x1000000000
      colours := m.colours.filter fun c => c.1 < vaultLine0
      badLines := [], rewritten := [] }
    kvt := { s.kvt with records := [], cache := [] }
    lku := { s.lku with em := [], badBuckets := [] } }

/-- Every vault region formatted (**R348**): lines of colour 0x3FF, an empty exact-match table. -/
def formatVault (s : State) : State :=
  let t := loseVault s
  stashLevel { t with lku := { t.lku with stash := [] } }

/-- The seed fields that the seed kill programs to zero (**R398**). -/
def killSeeds (s : State) : State :=
  let kill := fun (x : Slot) => ({ x with seedFor := none } : Slot)
  { s with
    img := { s.img with slotA := kill s.img.slotA, slotB := kill s.img.slotB }
    kvt := { s.kvt with reseal := none, rekey := none } }

/-- SEED_KILL_DONE (**R398**): within 1 ms of the confirmation, on either supply. -/
def execSeedKillDone (s : State) : Res :=
  if s.tmp.killRunning then
    let t := killSeeds s
    .next { t with tmp := { t.tmp with killRunning := false, seedKilled := true } }
  else .next s

/-- The module is supplied from VIN. -/
def onVin (s : State) : Bool := !(s.pwr.state == .off || s.pwr.state == .reserve)

/-- The main logbook after an ERASE on VIN: its region formatted, the sequence going on with LOG_ERASED (**R425**). -/
def logErased (s : State) : State :=
  if !onVin s || s.log.size = 0 then s
  else
    let l := logFlush s.wdn.activeB s.log
    let e : LogEvent := { typ := 0xD03, time := s.mtime }
    let m := { l with main := [], used := 0, full := false }
    { s with log := logWrite s.wdn.activeB false e 1 s.mtime m }

/-- An ERASE (**R398**), at most once until the next UNLOCK: the keys, the retention checkpoint, approvals, vault memory,
which is undecipherable from now on, and the seed kill started. -/
def eraseNow (s : State) : State :=
  if s.tmp.erased then s
  else
    let t := dropApprovals (loseVault (clearKeys s))
    logErased { t with
      tmp := { t.tmp with erased := true, seedKilled := false, killRunning := true }
      wdn := { t.wdn with ckptValid := false }
      fab := { t.fab with sessions := [], hs := [] } }

-- LOCK (R396, R397) --------------------------------------------------------------------------------------------------------------------

/-- A LOCK: requests ended, sessions closed, DRBG instances and the key cache cleared, approvals and offers discarded,
debug closed, the TAMPER interrupt raised. -/
def lockNow (s : State) : State :=
  if s.tmp.locked then s
  else
    let s0 : State := { s with tmp := { s.tmp with locked := true, lockSeq := (s.tmp.lockSeq + 1) % 2 ^ 32 } }
    let s1 : State := endLive endedByLock stTamper s0
    let s2 : State := closeAll (some 0) s1
    let s3 : State := dropApprovals (entropyClear s2)
    let s4 : State := { s3 with
      kvt := { s3.kvt with cache := [] }
      eng := { s3.eng with units := s3.eng.units.map fun e => (e.1, { e.2 with clock := false }) }
      slices := s3.slices.map fun e => (e.1, { e.2 with offer := none })
      lcs := { s3.lcs with scope := 0, dbgStatus := 0 } }
    if onVin s then refreshHold (raise 8 s4) else s4

-- The reserve logbook (R426) ------------------------------------------------------------------------------------------------------------

/-- Records not yet copied into the main logbook, with REPLAYED set, oldest first. -/
def copyReserve (s : State) : State :=
  if s.log.size = 0 then s
  else
    let l := logFlush s.wdn.activeB s.log
    let m := (l.rsv.reverse.filter fun r => !r.replayed).foldl (fun k r =>
      logWrite s.wdn.activeB true { typ := r.typ, hardware := r.hardware, time := r.first, payload := r.payload } r.count r.last k) l
    { s with log := { m with rsv := m.rsv.map fun r => { r with replayed := true } } }

-- Alarms (R395-R407) ----------------------------------------------------------------------------------------------------------------------

/-- A source disabled by its fuses never confirms (**R405**): light, loops, and the parts of temperature and clock that
have a fuse are told by `detail`'s bit 31 (log entry 37). -/
def sourceDead (source : Nat) (detail : Word) (s : State) : Bool :=
  let d := tmpDisabled s
  (source == 1 && nbit d 0) || (3 ≤ source && source ≤ 6 && (nbit d (source - 2) || !s.tmp.loopEn.getLsbD (source - 3))) ||
  (source == 7 && detail.getLsbD 31 && nbit d 5) || (source == 9 && detail.getLsbD 31 && nbit d 6)

/-- The response to a source (**R45**, **R46**): whether it erases. -/
def responseErases (source : Nat) (s : State) : Bool := source == 2 || s.tmp.response.toNat / 4 ^ source % 4 == 3

/-- An alarm confirmed: LOCK, the ERASE that its response includes, the registers and the record (**R395**-**R399**,
**R406**, **R500**). -/
def confirmAlarm (source : Nat) (detail : Word) (s : State) : State :=
  let rsv := s.pwr.state == .reserve
  let s1 : State := lockNow s
  let s2 : State := if responseErases source s then eraseNow s1 else s1
  let b := BitVec.ofNat 11 (2 ^ source)
  let t := s2.tmp
  let s3 : State := { s2 with tmp := { t with
    active := t.active ||| b, latched := t.latched ||| b, lastAlarm := s2.mtime, alarms := satAdd 32 t.alarms 1
    reserveAlarm := t.reserveAlarm || rsv
    meshFaults := if source = 0 then satAdd 8 t.meshFaults 2 else t.meshFaults
    meshTrace := if source = 0 then detail.toNat % 64 else t.meshTrace
    shadow := if source = 2 then detail.toNat % 65536 else t.shadow
    loopR := if 3 ≤ source ∧ source ≤ 6 then tset t.loopR (source - 3) (detail.toNat % 65536) else t.loopR
    volts := if source = 8 then tset t.volts (detail.toNat / 65536 % 8) (detail.toNat % 65536) else t.volts } }
  let s4 := logReserve 0xB01 ([BitVec.ofNat 8 source, BitVec.ofNat 8 (b2n rsv)] ++ leBytes 4 detail.toNat) s3
  noteFull s3 (if onVin s4 && !s4.wdn.lost then copyReserve s4 else s4)

/-- TAMPER_ALARM (**R395**): a monitor confirms an alarm. -/
def tamperAlarm (source : Nat) (detail : Word) (s : State) : State :=
  if 11 ≤ source || s.pwr.state == .off || sourceDead source detail s || (s.pwr.state == .reserve && source == 9) then s
  else confirmAlarm source detail s

/-- The exhaustion of the reserve (**R407**): an ERASE_LOCK, recorded in the reserve logbook and in the lock record. -/
def exhaustReserve (cellMv : Nat) (s : State) : State :=
  let t := eraseNow (lockNow s)
  logReserve 0xB03 (leBytes 2 cellMv)
    { t with tmp := { t.tmp with exhausted := true, exhaustMv := cellMv, exhaustLog := true } }

-- The fuse command (R405) ---------------------------------------------------------------------------------------------------------------------

/-- TMP_FUSE_CMD (**R405**): a write while BUSY is ignored; else the first failed condition, or the burn starts. -/
def tmpFuseWrite (key : BitVec 16) (source : BitVec 8) (s : State) : State :=
  let res := fun (n : Nat) => { s with tmp := { s.tmp with fuseResult := n } }
  if s.tmp.fuseBusy.isSome then s
  else if key != 0xD15A then res 2
  else if s.lcs.state != .integrator || s.pwr.state != .ready || s.tmp.locked then res 1
  else if source = 0 ∨ 7 < source.toNat then res 3
  else if s.pwr.cap < burnEnergy 2 then res 4
  else { s with tmp := { s.tmp with fuseBusy := some source.toNat } }

/-- FUSE_BURN_DONE (**R405**, **R444**): the two fuses of the source are blown through the fuse-burn stage and read back;
where the read-back fails, which of them blew is a free value. -/
def execFuseBurnDone (readBack : Bool) (s : State) : Res :=
  match s.tmp.fuseBusy with
  | none => .next s
  | some c =>
    .next (stageWrite 1 s.wdn.pennant s fun t =>
      let (n, u) := draw t
      let bits := if readBack then 3 else Config.freeNat n % 3
      { u with
        lcs := { u.lcs with fuse := fuseBlow u.lcs.fuse (5504 + 2 * (c - 1)) bits }
        tmp := { u.tmp with fuseBusy := none, fuseResult := if readBack then 0 else 5 } })

end Sys2Proof.Machine
end

