-- ==== Sys2Proof/Machine/Launch.lean ====
section
/-! DEFINITION. Management commands (**R89**, **R421**, **R466**-**R468**): the paths into the mailbox, launching, the
check of a management descriptor, its input and output, and completion. -/

namespace Sys2Proof.Machine

-- Paths (R459, R472, R473) --------------------------------------------------------------------------------------------------------

/-- The SMBus port is powered (**R472**); in SCRAPPED the module answers JTAG alone (**R381**). -/
def sidebandUp (s : State) : Bool :=
  s.lcs.state != .scrapped && (match s.pwr.state with | .sleep | .ready | .run => true | .starting => s.pwr.startRun | _ => false)

/-- The Warden is powered and running. -/
def wardenUp (s : State) : Bool := !s.wdn.lost && sidebandUp s

/-- Flags of the management path in force (**R49**, **R56**). -/
def mgtFlags (s : State) : BitVec 8 := match s.img.cfg with | some c => c.mgtFlags | none => 7

/-- The SMBus port acknowledges its address (**R472**). -/
def smbusUp (s : State) : Bool := sidebandUp s && (mgtFlags s).getLsbD 0

/-- MGT_ACCESS_INVALID (**R11**, **R466**, **R473**). -/
def mgtInvalid (offset width : Nat) (write : Bool) (s : State) : State :=
  logEvent 0x001 (leBytes 4 offset ++ [BitVec.ofNat 8 width, BitVec.ofNat 8 (b2n write)]) s

-- The management buffer (R467) ------------------------------------------------------------------------------------------------------

/-- First address of the management buffer. -/
def bufBase : Nat := 0xFFFFFFFFFFFF8000

/-- The address names the management buffer. -/
def inBuf (a : Nat) : Bool := bufBase ≤ a

/-- A range of the buffer that runs past its end, or host memory named through the SMBus. -/
def rangeBad (path : MPath) (a n : Nat) : Bool :=
  n != 0 && (if inBuf a then 2 ^ 64 < a + n else path == .smbus)

-- The commands' descriptors (R89, R466) -------------------------------------------------------------------------------------------

/-- What a management command uses of its descriptor, and where it is accepted. -/
structure MRow where
  /-- Power states in which it is accepted. -/
  states : List PState := [.ready, .run]
  /-- It uses KEY_A and KEY_B. -/
  keyA : Bool := false
  /-- As `keyA`. -/
  keyB : Bool := false
  /-- It uses DOMAIN. -/
  dom : Bool := false
  /-- It uses SLICE. -/
  slice : Bool := false
  /-- It takes input. -/
  inp : Bool := false
  /-- It gives output. -/
  out : Bool := false
  /-- It uses P0. -/
  p0 : Bool := false
  /-- IN_LEN in range. -/
  inOk : Bool := true
  /-- Largest output it can produce. -/
  outMin : Nat := 0
  /-- P0 in range, by reason 0x0A. -/
  p0Ok : Bool := true
  deriving DecidableEq, Repr

/-- Length of the blob that a SLICE_SAVE of a slice produces (**R317**). -/
def blobLen (s : State) (sl : Nat) : Nat :=
  1524 + 32 * (queueNumbers s sl).length + 40 * (slice s sl).roster.length

/-- The rows of CUSTODIAN_SESSION, by P0 [3:0] (**R147**). -/
def custRow (s : State) (op len : Nat) (row : MRow) : MRow :=
  match op with
  | 1 => { row with inOk := len == 0, outMin := 3 }
  | 2 => { row with inOk := len == 68, outMin := 2 }
  | 3 => { row with inOk := len == 2 }
  | 4 => { row with inOk := len == 0 }
  | 5 => { row with inOk := len == 0, outMin := 16 * s.cust.approvals.length }
  | _ => { row with p0Ok := false }

/-- The row of a code of group 0x60; none for an unassigned code. -/
def mgtRow (s : State) (d : Desc) : Option MRow :=
  let p := d.p
  let op := p % 16
  let n := d.inLen.toNat
  match d.code with
  | 0x6001 => some { states := [.sleep, .ready, .run], p0 := true, p0Ok := 2 ≤ p && p ≤ 4 }
  | 0x6002 => some { keyA := true, keyB := true, inp := true, p0 := true
                     inOk := 8 ≤ n && n ≤ 1048576 && (n % 8 == 0 || nbit p 0) }
  | 0x6003 => some { states := [.ready] }
  | 0x6004 => some { slice := true, keyA := true, p0 := true, inp := true, out := true, inOk := n == 0, p0Ok := p / 16 == 0 }
  | 0x6005 => some { slice := true, p0 := true, p0Ok := p / 16 == 0 }
  | 0x6006 => some { slice := true, p0 := true, p0Ok := p / 2 == 0 }
  | 0x6007 => some { states := [.run], slice := true, p0 := true, p0Ok := p / 2 == 0 }
  | 0x6008 => some { slice := true, inp := true, out := true, inOk := n == 4621, outMin := blobLen s d.slice.toNat }
  | 0x6009 => some { slice := true, p0 := true, inp := true, out := true
                     inOk := if op = 1 then n == 0 else 1524 ≤ n && n ≤ 4596
                     outMin := if op = 1 then 4621 else 0, p0Ok := p / 16 == 0 && (op == 1 || op == 2) }
  | 0x600A => some {}
  | 0x600B => some { p0 := true, inp := true, inOk := n == 8, p0Ok := 1 ≤ p && p ≤ 3 }
  | 0x600C => some {}
  | 0x600D => some { states := [.ready], inp := true, inOk := n == 8 }
  | 0x600E => some { states := [.sleep, .ready, .run], p0 := true, inp := true }
  | 0x600F => some { p0 := true, p0Ok := p == 5 }
  | 0x6010 => some { states := [.ready], p0 := true, inp := true
                     inOk := if op = 1 then n == 7417 else 4848 ≤ n && n ≤ 7080 && (n - 4776) % 72 == 0
                     p0Ok := p / 16 == 0 && (op == 1 || op == 2) }
  | 0x6011 => some { inp := true, out := true, inOk := n == 32, outMin := 5670 }
  | 0x6012 => some { states := [.ready], p0 := true, inp := true
                     inOk := if op = 1 then 5 ≤ n && n ≤ 8388612 else n == 4872
                     p0Ok := p / 16 == 0 && 1 ≤ op && op ≤ 3 }
  | 0x6013 => some {}
  | 0x6014 => some (custRow s op n { p0 := true, inp := true, out := true, p0Ok := p / 32 == 0 })
  | 0x6015 => some { states := [.ready], inp := true, inOk := 6840 ≤ n && n ≤ 7096 && (n - 6840) % 16 == 0 }
  | 0x6016 => some { p0 := true, dom := op != 1, inp := true
                     inOk := n == (if op = 1 then 4792 else if op = 2 then 2 else 0)
                     p0Ok := p / 16 == 0 && 1 ≤ op && op ≤ 3 }
  | 0x6017 => some { states := [.run], p0 := true }
  | _ => none

/-- The check of a management descriptor (**R77**, **R466**, **R467**); the queue bases of QUEUE_CREATE are neither input
nor output (**R67**), and P0 [15:1] of IMAGE_STAGE fails with reason 0x01 (**R58**). -/
def mgtCheck (path : MPath) (d : Desc) (s : State) : Check :=
  match mgtRow s d with
  | none => some (stUnknown, 0)
  | some r =>
    let n := d.inLen.toNat
    let cap := d.outCap.toNat
    let create := d.code == 0x6004
    let inline := d.inline && r.inp && !create
    malformed [
      (d.cls.toNat / 4 == 0, 0x02, 1), (inline || d.flags == 0, 0x03, 1), (d.flags.toNat / 8 == 0 && !d.panSet && !d.noIrq, 0x03, 1),
      (d.tag == 0, 0x04, 1), (r.keyA || d.keyA == 0, 0x08, 1), (r.keyB || d.keyB == 0, 0x0C, 1), (r.dom || d.domain == 0, 0x10, 1),
      (d.panDigits == 0, 0x12, 1), (r.slice || d.slice == 0, 0x13, 1), (r.inp || n == 0, 0x14, 1), (r.inp || d.inAddr == 0, 0x18, 1),
      (inline || d.inl2 == 0, 0x20, 1), (r.out || d.outAddr == 0, 0x28, 1), (r.out && !create || cap == 0, 0x30, 1),
      (d.pan == 0, 0x34, 1), (r.p0 || d.p0 == 0, 0x3E, 1), (d.code != 0x6002 || d.p / 2 == 0, 0x3E, 1),
      (d.cls.toNat % 4 == 0, 0x02, 2),
      (n ≤ 16777216 && (!inline || n ≤ 16) && r.inOk, 0x14, 6), (r.outMin ≤ cap, 0x30, 7),
      (create || inline || ((d.inAddr == 0) == (n == 0) && !rangeBad path d.inAddr.toNat n), 0x18, 8),
      (create || ((d.outAddr == 0) == (cap == 0) && !rangeBad path d.outAddr.toNat cap), 0x28, 8),
      (r.p0Ok, 0x3E, 10)]

/-- The command's input, read when it starts: none where the DMA read fails (**R467**). -/
def mgtInput (d : Desc) (env : LaunchEnv) (s : State) : Option Bytes :=
  let n := d.inLen.toNat
  if n = 0 then some []
  else if d.inline then some d.inlineBytes
  else if inBuf d.inAddr.toNat then some (cellsRead s.mgt.buf (d.inAddr.toNat - bufBase) n)
  else if canDma s then env.hostIn.map (fit n)
  else none

-- Completion (R421, R466, R467) ------------------------------------------------------------------------------------------------------

/-- How a management command ends. -/
structure Done where
  /-- Status. -/
  st : Nat := 0
  /-- DETAIL. -/
  detail : Nat := 0
  /-- Output bytes. -/
  out : Bytes := []
  deriving DecidableEq, Repr

/-- A command refused for a state (**R80**). -/
def refusedState (s : State) : Done := { st := stState, detail := stateDetail s }

/-- MGT_STATUS, MGT_DETAIL, MGT_OUT_LEN and MGT_DONE_CODE written, DONE set, the record posted and vector 0 raised. -/
def mgtDone (code : Nat) (path : MPath) (st detail len : Nat) (s : State) : State :=
  let t : State := { s with mgt := { s.mgt with
    running := none, status := st, detail := detail, outLen := len, doneCode := BitVec.ofNat 16 code, path := path, done := true } }
  raise 0 (logEvent 0x003 (leBytes 2 code ++ leBytes 2 st ++ [BitVec.ofNat 8 (b2n (path == .smbus))]) t)

/-- Output written into the management buffer or to host memory. -/
def writeOut (addr : Nat) (out : Bytes) (s : State) : State :=
  if inBuf addr then { s with mgt := { s.mgt with buf := cellsWrite s.mgt.buf (addr - bufBase) out } }
  else emit (.write none addr out) s

/-- A command ends: its output is written, or waits for DMA, and then it completes. -/
def mgtEnd (d : Desc) (path : MPath) (x : Done) (s : State) : State :=
  let out := if x.st = stOk then x.out.take d.outCap.toNat else []
  if out = [] then mgtDone d.code path x.st x.detail 0 s
  else if !inBuf d.outAddr.toNat && !canDma s then
    { s with mgt := { s.mgt with running := some (.output d.code path d.outAddr.toNat out) } }
  else mgtDone d.code path x.st x.detail out.length (writeOut d.outAddr.toNat out s)

/-- A waiting output that DMA can carry. -/
def flushOutput (s : State) : State :=
  match s.mgt.running with
  | some (.output code path addr out) =>
    if canDma s then mgtDone code path stOk 0 out.length (writeOut addr out s) else s
  | _ => s

/-- Code and path of the command that runs. -/
def Running.who : Running → Nat × MPath
  | .readyDrain p => (0x6001, p)
  | .sliceReset _ p => (0x6006, p)
  | .sliceFreeze _ p => (0x6007, p)
  | .transition c p => (c, p)
  | .handover _ p => (0x6016, p)
  | .output c p _ _ => (c, p)

/-- The running command ends with a status and no output. -/
def endRunning (st detail : Nat) (s : State) : State :=
  match s.mgt.running with
  | some r => mgtDone r.who.1 r.who.2 st detail 0 s
  | none => s

-- Launch (R466, R468) ------------------------------------------------------------------------------------------------------------------------

/-- Commands in the mailbox, the running one included (MGT_STATUS.HELD). -/
def heldCount (s : State) : Nat := s.mgt.held.length + b2n s.mgt.running.isSome

/-- One launch: held, or ignored where four are held. -/
def launch (code : BitVec 16) (l : Launch) (s : State) : State :=
  if 4 ≤ heldCount s then mgtInvalid 8 4 true { s with mgt := { s.mgt with overrun := true } }
  else { s with mgt := { s.mgt with held := s.mgt.held ++ [{ code := code, launch := l }] } }

/-- A non-zero code written to MGT_CMD, with the descriptor that stands in MGT_DESC: it launches; a write of both paths
in one cycle launches twice, BAR0 first, and is logged (**R468**). -/
def writeCmd (code : BitVec 16) (l : Launch) (s : State) : State :=
  let t := { s with mgt := { s.mgt with cmd := code } }
  let u := if code = 0 then t else launch code l t
  match l.env.dual with
  | none => u
  | some c2 =>
    if l.path != .bar0 || !smbusUp s || !(mgtFlags s).getLsbD 1 then u
    else
      let v := logEvent 0x002 (leBytes 4 code.toNat ++ leBytes 4 c2.toNat) { u with mgt := { u.mgt with cmd := c2 } }
      if c2 = 0 then v else launch c2 { l with path := .smbus } v

/-- A management row: the descriptor written into MGT_DESC0-15 and the code into MGT_CMD through the launch's path, where
that path reaches the window. -/
def hostLaunch (code : Nat) (l : Launch) (s : State) : State :=
  let ok := match l.path with | .bar0 => barOpen s | .smbus => smbusUp s
  if !ok then s
  else if l.path == .smbus && !(mgtFlags s).getLsbD 1 then mgtInvalid 8 4 true s
  else writeCmd (BitVec.ofNat 16 code) l { s with mgt := { s.mgt with desc := l.desc } }

end Sys2Proof.Machine
end

