-- ==== Sys2Proof/Machine/Slices.lean ====
section
/-! DEFINITION. The management commands of queues, slices and metering (**R67**, **R312**-**R318**, **R321**) and the ends
of slice transitions. -/

namespace Sys2Proof.Machine

/-- What a management command does: how it ended, or none while it waits, and the state. -/
abbrev Ran := Option Done × State

/-- The command completes with OK. -/
def okCmd (s : State) : Ran := (some {}, s)

/-- The command completes with OK and output. -/
def outCmd (out : Bytes) (s : State) : Ran := (some { out := out }, s)

/-- The command completes with a status and changes nothing. -/
def failCmd (st detail : Nat) (s : State) : Ran := (some { st := st, detail := detail }, s)

/-- The command completes with REFUSED_STATE. -/
def stateCmd (s : State) : Ran := (some (refusedState s), s)

/-- The command completes with REFUSED_RNG: the blocked consumer-4 instance is named (**R80**, **R244**). -/
def rngCmd (s : State) : Ran := (some { st := stRng, detail := (blockedInst s 4).getD 0 }, s)

/-- The number of the next free value, with the counter advanced by `k`. -/
def drawMany (k : Nat) (s : State) : Nat × State := (s.freeCtr, { s with freeCtr := s.freeCtr + k })

-- Queues (R67) ----------------------------------------------------------------------------------------------------------------------------

/-- The fields of QUEUE_CREATE that the loaded image governs: slice, PASID, bases, queue number. -/
def queueCreateBad (d : Desc) (s : State) : Check :=
  let t := tenant s d.slice.toNat
  let mapped := match s.img.cfg with | some c => c.pasids.lookup d.keyA.toNat == some d.slice.toNat | none => false
  let base := fun (a : Nat) => a != 0 && a % 4096 == 0
  malformed [(t.flags.getLsbD 0 && t.flags.getLsbD 1, 0x13, 10), (mapped, 0x08, 10), (base d.inAddr.toNat, 0x18, 10),
    (base d.outAddr.toNat, 0x28, 10), (d.p % 16 < t.queues, 0x3E, 10)]

/-- QUEUE_CREATE (**R66**, **R67**, **R463**). -/
def queueCreateRun (d : Desc) (s : State) : Ran :=
  let sl := d.slice.toNat
  if !s.pcie.pasidEnable || (queue? s sl (d.p % 16)).isSome then stateCmd s
  else okCmd (setQueue sl (d.p % 16)
    { depth := 2 ^ (tenant s sl).depthLog2, pasid := d.keyA.toNat, sqBase := d.inAddr.toNat, cqBase := d.outAddr.toNat } s)

/-- The queue is gone. -/
def dropQueue (sl q : Nat) (s : State) : State := { s with rqs := { s.rqs with queues := terase s.rqs.queues (16 * sl + q) } }

/-- QUEUE_DELETE (**R67**): no request fetched from the queue is outstanding. -/
def queueDeleteRun (d : Desc) (s : State) : Ran :=
  let sl := d.slice.toNat
  let n := d.p % 16
  match queue? s sl n with
  | none => stateCmd s
  | some q =>
    if !q.reads.isEmpty || s.rqs.live.any (fun r => r.slice == sl && r.origin == .host n) then stateCmd s
    else okCmd (trimOrder sl (dropQueue sl n s))

/-- Every queue of a slice removed. -/
def dropQueues (sl : Nat) (s : State) : State :=
  { s with rqs := { s.rqs with
      queues := s.rqs.queues.filter fun e => e.1 / 16 != sl
      order := s.rqs.order.filter (· != sl) } }

-- Reset (R312-R314) --------------------------------------------------------------------------------------------------------------------------

/-- A squash reaches the request: it has neither ended, nor committed a stored change, nor been forwarded (**R314**). -/
def squashable (r : Req) : Bool := !(r.phase == .forwarded || r.phase == .waitCommit || r.phase == .waitWrite)

/-- Requests of a slice ended as a squash ends them. -/
def squashSlice (sl : Nat) (p : Req → Bool) (s : State) : State :=
  endLive (fun r => r.slice == sl && squashable r && p r) stReset s

/-- SLICE_RESET (**R313**): intake stops, approvals of the slice go, in-flight work drains or is squashed. -/
def sliceResetRun (path : MPath) (d : Desc) (s : State) : Ran :=
  let sl := d.slice.toNat
  let x := slice s sl
  if !enabled s sl || !(x.state == .active || x.state == .frozen || x.state == .saved) then stateCmd s
  else
    let sq := nbit d.p 0
    let t := dropScopeApprovals sl (checkpoint (updSlice sl (fun y => { y with
      state := .resetting, squash := sq, drainFrom := s.mtime }) s))
    let u := if sq then squashSlice sl (fun _ => true) t else t
    (none, { u with mgt := { u.mgt with running := some (.sliceReset sl path) } })

/-- No descriptor read of the slice is outstanding. -/
def readsDone (s : State) (sl : Nat) : Bool :=
  (queueNumbers s sl).all fun n => match queue? s sl n with | some q => q.reads.isEmpty | none => true

/-- The slice's landing lines released (**R313** step 5, **R337**). -/
def releaseLanding (sl : Nat) (s : State) : State :=
  let lines := (s.mem.colours.filter fun e => e.1 < 1048576 && e.2 == sliceColour sl).map (·.1)
  { s with mem := lines.foldl (fun m l => releaseLines m l 1) s.mem }

/-- The running command, if it is this one, completes with OK. -/
def completes (p : Running → Bool) (s : State) : State :=
  match s.mgt.running with
  | some r => if p r then endRunning stOk 0 s else s
  | none => s

/-- The command that waits for a slice's reset. -/
def resets (sl : Nat) (r : Running) : Bool := match r with | .sliceReset n _ => n == sl | _ => false

/-- The command that waits for a slice's freeze. -/
def freezes (sl : Nat) (r : Running) : Bool := match r with | .sliceFreeze n _ => n == sl | _ => false

/-- SLICE_RESET_DONE's effect (**R312**, **R313** steps 4-5). -/
def sliceResetDone (sl : Nat) (s : State) : State :=
  if (slice s sl).state != .resetting then s
  else
    let t := if (slice s sl).squash then squashSlice sl (fun _ => true) s else s
    if !readsDone t sl || t.rqs.live.any (fun r => r.slice == sl) then t
    else
      let u := updSlice sl (fun x => { x with state := .active, resetDone := true, squash := false })
        (dropQueues sl (releaseLanding sl t))
      completes (resets sl) (raise 6 (checkpoint u))

-- Freeze (R312) -----------------------------------------------------------------------------------------------------------------------------------

/-- SLICE_FREEZE (**R312**): P0 [0] clear freezes an ACTIVE slice, set thaws a FROZEN one. -/
def sliceFreezeRun (path : MPath) (d : Desc) (s : State) : Ran :=
  let sl := d.slice.toNat
  let x := slice s sl
  if !enabled s sl then stateCmd s
  else if nbit d.p 0 then
    if x.state == .frozen then okCmd (checkpoint (updSlice sl (fun y => { y with state := .active, roster := [] }) s)) else stateCmd s
  else if x.state == .active then
    let t := checkpoint (updSlice sl (fun y => { y with state := .freezing, drainFrom := s.mtime }) s)
    (none, { t with mgt := { t.mgt with running := some (.sliceFreeze sl path) } })
  else stateCmd s

/-- Every RESPONSE on the slice's tenant sessions has been acknowledged (note to **R318**). -/
def responsesDone (s : State) (sl : Nat) : Bool :=
  (tenantSessions s sl).all fun i =>
    match session? s i with
    | some x => x.waiting.isEmpty && x.unacked.all (fun m => m.typ != 2)
    | none => true

/-- The endpoints of a slice's open sessions, the 64 most recently opened (**R317**). -/
def rosterOf (s : State) (sl : Nat) : List (Bytes × Nat) :=
  let l := s.fab.sessions.filterMap fun e =>
    if e.2.tenant && e.2.slice == sl then some (e.2.openedAt, e.2.fpr, e.2.serial) else none
  let newer := fun (x : Nat × Bytes × Nat) => (l.filter fun y => x.1 < y.1).length
  ((l.filter fun x => newer x < 64).take 64).map fun x => (x.2.1, x.2.2)

/-- SLICE_FREEZE_DONE's effect (**R312**): the tenant's work has drained; its sessions close and the slice is FROZEN. -/
def sliceFreezeDone (sl : Nat) (s : State) : State :=
  if (slice s sl).state != .freezing || !readsDone s sl || s.rqs.live.any (fun r => r.slice == sl && !r.viaPeer) ||
      !responsesDone s sl then s
  else
    let roster := rosterOf s sl
    let t := (tenantSessions s sl).foldl (fun u i => closeSession i (some 0) u) s
    let u := updSlice sl (fun x => { x with state := .frozen, resetDone := true, roster := roster }) t
    completes (freezes sl) (raise 6 (checkpoint u))

/-- The drain ceiling in force, ns (**R38**). -/
def drainNs (s : State) : Nat := 1000000 * (match s.img.cfg with | some c => c.drain | none => 1)

/-- DRAIN_CEILING_EXPIRY's effect (**R313**, **R436**): a slice's drain, or the drain of POWER_STATE READY. -/
def drainCeiling (sl : Option Nat) (s : State) : State :=
  match sl with
  | some n =>
    let x := slice s n
    if (x.state == .resetting || x.state == .freezing) && x.drainFrom + drainNs s ≤ s.mtime then
      squashSlice n (fun r => !r.isEnsign && !(x.state == .freezing && r.viaPeer)) s
    else s
  | none =>
    match s.rqs.readyDrain with
    | some t => if t + drainNs s ≤ s.mtime then endLive (fun r => !r.isEnsign && squashable r) stAborted s else s
    | none => s

-- Migration (R315-R318) ---------------------------------------------------------------------------------------------------------------------------

/-- The blob key of **R316** step 2. -/
def migrationKey (ssM ssX offer : Bytes) : Bytes :=
  hkdf (sha384 (offer.take 1248)) (ssM ++ ssX) (ascii "MORILATIK-MIG-1 key") 32

/-- Bytes 0-1,247 of an offer (**R315**). -/
def offerBody (sl node : Nat) (o : Offer) : Bytes :=
  ascii "MOFR" ++ leBytes 2 1 ++ [BitVec.ofNat 8 sl, 0] ++ leBytes 2 node ++ List.replicate 6 0 ++ leBytes 8 o.id ++ leBytes 8 o.expiry ++
  (pqPair "K" 2 o.keys).1 ++ xdh 4 (freeBytes (o.keys + 1) 32) (xBase 4)

/-- PREPARE (**R315**): a new offer of the slice, signed by the identity. -/
def restorePrepare (d : Desc) (s : State) : Ran :=
  let sl := d.slice.toNat
  if !enabled s sl || !s.kvt.identity then stateCmd s
  else
    match wardenCalls 1 s with
    | none => rngCmd s
    | some t =>
      let (n, u) := drawMany 4 t
      let o : Offer := { id := leNat (freeBytes (n + 2) 8), expiry := s.mtime + 600000000000, keys := n }
      let body := offerBody sl (selfNode s) o
      outCmd (body ++ identitySign s "MORILATIK-MIG-1" body (n + 3)) (updSlice sl (fun x => { x with offer := some o }) u)

/-- The offer's layout (**R315**), and its slice (**R316**). -/
def saveBad (d : Desc) (inp : Bytes) : Check :=
  malformed [(inp.take 4 == ascii "MOFR", 0, 10), (fld inp 4 2 == 1, 4, 10), (bytesAt inp 6 1 == [d.slice], 6, 10),
    (isZero inp 7 1, 7, 1), (isZero inp 10 6, 10, 1)]

/-- A queue record of the blob (**R317**). -/
def queueRecord (n : Nat) (q : Queue) : Bytes :=
  [BitVec.ofNat 8 n, BitVec.ofNat 8 (Nat.log2 q.depth), BitVec.ofNat 8 (b2n q.phase), 0] ++ leBytes 4 q.pasid ++ leBytes 8 q.sqBase ++
  leBytes 8 q.cqBase ++ leBytes 2 q.head ++ leBytes 2 q.tail ++ leBytes 2 q.cqTail ++ leBytes 2 q.cqHead

/-- The blob's payload (**R317**). -/
def blobPayload (s : State) (sl : Nat) (e : RingEntry) : Bytes :=
  let qs := queueNumbers s sl
  let roster := (slice s sl).roster
  [BitVec.ofNat 8 qs.length, BitVec.ofNat 8 roster.length, 0, 0, 0, 0, 0, 0] ++
  (qs.flatMap fun n => match queue? s sl n with | some q => queueRecord n q | none => []) ++
  (roster.flatMap fun r => fit 32 r.1 ++ leBytes 8 r.2) ++ e.bytes

/-- The interval that a SAVE closes, as its ring entry (**R316** step 3, **R322**). -/
def saveEntry (s : State) (sl : Nat) : RingEntry :=
  let x := slice s sl
  { x.meter with seqNo := nextRing x, reason := 3, moved := true, stop := s.mtime }

/-- SLICE_SAVE (**R316**, **R317**). -/
def sliceSaveRun (d : Desc) (env : LaunchEnv) (inp : Bytes) (s : State) : Ran :=
  let sl := d.slice.toNat
  let node := fld inp 8 2
  let p := peerOf s node
  if (slice s sl).state != .frozen || !(tenant s sl).flags.getLsbD 5 || p.state != 1 || p.session.isNone then stateCmd s
  else if !(env.sig.mldsa && env.sig.ecdsa) || fld inp 24 8 ≤ s.mtime then failCmd stVerify 0 s
  else
    match wardenCalls 1 s with
    | none => rngCmd s
    | some t =>
      let (n, u) := drawMany 3 t
      let (ct, ssM) := pqEncapsOf "K" 2 (bytesAt inp 32 1184) n
      let e := freeBytes (n + 1) 32
      let key := migrationKey ssM (xdh 4 e (bytesAt inp 1216 32)) inp
      let body := blobPayload s sl (saveEntry s sl)
      let head := ascii "SBLB" ++ leBytes 2 1 ++ [d.slice, 0] ++ leBytes 2 (selfNode s) ++ leBytes 2 node ++ leBytes 4 body.length ++
        bytesAt inp 16 8 ++ leBytes 8 s.mtime ++ List.replicate 16 0 ++ ct ++ xdh 4 e (xBase 4)
      let iv := freeBytes (n + 2) 12
      let c : Cipher := { aes := true, key := key }
      let enc := gcmText c iv body
      let v := updSlice sl (fun x => { (queueRing (saveEntry s sl) x) with meter := { start := s.mtime }, state := .saved, roster := [] }) u
      outCmd (head ++ iv ++ enc ++ gcmTag c iv head enc) (checkpoint (dropQueues sl v))

/-- The blob's layout (**R318**). -/
def restoreBad (d : Desc) (inp : Bytes) : Check :=
  if d.p % 16 = 1 then none
  else malformed [(inp.take 4 == ascii "SBLB", 0, 10), (fld inp 4 2 == 1, 4, 10), (isZero inp 7 1, 7, 1), (isZero inp 32 16, 32, 1),
    (328 ≤ fld inp 12 4 && fld inp 12 4 + 1196 == inp.length, 12, 10)]

/-- A queue of a queue record. -/
def queueOfRecord (b : Bytes) : Nat × Queue :=
  (fld b 0 1, { depth := 2 ^ fld b 1 1, phase := nbit (fld b 2 1) 0, pasid := fld b 4 4, sqBase := fld b 8 8, cqBase := fld b 16 8,
                head := fld b 24 2, issued := fld b 24 2, tail := fld b 26 2, cqTail := fld b 28 2, cqHead := fld b 30 2 })

/-- The blob's payload opened with the offer's keys; none where its tag fails. -/
def openBlob (s : State) (sl : Nat) (o : Offer) (inp : Bytes) : Option Bytes :=
  let ssM := pqDecapsOf "K" 2 (pqPair "K" 2 o.keys).2 (bytesAt inp 48 1088)
  let ssX := xdh 4 (freeBytes (o.keys + 1) 32) (bytesAt inp 1136 32)
  let c : Cipher := { aes := true, key := migrationKey ssM ssX (offerBody sl (selfNode s) o) }
  let iv := bytesAt inp 1168 12
  let ct := bytesAt inp 1180 (inp.length - 1196)
  if gcmTag c iv (inp.take 1168) ct == inp.drop (inp.length - 16) then some (gcmText c iv ct) else none

/-- The slice can take the queues of a blob (**R318**, third row). -/
def restorable (s : State) (sl : Nat) (qs : List (Nat × Queue)) : Bool :=
  let t := tenant s sl
  let mapped := fun (p : Nat) => match s.img.cfg with | some c => c.pasids.lookup p == some sl | none => false
  t.flags.getLsbD 0 && t.flags.getLsbD 1 && t.flags.getLsbD 5 && (slice s sl).state == .active && (queueNumbers s sl).isEmpty &&
  !(s.rqs.live.any fun r => r.slice == sl) && qs.length ≤ t.queues &&
  qs.all fun q => q.1 < t.queues && q.2.depth == 2 ^ t.depthLog2 && mapped q.2.pasid

/-- The restore of **R318**: queues, bucket, ring entry, reserved places, SLICE. -/
def applyBlob (sl source : Nat) (qs : List (Nat × Queue)) (roster : List (Bytes × Nat)) (e : RingEntry) (s : State) : State :=
  let t := qs.foldl (fun u q => setQueue sl q.1 q.2 u) s
  let u := fillBucket sl (updSlice sl (fun x => queueRing { e with reason := 4, moved := false, source := source }
    { x with offer := none, resetDone := true, reservedPlaces := roster.map fun r => (r.1, s.mtime + 60000000000) }) t)
  raise 6 (checkpoint (if qs.any (fun q => q.2.rung != 0) then { u with rqs := { u.rqs with order := u.rqs.order ++ [sl] } } else u))

/-- SLICE_RESTORE with P0 2 (**R318**). -/
def restoreRun (d : Desc) (inp : Bytes) (s : State) : Ran :=
  let sl := d.slice.toNat
  match (slice s sl).offer with
  | none => failCmd stVerify 0 s
  | some o =>
    if fld inp 10 2 ≠ selfNode s ∨ fld inp 16 8 ≠ o.id ∨ o.expiry ≤ s.mtime then failCmd stVerify 0 s
    else
      match openBlob s sl o inp with
      | none => failCmd stVerify 0 s
      | some b =>
        let q := fld b 0 1
        let r := fld b 1 1
        let qs := (List.range q).map fun i => queueOfRecord (bytesAt b (8 + 32 * i) 32)
        let roster := (List.range r).map fun i => (bytesAt b (8 + 32 * q + 40 * i) 32, fld b (8 + 32 * q + 40 * i + 32) 8)
        if b.length ≠ 328 + 32 * q + 40 * r ∨ 16 < q ∨ 64 < r then failCmd stMalformed (malDetail 12 10) s
        else if fld inp 6 1 ≠ sl ∨ !restorable s sl qs then stateCmd s
        else okCmd (applyBlob sl (fld inp 8 2) qs roster (ringOfBytes (bytesAt b (b.length - 320) 320)) s)

/-- SLICE_RESTORE (**R315**, **R318**). -/
def sliceRestoreRun (d : Desc) (inp : Bytes) (s : State) : Ran :=
  if d.p % 16 = 1 then restorePrepare d s else restoreRun d inp s

/-- OFFER_EXPIRY (**R315**). -/
def execOfferExpiry (sl : Nat) (s : State) : Res :=
  match (slice s sl).offer with
  | some o => if o.expiry ≤ s.mtime then .next (updSlice sl (fun x => { x with offer := none }) s) else .next s
  | none => .next s

/-- ROSTER_RESERVATION_EXPIRY (**R318** step 5): places whose 60 s have passed lapse. -/
def execRosterReservationExpiry (sl : Nat) (s : State) : Res :=
  .next (updSlice sl (fun x => { x with reservedPlaces := x.reservedPlaces.filter fun p => s.mtime < p.2 }) s)

end Sys2Proof.Machine
end

