-- ==== Sys2Proof/Machine/ImageCmd.lean ====
section
/-! DEFINITION. Image slots, the load at a start (**R55**, **R56**), the vault seed (**R355**, **R356**, **R371**, **R372**), and the
management commands IMAGE_STAGE and IMAGE_ACTIVATE (**R57**-**R61**). -/

namespace Sys2Proof.Machine

-- Slots (R30, R62) -------------------------------------------------------------------------------------------------------------------------

/-- A slot: A, or B where the flag is set. -/
def slotOf (s : State) (b : Bool) : Slot := if b then s.img.slotB else s.img.slotA

/-- A slot replaced. -/
def setSlot (b : Bool) (x : Slot) (s : State) : State :=
  if b then { s with img := { s.img with slotB := x } } else { s with img := { s.img with slotA := x } }

/-- The active slot of the records: valid, with the higher non-zero sequence number (**R30**). -/
def activeSlot (s : State) : Option Bool :=
  let a := s.img.slotA
  let b := s.img.slotB
  if a.bootable && (!b.bootable || b.seqNo ≤ a.seqNo) then some false
  else if b.bootable then some true else none

-- The vault seed (R354-R356, R372) ---------------------------------------------------------------------------------------------------------

/-- mI of the image that a slot holds (**R35**). -/
def slotImage (x : Slot) : Bytes := sha384 ((x.content.take (fld x.content 8 4)).take (fld x.content 8 4 - sigBlock))

/-- A seed wrapped into a slot record for the running firmware and the slot's image. -/
def wrapSlot (s : State) (v : Nat) (x : Slot) : Slot :=
  { x with seedFor := some (measureOf s.kvt.fw.mW s.kvt.fw.mU (slotImage x)), seed := v }

/-- Both slot records that hold an image rewritten with a seed (**R372**, **R373** step 5). -/
def wrapSlots (v : Nat) (s : State) : State :=
  let w := fun (x : Slot) => if x.crcOk then wrapSlot s v x else x
  { s with img := { s.img with slotA := w s.img.slotA, slotB := w s.img.slotB } }

/-- Some slot record or the re-seal record holds a seed (**R356**). -/
def seedHeld (s : State) : Bool := s.img.slotA.seedFor.isSome || s.img.slotB.seedFor.isSome || s.kvt.reseal.isSome

/-- UNSEAL_FAIL set, logged and raised (**R355**). -/
def unsealFailed (b : Bool) (s : State) : State :=
  raise 13 (logEvent 0x902 [BitVec.ofNat 8 (b2n b)] { s with kvt := { s.kvt with vs := none, unsealFail := true } })

/-- A vault seed in force. -/
def seedKnown (v : Nat) (s : State) : State := { s with kvt := { s.kvt with vs := some v, unsealFail := false } }

/-- The first seed of a new module (**R356**), drawn by a consumer-4 call and written into the record of slot `b`; none
where no call can be made. -/
def firstSeed (b : Bool) (s : State) : Option State :=
  match wardenCalls 1 s with
  | none => none
  | some t =>
    let (v, u) := draw t
    let w := setSlot b (wrapSlot u v (slotOf u b)) (seedKnown v u)
    some { w with kvt := { w.kvt with store := [], storeDomains := [], storePending := [], storeFor := v } }

/-- The seed at a start, once the image of slot `b` is applied: from the slot record, else from the re-seal record of a
firmware change, which then rewrites both slot records, else the first seed, else UNSEAL_FAIL. -/
def unsealStart (b : Bool) (s : State) : State :=
  let x := slotOf s b
  let m := measureNow s
  if x.seedFor = some m then seedKnown x.seed s
  else
    match s.kvt.reseal with
    | some (k, v) =>
      if k = m then
        let t := wrapSlots v (seedKnown v s)
        { t with kvt := { t.kvt with reseal := none } }
      else unsealFailed b s
    | none =>
      if seedHeld s || s.img.vaultCtr.isSome || s.tmp.erased then unsealFailed b s
      else (firstSeed b s).getD s

-- Rollback (R53, R54) ------------------------------------------------------------------------------------------------------------------------

/-- The vault counter record raised, and the rollback fuses burned where COMMIT_OTP asks for it and the capacitor holds
the energy; otherwise the burn waits for the next load. -/
def raiseFloor (c : ImageCfg) (s : State) : State :=
  let f := rollFloor s
  let up := f.1 < c.level || (f.1 == c.level && f.2 ≤ c.minor)
  let t := { s with img := { s.img with vaultCtr := some (if up then (c.level, c.minor) else f) } }
  let otp := otpLevel t
  if !c.commitOtp || c.level ≤ otp then t
  else
    let n := c.level - otp
    if t.pwr.cap < burnEnergy n then logEvent 0x103 (leBytes 4 c.level) t
    else stageWrite 1 t.wdn.pennant t fun u =>
      { u with lcs := { u.lcs with fuse := fuseBlow u.lcs.fuse (896 + otp) (2 ^ n - 1) } }

-- Applying the sections (R29, R55 step 5, R59 step 6) ------------------------------------------------------------------------------------

/-- The node ID by its sources 1 and 2 (**R291**); an ID assigned at discovery stays. -/
def nodeSources (c : ImageCfg) (s : State) : State :=
  let cert := match s.fab.cert with | some k => k.node | none => 0xFFFF
  if c.fabric.node ≠ 0xFFFF then { s with fab := { s.fab with nodeId := some c.fabric.node, nodeSource := 1 } }
  else if cert ≠ 0xFFFF then { s with fab := { s.fab with nodeId := some cert, nodeSource := 2 } }
  else if s.fab.nodeSource = 3 then s
  else { s with fab := { s.fab with nodeId := none, nodeSource := 0 } }

/-- The gauge of a profile's first cell (**R454**): Q_est rated, counter and cycles zero. -/
def freshGauge (p : Profile) (w : Pwr) : Pwr :=
  { w with qest := p.rated * 3600000, remain := 0, cycles := 0, cycleAcc := 0, sinceDone := 0, absent := false }

/-- The reserve profile applied (**R456**); the first one starts the gauge. -/
def applyProfile (p : Profile) (s : State) : State :=
  { s with pwr := { (if s.pwr.profile.isNone then freshGauge p s.pwr else s.pwr) with profile := some p } }

/-- A slice under a new image (**R59** step 6, **R60**): ACTIVE with a full bucket, its meters kept where it stays enabled;
or DISABLED. -/
def sliceUnder (s : State) (c : ImageCfg) (n : Nat) : Slice :=
  let t := tgetD c.tenants n {}
  let x := slice s n
  if !t.flags.getLsbD 0 then {}
  else if enabled s n then
    { x with state := .active, squash := false, level := t.depth * 65536, rem := 0, offer := none, roster := [], reservedPlaces := [] }
  else { state := .active, level := t.depth * 65536, meter := { start := s.mtime } }

/-- Every slice reset under a new image: requests squashed, queues removed, approvals of slices discarded. -/
def resetSlices (c : ImageCfg) (s : State) : State :=
  let t := endLive squashable stReset s
  let gone := fun (r : Req) => (match r.origin with | .host _ => true | _ => false) && r.phase == .waitWrite
  { t with
    rqs := { t.rqs with queues := [], order := [], live := t.rqs.live.filter fun r => !gone r }
    slices := ((List.range 256).map fun n => (n, sliceUnder t c n)).filter fun e => e.2 != {}
    cust := { t.cust with approvals := t.cust.approvals.filter fun a => leNat (bytesAt a.statement 2 2) == 0xFFFF } }

/-- The sections of an image in force: policies, profile, SMBus address, node ID, memory plan, engine partition. -/
def applySections (c : ImageCfg) (s : State) : State :=
  let t1 := applyPolicy c (applyProfile c.profile { s with img := { s.img with cfg := some c } })
  let t2 := nodeSources c { t1 with
    mgt := { t1.mgt with smbPort := c.smbAddr }
    tmp := { t1.tmp with response := c.response, loopEn := c.loopEn, loopWin := (List.range 4).zip c.loopWin }
    mem := { t1.mem with mpuPlan := some c.plan } }
  applyThrottle t2

-- The load at a start (R51, R52, R55) -----------------------------------------------------------------------------------------------------

/-- A rejection recorded and logged (**R63**, **R428**). -/
def rejectSlot (r : Reject) (b : Bool) (s : State) : State :=
  logEvent 0x101 ([BitVec.ofNat 8 r.code, BitVec.ofNat 8 r.sec] ++ leBytes 2 r.off ++ [BitVec.ofNat 8 (b2n b)]) (setReject r s)

/-- Steps 2-4 of **R55**: the slot and image that load, if any; a fallback's record takes a higher sequence number. -/
def chooseImage (e : StartEnv) (s : State) : Option (Bool × ImageCfg) × State :=
  if !loadsImages s then (none, s)
  else
    let env := fun (b : Bool) => if b then e.slotB else e.slotA
    let b := (activeSlot s).getD false
    let t := { s with img := { s.img with slotActive := b } }
    match (if (activeSlot s).isNone then .inl ⟨1, 0, 0⟩ else checkImage (acceptCtx s) (env b) (slotOf s b)) with
    | .inr c => (some (b, c), t)
    | .inl r =>
      let u := rejectSlot r b t
      let o := slotOf s (!b)
      if !o.bootable then (none, u)
      else
        match checkImage (acceptCtx s) (env (!b)) o with
        | .inl q => (none, rejectSlot q (!b) u)
        | .inr c =>
          (some (!b, c), setSlot (!b) { o with seqNo := (slotOf s b).seqNo + 1 }
            { u with img := { u.img with slotActive := !b, fallback := true } })

/-- Steps 2-5 of **R55**: the image loaded and applied with its seed and rollback floor, or the fixed defaults of **R56**. -/
def loadImage (e : StartEnv) (s : State) : State :=
  match chooseImage e s with
  | (none, t) => t
  | (some (b, c), t) =>
    let u := applySections c t
    let v := { u with slices := c.tenants.map fun n =>
      (n.1, ({ state := .active, level := n.2.depth * 65536, meter := { start := u.mtime } } : Slice)) }
    raiseFloor c (unsealStart b v)

-- IMAGE_STAGE (R57, R58) ---------------------------------------------------------------------------------------------------------------------

/-- A chunk out of order, of another total, or that ends wrongly (**R58**). -/
def stageBad (d : Desc) (s : State) : Check :=
  let off := d.keyA.toNat
  let total := d.keyB.toNat
  let stop := off + d.inLen.toNat
  let last := nbit d.p 0
  let (next, want) := match s.img.staging with | some g => (some g.next, some g.total) | none => (none, none)
  malformed [(off == 0 || (off % 8 == 0 && next == some off), 0x08, 10),
    (imageMin ≤ total && total ≤ imageMax && (off == 0 || want == some total) && !(last && total < stop), 0x0C, 10),
    (last == (total ≤ stop : Bool), 0x3E, 10)]

/-- IMG_REJECT's code for an image command refused before any check of the image (**R51**): activation outside READY, a
life-cycle state that loads no image, nothing staged. -/
def imageRefused (d : Desc) (s : State) : Option Nat :=
  if d.code = 0x6003 ∧ s.pwr.state ≠ .ready then some 0x11
  else if !loadsImages s then some 0x09
  else if d.code = 0x6003 ∧ !s.img.staged then some 0x01
  else none

/-- IMAGE_STAGE (**R58**): one chunk programmed and read back; the last one writes the record of a staged image. -/
def imageStageRun (d : Desc) (env : LaunchEnv) (inp : Bytes) (s : State) : Ran :=
  let b := !s.img.slotActive
  let off := d.keyA.toNat
  let total := d.keyB.toNat
  let x := slotOf s b
  let y : Slot := if off = 0 then {} else x
  let t := if off = 0 then { s with img := { s.img with staged := false } } else s
  if !env.readBack then
    failCmd stDevice (lastSeq t) (setSlot b { y with crcOk := false } { t with img := { t.img with staging := none } })
  else
    let u := setSlot b { y with content := y.content ++ inp } t
    if nbit d.p 0 then
      okCmd (raise 1 (setSlot b { (slotOf u b) with seqNo := 0, len := total, crcOk := true, seedFor := none }
        { u with img := { u.img with staging := none, staged := true } }))
    else okCmd { u with img := { u.img with staging := some { next := off + inp.length, total := total } } }

-- IMAGE_ACTIVATE (R59-R61) --------------------------------------------------------------------------------------------------------------------

/-- The main logbook emptied, beginning again with LOG_CLEARED (**R425**, **R427**). -/
def clearMain (s : State) : State :=
  let l := logFlush s.wdn.activeB s.log
  let first := match l.main.getLast? with | some r => r.seqNo | none => l.next
  let payload := leBytes 4 first ++ leBytes 4 ((l.next + 2 ^ 24 - 1) % 2 ^ 24) ++ leBytes 4 l.dropped
  let e : LogEvent := { typ := 0xD02, time := s.mtime, payload := payload }
  let m : Log := { l with main := [], used := 0, full := false, dropped := 0 }
  { s with log := logWrite s.wdn.activeB false e 1 s.mtime m }

/-- The lines of a new plan's region cleared to colour 0x3FF. -/
def clearLines (r : Nat × Nat) (s : State) : State :=
  { s with mem := releaseLines s.mem (vaultLine0 + r.1 * 16384) (r.2 * 16384) }

/-- A changed key-record region (**R60**, **R302**): each LOCAL domain with a standby is handed over without a final delta; the
records are lost. -/
def loseRecords (s : State) : State :=
  let t := (s.lku.domains.filter fun e => e.2.state == 1 && e.2.sby).foldl (fun u e =>
    match sessionTo u e.2.standby with
    | some i => sendResync i e.1 4 (tgetD u.fab.own e.1 {}).seqNo u
    | none => u) s
  { t with kvt := { t.kvt with records := [], cache := [] } }

/-- The contents of a changed region lost (**R59** step 6, **R60**, **R268**). -/
def loseRegion (typ : Nat) (s : State) : State :=
  match typ with
  | 1 => stashLevel { s with lku := { s.lku with em := [], stash := [], badBuckets := [] } }
  | 2 => loseRecords s
  | 3 =>
    let lose := fun (k : KeyRec) => (if k.largeLines = 0 then k else { k with tagOk := false } : KeyRec)
    { s with kvt := { s.kvt with records := s.kvt.records.map fun e => (e.1, lose e.2) } }
  | 4 => { s with fab := { s.fab with sby := s.fab.sby.map fun e => (e.1, ({} : SbySnap)) } }
  | 5 => clearMain { s with log := { s.log with size := (region s 5).2 * 1048576 } }
  | _ => s

/-- Step 6's clearing: the regions whose base or size differ from the plan that was in force. -/
def clearRegions (old : List (Nat × Nat)) (s : State) : State :=
  [1, 2, 3, 4, 5, 6].foldl (fun t typ =>
    let r := region t typ
    if r = old.getD (typ - 1) (0, 0) then t else loseRegion typ (clearLines r t)) s

/-- Tenant sessions of slices that the new image disables or strips of the network path closed (**R287**). -/
def closeTenants (s : State) : State :=
  (s.fab.sessions.filter fun e => e.2.tenant && !((tenant s e.2.slice).flags.getLsbD 0 && (tenant s e.2.slice).flags.getLsbD 2)).foldl
    (fun t e => closeSession e.1 (some 0) t) s

/-- Step 3 of **R59**: the seed re-sealed into the staged record, or the first seed, or UNSEAL_FAIL; none where a first seed
cannot be drawn. -/
def resealStaged (b : Bool) (s : State) : Option State :=
  match s.kvt.vs with
  | some v => some (setSlot b (wrapSlot s v (slotOf s b)) s)
  | none =>
    if seedHeld s || s.img.vaultCtr.isSome || s.tmp.erased then
      some (if s.kvt.unsealFail then s else unsealFailed b s)
    else firstSeed b s

/-- Steps 4-7 of **R59**: the commit, and the new image applied. -/
def commitImage (b : Bool) (c : ImageCfg) (s : State) : State :=
  let old := planOf s
  let was := match activeSlot s with | some a => (slotOf s a).seqNo | none => 0
  let t1 := setSlot b { (slotOf s b) with seqNo := was + 1 } s
  let t2 := raiseFloor c { t1 with img := { t1.img with slotActive := b, staged := false } }
  let t3 := clearRegions old (applySections c (resetSlices c t2))
  let t4 := logEvent 0x102 (leBytes 4 c.level ++ leBytes 4 c.minor) (closeTenants t3)
  raise 1 (refreshHold (checkpoint t4))

/-- IMAGE_ACTIVATE (**R59**, **R61**). -/
def imageActivateRun (env : LaunchEnv) (s : State) : Ran :=
  let b := !s.img.slotActive
  match checkImage (acceptCtx s) { flashOk := env.flashOk, sig := env.sig } (slotOf s b) with
  | .inl r =>
    let t := rejectSlot r b s
    (some { st := stVerify, detail := rejectWord t }, t)
  | .inr c =>
    match resealStaged b (latchAll 5 s) with
    | none => rngCmd s
    | some t => okCmd (commitImage b c t)

end Sys2Proof.Machine
end

