-- ==== Sys2Proof/Machine/Vault.lean ====
section
/-! DEFINITION. The management commands of owner, identity, vault seed and membership: OWNER_ENROL (**R365**, **R366**),
IDENTITY_ATTEST (**R369**), VAULT_RESEAL (**R371**, **R372**), VAULT_REKEY (**R373**, **R374**), MEMBERSHIP_INSTALL (**R304**) and
DOMAIN_CREATE (**R296**, **R302**). -/

namespace Sys2Proof.Machine

/-- Both signatures of a signature block verify (**R34**). -/
def signed (v : Verdict) : Bool := v.mldsa && v.ecdsa

/-- An identity binding that names this module, or any module of the owner. -/
def boundHere (s : State) (b : Bytes) : Bool := leNat b == 0 || b == s.kvt.idFpr

-- Owner and roster (R365, R366) -------------------------------------------------------------------------------------------------------------

/-- Entries of a roster. -/
def rosterCount (inp : Bytes) : Nat := fld inp 6 2

/-- One roster entry of 72 bytes. -/
def custodianOf (b : Bytes) : Custodian := { id := fld b 0 2, roles := BitVec.ofNat 8 (fld b 2 1) }

/-- The layout of OWNER_ENROL's input. -/
def enrolBad (d : Desc) (inp : Bytes) : Check :=
  if d.p % 16 = 1 then none
  else malformed ([(inp.take 4 == ascii "CRST", 0, 10), (fld inp 4 2 == 1, 4, 10),
    (1 ≤ rosterCount inp && rosterCount inp ≤ 32 && inp.length == 48 + 72 * rosterCount inp + sigBlock, 6, 10)] ++
    (List.range (min 32 (rosterCount inp))).flatMap fun i =>
      [(fld inp (50 + 72 * i) 1 / 4 == 0, 50 + 72 * i, 1), (isZero inp (51 + 72 * i) 4, 51 + 72 * i, 1)])

/-- ENROL (**R365**): the owner root, whose fingerprint is SHA-256 of its two public keys (**R32**). -/
def enrolRun (env : LaunchEnv) (inp : Bytes) (s : State) : Ran :=
  if s.lcs.state != .integrator || s.kvt.ownerFpr.isSome then stateCmd s
  else if !signed env.sig then failCmd stVerify 0 s
  else okCmd { s with kvt := { s.kvt with ownerFpr := some (sha256 (inp.take 2689)) } }

/-- ROSTER (**R365**, **R366**): installed, discarding every held approval. -/
def rosterRun (env : LaunchEnv) (inp : Bytes) (s : State) : Ran :=
  if s.kvt.ownerFpr.isNone || !(s.lcs.state == .integrator || s.lcs.state == .fielded) then stateCmd s
  else if !signed env.sig || !boundHere s (bytesAt inp 16 32) || fld inp 8 8 ≤ s.kvt.rosterSerial then failCmd stVerify 0 s
  else okCmd (dropApprovals { s with kvt := { s.kvt with
    roster := (List.range (rosterCount inp)).map fun i => custodianOf (bytesAt inp (48 + 72 * i) 72), rosterSerial := fld inp 8 8 } })

/-- OWNER_ENROL (**R365**). -/
def ownerEnrolRun (d : Desc) (env : LaunchEnv) (inp : Bytes) (s : State) : Ran :=
  if d.p % 16 = 1 then enrolRun env inp s else rosterRun env inp s

-- Attestation (R369) --------------------------------------------------------------------------------------------------------------------------

/-- Bytes 0-2,296 of the identity statement. -/
def identityStatement (s : State) (nonce : Bytes) : Bytes :=
  let (lv, mn) := match s.img.cfg with | some c => (c.level, c.minor) | none => (0, 0)
  ascii "IDST" ++ leBytes 2 1 ++
  [BitVec.ofNat 8 s.lcs.state.code, BitVec.ofNat 8 (b2n s.img.cfg.isSome + 2 * b2n s.kvt.ownerFpr.isSome + 4 * b2n s.tmp.locked)] ++
  fit 32 nonce ++ fit 32 s.kvt.idFpr ++ fit 32 (s.kvt.ownerFpr.getD []) ++ fit 48 s.kvt.fw.mW ++ fit 48 s.kvt.fw.mU ++
  fit 48 (imageMeasure s) ++ leBytes 4 lv ++ leBytes 4 mn ++ leBytes 4 s.kvt.fw.version ++ leBytes 8 s.mtime ++
  leBytes 8 (clusterId s).toNat ++ leBytes 2 (selfNode s) ++ [0, 0] ++ layerPubOf s

/-- IDENTITY_ATTEST (**R369**); a module without an identity, or that signs nothing (**R390**), refuses it. -/
def identityAttestRun (inp : Bytes) (s : State) : Ran :=
  if !s.kvt.identity || s.kvt.signsNothing then stateCmd s
  else
    match wardenCalls 1 s with
    | none => rngCmd s
    | some t =>
      let (n, u) := draw t
      let b := identityStatement u inp
      outCmd (b ++ identitySign u "MORILATIK-IDST-1" b n) u

-- Re-seal (R371, R372) ------------------------------------------------------------------------------------------------------------------------

/-- The layout of VAULT_RESEAL's input. -/
def resealBad (d : Desc) (inp : Bytes) : Check :=
  if d.p % 16 = 1 then malformed [(fld inp 0 4 + (inp.length - 4) ≤ 8388608, 0, 10)]
  else malformed [(inp.take 4 == ascii "RSAL", 0, 10), (fld inp 4 2 == 1, 4, 10), (isZero inp 6 2, 6, 1), (isZero inp 140 4, 140, 1)]

/-- STAGE: a chunk written at its offset; offset 0 erases the slot. -/
def resealStage (inp : Bytes) (s : State) : Ran :=
  let off := fld inp 0 4
  let old := if off = 0 then [] else s.kvt.fwBytes
  let chunk := inp.drop 4
  okCmd { s with kvt := { s.kvt with fwBytes := fit off old ++ chunk ++ old.drop (off + chunk.length) } }

/-- COMMIT: the staged bundle and the authorisation that names it; VS wrapped into the re-seal record for the new firmware
with the loaded image, and the firmware slot activated for the next start. -/
def resealCommit (env : LaunchEnv) (inp : Bytes) (s : State) : Ran :=
  let (ver, mW, mU) := Config.bundleOf s.kvt.fwBytes
  if s.kvt.fwBytes.isEmpty || !signed env.bundle || !signed env.sig || !boundHere s (bytesAt inp 8 32) ||
      bytesAt inp 40 48 != fit 48 mW || bytesAt inp 88 48 != fit 48 mU then failCmd stVerify 0 s
  else if ver < s.kvt.fw.version then stateCmd s
  else
    let f : Firmware := { version := ver, mW := fit 48 mW, mU := fit 48 mU }
    okCmd { s with kvt := { s.kvt with
      fwNext := some f
      reseal := match s.kvt.vs with
        | some v => some (measureOf f.mW f.mU (imageMeasure s), v)
        | none => s.kvt.reseal } }

/-- A new vault seed sealed for the running firmware: into the record of the loaded image's slot, or, with no image loaded,
into the re-seal record.  The key store and any re-key journal are erased and the vault regions formatted, since nothing in
them deciphers under the new seed (**R371**, **R409**). -/
def newSeed (v : Nat) (s : State) : State :=
  let b := s.img.slotActive
  let t := formatVault (seedKnown v s)
  let u := if t.img.cfg.isSome then setSlot b (wrapSlot t v (slotOf t b)) t else t
  { u with
    kvt := { u.kvt with
      reseal := if u.img.cfg.isSome then none else some (measureNow u, v)
      rekey := none, rekeyLine := 0, store := [], storePending := [], storeDomains := [], storeBad := [], storeFor := v } }

/-- The completion of VAULT_REKEY; after a start only the MGT_COMMAND record tells it (**R502**). -/
def rekeyDone (r : Rekey) (st : Nat) (s : State) : State :=
  match r.path with
  | some p =>
    let t := mgtDone 0x6013 p st 0 0 s
    { t with mgt := { t.mgt with running := s.mgt.running } }
  | none => logEvent 0x003 (leBytes 2 0x6013 ++ leBytes 2 st ++ [0]) s

/-- A re-key that ends without its last step. -/
def endRekey (st : Nat) (s : State) : State :=
  match s.kvt.rekey with
  | some r => rekeyDone r st { s with kvt := { s.kvt with rekey := none, rekeyLine := 0 } }
  | none => s

/-- ABANDON: an authorisation that names the running firmware; a new VS. -/
def resealAbandon (env : LaunchEnv) (inp : Bytes) (s : State) : Ran :=
  if !signed env.sig || !boundHere s (bytesAt inp 8 32) || bytesAt inp 40 48 != fit 48 s.kvt.fw.mW ||
      bytesAt inp 88 48 != fit 48 s.kvt.fw.mU then failCmd stVerify 0 s
  else
    match wardenCalls 1 s with
    | none => rngCmd s
    | some t =>
      let (v, u) := draw t
      okCmd (refreshHold (newSeed v (endRekey stAborted u)))

/-- VAULT_RESEAL (**R371**). -/
def vaultResealRun (d : Desc) (env : LaunchEnv) (inp : Bytes) (s : State) : Ran :=
  match d.p % 16 with
  | 1 => resealStage inp s
  | 2 => resealCommit env inp s
  | _ => resealAbandon env inp s

-- Re-key (R373, R374) --------------------------------------------------------------------------------------------------------------------------

/-- VAULT_REKEY (**R373**): the journal written; it completes with the last range.  No seed to replace, or a re-key that runs,
refuses it. -/
def vaultRekeyRun (path : MPath) (s : State) : Ran :=
  if s.kvt.vs.isNone || s.kvt.rekey.isSome then stateCmd s
  else
    match wardenCalls 1 s with
    | none => rngCmd s
    | some t =>
      let (v, u) := draw t
      (none, checkpoint { u with kvt := { u.kvt with
        rekey := some { seed := v, sealedFor := measureNow u, line := 0, path := some path }, rekeyLine := 0 } })

/-- Steps 4 and 5: key sets and slot records under the new seed, the journal cleared. -/
def finishRekey (v : Nat) (s : State) : State :=
  let t := wrapSlots v (seedKnown v s)
  { t with kvt := { t.kvt with rekey := none, rekeyLine := 0, storeFor := v } }

/-- REKEY_RANGE_DONE (**R373**, **R410**): one more range of 262,144 lines; a LOCK pauses the re-key. -/
def rekeyRangeDone (s : State) : State :=
  match s.kvt.rekey with
  | none => s
  | some r =>
    if s.tmp.locked || !(s.pwr.state == .ready || s.pwr.state == .run) then s
    else
      let line := (r.line / 262144 + 1) * 262144
      if line < 2 ^ 29 then { s with kvt := { s.kvt with rekey := some { r with line := line }, rekeyLine := line } }
      else rekeyDone r stOk (finishRekey r.seed s)

-- Membership (R281, R304) ------------------------------------------------------------------------------------------------------------------------

/-- A certificate's fields of its 6,832 bytes. -/
def certOfBytes (b : Bytes) : Cert where
  formatOk := b.take 4 == ascii "MBRC" && fld b 4 2 == 1 && isZero b 19 5 && isZero b 2097 7
  role := fld b 6 1
  flags := BitVec.ofNat 8 (fld b 7 1)
  cluster := BitVec.ofNat 64 (fld b 8 8)
  node := fld b 16 2
  slice := fld b 18 1
  serial := BitVec.ofNat 64 (fld b 24 8)
  notBefore := fld b 32 8
  notAfter := fld b 40 8
  ownerFpr := bytesAt b 48 32
  fpr := sha256 (bytesAt b 80 2017)

/-- The layout of MEMBERSHIP_INSTALL's input: a node's certificate, then seeds (**R281**, **R304**). -/
def membershipBad (inp : Bytes) (s : State) : Check :=
  let node := fld inp 16 2
  let fixed := (fabCfg s).node
  let n := fld inp 6832 1
  malformed [(inp.take 4 == ascii "MBRC", 0, 10), (fld inp 4 2 == 1, 4, 10), (fld inp 6 1 == 1, 6, 10), (fld inp 7 1 / 4 == 0, 7, 1),
    ((node ≤ 16383 || node == 0xFFFF) && (fixed == 0xFFFF || node == fixed), 16, 10), (isZero inp 18 1, 18, 10), (isZero inp 19 5, 19, 1),
    (fld inp 32 8 < fld inp 40 8, 40, 10), (isZero inp 2097 7, 2097, 1), (n ≤ 16 && inp.length == 6840 + 16 * n, 6832, 10),
    (isZero inp 6833 7, 6833, 1)]

/-- MEMBERSHIP_INSTALL (**R304**): the certificate and seeds written, and every open session rekeyed. -/
def membershipRun (env : LaunchEnv) (inp : Bytes) (s : State) : Ran :=
  let c := certOfBytes (inp.take 6832)
  if !signed env.sig || some c.ownerFpr != s.kvt.ownerFpr || c.fpr != s.kvt.idFpr then failCmd stVerify 0 s
  else if c.cluster = 0 ∨ c.cluster ≠ clusterId s then stateCmd s
  else if (match s.fab.cert with | some o => decide (c.serial < o.serial) | none => false) then stateCmd s
  else
    let t := { s with fab := { s.fab with
      cert := some c, seedAddrs := (List.range (fld inp 6832 1)).map fun i => bytesAt inp (6840 + 16 * i) 16 } }
    let u := match t.img.cfg with | some i => nodeSources i t | none => t
    okCmd ((u.fab.sessions.map fun e => e.2.fpr).foldl (fun v f => startHello f v) u)

-- Domains (R296, R302) -------------------------------------------------------------------------------------------------------------------------------

/-- A standby's node ID as a grant or command writes it. -/
def nodeOk (n : Nat) : Bool := n ≤ 16383 || n == 0xFFFF

/-- The layout of DOMAIN_CREATE's input. -/
def domainBad (d : Desc) (inp : Bytes) : Check :=
  match d.p % 16 with
  | 1 => malformed [(inp.take 4 == ascii "DGRT", 0, 10), (fld inp 4 2 == 1, 4, 10), (isZero inp 6 2, 6, 1), (fld inp 16 2 != 0, 16, 10),
      (nodeOk (fld inp 18 2), 18, 10), (1 ≤ fld inp 20 4 && fld inp 20 4 ≤ 0xFFFFFFFE, 20, 10), (isZero inp 56 8, 56, 1)]
  | 2 => malformed [(nodeOk (fld inp 0 2), 0, 10)]
  | _ => none

/-- The module can own domains now (**R296**, third row). -/
def ownsDomains (s : State) : Bool := !standalone s && s.fab.cert.isSome && mayOwn s

/-- CREATE: the grant checked, the domain key set drawn, the domain claimed. -/
def domainCreateRun (env : LaunchEnv) (inp : Bytes) (s : State) : Ran :=
  let n := fld inp 16 2
  let e := domainOf s n
  if !signed env.sig || s.kvt.ownerFpr.isNone || BitVec.ofNat 64 (fld inp 8 8) != clusterId s || bytesAt inp 24 32 != s.kvt.idFpr then
    failCmd stVerify 0 s
  else if !ownsDomains s || fld inp 20 4 ≤ e.pennant then stateCmd s
  else if e.state = 1 then okCmd (ownClaim n 1 (fld inp 20 4) (fld inp 18 2) s)
  else
    match wardenCalls 1 s with
    | none => rngCmd s
    | some t =>
      let (k, u) := draw t
      let v := { u with
        kvt := { u.kvt with dks := tset u.kvt.dks n k }
        fab := { u.fab with own := tset u.fab.own n {}, sby := terase u.fab.sby n } }
      okCmd (persistDomain n (ownClaim n 1 (fld inp 20 4) (fld inp 18 2) v))

/-- SET_STANDBY: a claim with the pennant + 1; a pennant at its end admits none (**R297**). -/
def setStandbyRun (d : Desc) (inp : Bytes) (s : State) : Ran :=
  let n := d.domain.toNat
  let e := domainOf s n
  let k := fld inp 0 2
  let p := peerOf s k
  if !ownsDomains s || e.state != 1 || e.pennant == 0xFFFFFFFF || (k != 0xFFFF && !(p.state == 1 && p.mayStandby)) then stateCmd s
  else okCmd (ownClaim n 4 (e.pennant + 1) k s)

/-- HANDOVER: the final delta, and the wait for STORED and the claim (**R302**). -/
def handoverRun (path : MPath) (d : Desc) (s : State) : Ran :=
  let n := d.domain.toNat
  let e := domainOf s n
  if !ownsDomains s || e.state != 1 || e.pennant == 0xFFFFFFFF || !e.sby || (tgetD s.fab.own n {}).stored == 0 then stateCmd s
  else
    let t := { s with fab := { s.fab with own := tupd s.fab.own n {} fun o => { o with handover := true, asked := false } } }
    let u := askClaim n (sendDelta n t)
    (none, { u with mgt := { u.mgt with running := some (.handover n path) } })

/-- DOMAIN_CREATE (**R296**). -/
def domainRun (path : MPath) (d : Desc) (env : LaunchEnv) (inp : Bytes) (s : State) : Ran :=
  match d.p % 16 with
  | 1 => domainCreateRun env inp s
  | 2 => setStandbyRun d inp s
  | _ => handoverRun path d s

end Sys2Proof.Machine
end

