-- ==== Sys2Proof/Machine/Custodian.lean ====
section
/-! DEFINITION. The management commands of custodians and dual control: CUSTODIAN_SESSION (**R147**, **R367**, **R368**), LOG_CLEAR
(**R427**), UNLOCK (**R408**, **R409**), and ENGINE_ABORT (**R195**). -/

namespace Sys2Proof.Machine

-- CUSTODIAN_SESSION (R147, R367, R368) ---------------------------------------------------------------------------------------------------------

/-- The port that P0 [4] selects. -/
def portNo (d : Desc) : Nat := d.p / 16 % 2

/-- The roster entry of a custodian ID. -/
def rosterEntry (s : State) (id : Nat) : Option Custodian := s.kvt.roster.find? fun c => c.id == id

/-- OPEN: the card is activated, INFO and AUTHENTICATE run; nonce and ephemeral key are one consumer-4 call. -/
def custOpen (d : Desc) (card : CardReply) (s : State) : Ran :=
  let p := portNo d
  let c := cardPort s p
  if !c.present || c.custodian.isSome then stateCmd s
  else
    match wardenCalls 1 s with
    | none => rngCmd s
    | some t =>
      let (n, u) := draw t
      let id := card.custodian.toNat
      if card.removed then failCmd stVerify 0 (updPort p (fun x => { closeCard x with present := false, active := false }) u)
      else
        match rosterEntry u id with
        | some r =>
          if card.answers && card.sigOk && card.verified == 1 then
            outCmd (leBytes 2 id ++ [r.roles])
              (updPort p (fun x => { x with active := true, custodian := some id, roles := r.roles, openedAt := u.mtime, key := n }) u)
          else failCmd stVerify 0 (updPort p (fun x => { x with active := card.answers }) u)
        | none => failCmd stVerify 0 (updPort p (fun x => { x with active := card.answers }) u)

/-- The layout of APPROVE's input: the window and the flags. -/
def custBad (d : Desc) (inp : Bytes) : Check :=
  if d.p % 16 = 2 then malformed [(10 ≤ fld inp 64 2 && fld inp 64 2 ≤ 900, 64, 10), (fld inp 66 2 / 2 == 0, 66, 1)] else none

/-- The approvals with one more, which replaces one of the same statement and custodian. -/
def addApproval (a : Approval) (l : List Approval) : List Approval :=
  (l.filter fun x => !(x.statement == a.statement && x.custodian == a.custodian && !x.reserved)) ++ [a]

/-- APPROVE: SIGN_APPROVAL, and GET_COMPONENT where flags [0] asks for it. -/
def custApprove (d : Desc) (card : CardReply) (inp : Bytes) (s : State) : Ran :=
  let p := portNo d
  let c := cardPort s p
  let wants := nbit (fld inp 66 2) 0
  match c.custodian with
  | none => stateCmd s
  | some id =>
    let a : Approval := {
      number := s.cust.nextNumber, statement := inp.take 64, custodian := id, roles := c.roles, port := p
      expiry := s.mtime + 1000000000 * fld inp 64 2, component := if wants then card.component else none }
    let l := addApproval a s.cust.approvals
    if !c.roles.getLsbD (b2n wants) || 16 < l.length then stateCmd s
    else if card.removed then
      let t := updPort p (fun x => { closeCard x with present := false, active := false }) s
      (some (refusedState t), t)
    else if !card.answers then
      let t := updPort p closeCard s
      (some (refusedState t), t)
    else if !card.sigOk || (wants && card.component.isNone) then failCmd stVerify 0 s
    else outCmd (leBytes 2 a.number) { s with cust := { s.cust with approvals := l, nextNumber := s.cust.nextNumber % 65535 + 1 } }

/-- WITHDRAW: an approval that no running command has reserved. -/
def custWithdraw (inp : Bytes) (s : State) : Ran :=
  match s.cust.approvals.find? fun a => a.number == fld inp 0 2 with
  | none => failCmd stNotFound 0 s
  | some a => if a.reserved then stateCmd s else okCmd (setApprovals (s.cust.approvals.filter fun x => x.number != a.number) s)

/-- One approval of STATUS. -/
def approvalBytes (now : Nat) (a : Approval) : Bytes :=
  leBytes 2 a.number ++ leBytes 2 a.custodian ++ [BitVec.ofNat 8 a.port, BitVec.ofNat 8 (b2n a.component.isSome)] ++
  leBytes 2 ((a.expiry - now) / 1000000000) ++ (sha256 a.statement).take 8

/-- CUSTODIAN_SESSION (**R147**). -/
def custodianRun (d : Desc) (env : LaunchEnv) (inp : Bytes) (s : State) : Ran :=
  match d.p % 16 with
  | 1 => custOpen d env.card s
  | 2 => custApprove d env.card inp s
  | 3 => custWithdraw inp s
  | 4 => okCmd (updPort (portNo d) closeCard s)
  | _ => outCmd (s.cust.approvals.flatMap (approvalBytes s.mtime)) s

-- Dual control (R145, R148) ---------------------------------------------------------------------------------------------------------------------

/-- A dual-control management command: `n` approvals of its statement reserved, and consumed where it completes with OK. -/
def dualControl (n : Nat) (d : Desc) (inp : Bytes) (run : State → Ran) (s : State) : Ran :=
  let st := opStatement d 0xFFFF inp
  match reserveApprovals n 0 st s with
  | .inr m => failCmd stDual m s
  | .inl (_, t) =>
    let (x, u) := run t
    (x, settleApprovals (match x with | some y => y.st == stOk | none => false) st u)

-- LOG_CLEAR (R427) ---------------------------------------------------------------------------------------------------------------------------------

/-- The reserve logbook emptied, beginning again with LOG_CLEARED. -/
def clearReserve (s : State) : State :=
  let l := s.log
  let first := match l.rsv.getLast? with | some r => r.seqNo | none => l.rsvNext
  let payload := leBytes 4 first ++ leBytes 4 ((l.rsvNext + 2 ^ 24 - 1) % 2 ^ 24) ++ leBytes 4 l.rsvDropped
  let r : LogRec := { typ := 0xD02, core := s.wdn.activeB, seqNo := l.rsvNext, first := s.mtime, last := s.mtime, payload := padWords payload }
  { s with log := { l with
      rsv := [r], rsvUsed := recBytes payload, rsvNext := (l.rsvNext + 1) % 2 ^ 24, rsvFull := false, rsvDropped := 0 } }

/-- LOG_CLEAR (**R427**). -/
def logClearRun (d : Desc) (inp : Bytes) (s : State) : Ran :=
  if fld inp 0 4 ≠ s.log.next ∨ fld inp 4 4 ≠ s.log.rsvNext then failCmd stVerify 0 s
  else dualControl 2 d inp (fun t =>
    let u := if nbit d.p 0 then clearMain t else t
    okCmd (if nbit d.p 1 then clearReserve u else u)) s

-- UNLOCK (R408, R409) ------------------------------------------------------------------------------------------------------------------------------

/-- Approvals that an UNLOCK needs: none in MAKER, nor in INTEGRATOR or RETURNED without a roster. -/
def unlockApprovals (s : State) : Nat :=
  if s.lcs.state = .maker ∨ ((s.lcs.state = .integrator ∨ s.lcs.state = .returned) ∧ s.kvt.roster = []) then 0 else 2

/-- Steps 1-5 of **R409**; step 2's seed is drawn before anything changes. -/
def unlockNow (s : State) : Ran :=
  let erased := s.tmp.erased
  match (if erased then wardenCalls 1 s else some s) with
  | none => rngCmd s
  | some t =>
    let t1 := if erased then (let (v, u) := draw t; newSeed v (endRekey stAborted u)) else t
    let t2 := { t1 with tmp := { t1.tmp with latched := 0, locked := false, erased := false, seedKilled := false, killRunning := false } }
    let insts := (consumerInsts t2 1 ++ consumerInsts t2 2 ++ consumerInsts t2 3)
    let t3 := if t2.ent.startupDone && !t2.ent.sourceFail then reseedMasks (instantiateAll insts t2) else t2
    okCmd (refreshHold (logEvent 0xB02 (leBytes 4 s.tmp.lockSeq ++ [BitVec.ofNat 8 (b2n erased)]) t3))

/-- UNLOCK (**R408**): `env.tmpActive` tells which conditions are still present. -/
def unlockRun (d : Desc) (env : LaunchEnv) (inp : Bytes) (s0 : State) : Ran :=
  let s := { s0 with tmp := { s0.tmp with active := env.tmpActive } }
  if !s.tmp.locked || s.lcs.state == .scrapped || s.lcs.state == .invalid || s.tmp.active != 0 then stateCmd s
  else if fld inp 0 8 ≠ s.tmp.lockSeq then failCmd stVerify 0 s
  else dualControl (unlockApprovals s) d inp unlockNow s

-- ENGINE_ABORT (R195) -------------------------------------------------------------------------------------------------------------------------------

/-- The unit that ENGINE_ABORT names: a pool 2-7, a present enabled unit. -/
def abortBad (d : Desc) (s : State) : Check :=
  let pool := d.p / 256
  let l := d.p % 256
  malformed [(2 ≤ pool && pool ≤ 7 && decide (l < enabledCount pool) && (unitOf s pool l).present, 0x3E, 10)]

/-- ENGINE_ABORT (**R195**). -/
def engineAbortRun (d : Desc) (s : State) : Ran := okCmd (abortUnit (d.p / 256) (d.p % 256) s)

end Sys2Proof.Machine
end

