-- ==== Sys2Proof/Machine/Lifecycle.lean ====
section
/-! DEFINITION. The life cycle (**R377**-**R388**, **R392**, **R393**): fuse copies and their decode, intents and roll-forward, the
device secret (**R353**, **R364**), the user-secret erasure, LIFECYCLE_REQUEST and SCRAP. -/

namespace Sys2Proof.Machine

-- Code words and intents (R378, R379, R382) ----------------------------------------------------------------------------------------------------

/-- The code word of a state by its encoding (**R378**). -/
def codeWord (n : Nat) : Nat := [0, 0x3F, 0xFFF, 0x3FFFF, 0xFFFFFF, 0xFFFFFFFF].getD n 0

/-- A state of its encoding. -/
def lifeOf (n : Nat) : LState :=
  match n with | 1 => .maker | 2 => .integrator | 3 => .fielded | 4 => .returned | 5 => .scrapped | _ => .invalid

/-- A copy's decode (**R379**): the state whose code word it equals. -/
def decodeWord (w : Nat) : LState :=
  match [1, 2, 3, 4, 5].find? fun n => codeWord n == w with | some n => lifeOf n | none => .invalid

/-- The word of copy `i` (**R392**). -/
def copyWord (s : State) (i : Nat) : Nat := fuseField s.lcs.fuse (32 * i) 32

/-- The state that at least two copies show (**R379**). -/
def majority (a b c : LState) : LState := if a = b ∨ a = c then a else if b = c then b else .invalid

/-- The intent record of a slot, 0 INTEGRATOR to 3 SCRAPPED. -/
def intentWord (s : State) (i : Nat) : Nat := fuseField s.lcs.fuse (96 + 64 * i) 64

/-- The pattern of a complete intent for a target. -/
def intentFor (target : Nat) : Nat := codeWord target + 0x5A5A5A5A * 2 ^ 32

/-- The intent of a slot is complete. -/
def intentComplete (s : State) (i : Nat) : Bool := intentWord s i == intentFor (i + 2)

/-- The intent of a slot is partial. -/
def intentPartial (s : State) (i : Nat) : Bool := intentWord s i != 0 && !intentComplete s i

/-- LCS_STATE written from the copies (**R379**), a disagreeing copy logged. -/
def decodeLife (s : State) : State :=
  let d := fun i => decodeWord (copyWord s i)
  let st := majority (d 0) (d 1) (d 2)
  let off := [0, 1, 2].filter fun i => d i != st
  let two := off.length == 1
  let t := { s with lcs := { s.lcs with
    state := st, copyA := (d 0).code, copyB := (d 1).code, copyC := (d 2).code, mismatch := two, decoded := true } }
  if two then off.foldl (fun u i => logEvent 0xA03 (BitVec.ofNat 8 i :: leBytes 4 (copyWord s i)) u) t else t

-- The device secret (R353, R364) -------------------------------------------------------------------------------------------------------------------

/-- The bits of a DS row: secret and CRC. -/
def dsBits (s : State) (row : Nat) : Nat := fuseField s.lcs.fuse (dsFuse row) 272

/-- A row holds a valid DS. -/
def rowValid (s : State) (row : Nat) : Bool :=
  let v := BitVec.ofNat 256 (dsBits s row)
  dsBits s row != 0 && dsBits s row / 2 ^ 256 == (Config.dsCrc v).toNat

/-- The row that holds a valid DS. -/
def validRow (s : State) : Option Nat := [0, 1].find? fun r => rowValid s r

/-- The first unused row. -/
def unusedRow (s : State) : Option Nat := [0, 1].find? fun r => dsBits s r == 0

/-- A DS burned into a row with its CRC. -/
def burnDs (row : Nat) (v : BitVec 256) (s : State) : State :=
  { s with lcs := { s.lcs with fuse := fuseBlow s.lcs.fuse (dsFuse row) (v.toNat + (Config.dsCrc v).toNat * 2 ^ 256) } }

/-- The identity and the table key derived from DS (**R354**, **R364**), in the states that use them (**R380**). -/
def deriveIdentity (s : State) : State :=
  let uses := s.lcs.state == .integrator || s.lcs.state == .fielded || s.lcs.state == .returned
  match (if uses then validRow s else none) with
  | some r =>
    let v := BitVec.ofNat 256 (dsBits s r)
    { s with
      lcs := { s.lcs with dsRow := some r }
      kvt := { s.kvt with identity := true, idFpr := sha256 (seedPub (identitySeed v)), kTable := tableKey v, signsNothing := false } }
  | none => { s with lcs := { s.lcs with dsRow := none }, kvt := { s.kvt with identity := false, idFpr := [] } }

-- The user-secret erasure (R387) -------------------------------------------------------------------------------------------------------------------

/-- Steps 1-5 of **R387**. -/
def eraseUser (s : State) : State :=
  let t1 := entropyClear (dropApprovals (clearKeys s))
  let t2 := killSeeds { t1 with
    kvt := { t1.kvt with store := [], storePending := [], storeDomains := [], rekeyLine := 0, roster := [], rosterSerial := 0 }
    fab := { t1.fab with cert := none, seedAddrs := [] } }
  logErased (formatVault (closeAll (some 0) t2))

-- Burning (R382, R385) ---------------------------------------------------------------------------------------------------------------------------------

/-- The bits of the three copies burned. -/
def burnCopies (target : Nat) (s : State) : State :=
  let w := codeWord target
  { s with lcs := { s.lcs with fuse := fuseBlow (fuseBlow (fuseBlow s.lcs.fuse 0 w) 32 w) 64 w } }

/-- Copies of which one fails its read-back: which bits of copy A blew is a free value, and B and C are not reached. -/
def burnBadly (target : Nat) (s : State) : State :=
  let (n, t) := draw s
  let w := codeWord target
  { t with lcs := { t.lcs with fuse := fuseBlow t.lcs.fuse 0 (Nat.land w (Config.freeNat n)) } }

/-- Every copy equals the target's code word. -/
def copiesAre (s : State) (target : Nat) : Bool := [0, 1, 2].all fun i => copyWord s i == codeWord target

/-- Step 2 of **R382**: what a target burns or erases besides the copies, the erasure through stage 0 (**R419**). -/
def middleStep (target : Nat) (ds : Option (Nat × BitVec 256)) (s : State) : State :=
  if target = 2 then (match ds with | some (r, v) => burnDs r v s | none => s)
  else if target = 4 then stageWrite 0 s.wdn.pennant s eraseUser
  else if target = 5 then
    let t := stageWrite 0 s.wdn.pennant s eraseUser
    { t with lcs := { t.lcs with fuse := fuseBlow t.lcs.fuse 352 (2 ^ 544 - 1) } }
  else s

/-- The new state governs (**R388**). -/
def enterState (target : Nat) (s : State) : State :=
  let t := { s with lcs := { s.lcs with
    state := lifeOf target, copyA := target, copyB := target, copyC := target, mismatch := false } }
  refreshHold (checkpoint (logEvent 0xA01 [BitVec.ofNat 8 s.lcs.state.code, BitVec.ofNat 8 target]
    (if target = 2 ∨ target = 5 then deriveIdentity t else t)))

/-- SCRAPPED (**R381**, **R388**): the Warden has stopped and the link dropped. -/
def stopScrapped (s : State) : State :=
  { s with pwr := { s.pwr with state := .starting }, pcie := { s.pcie with link := false }
           mgt := { s.mgt with held := [], running := none }, rqs := { s.rqs with queues := [], order := [], live := [] } }

/-- Result and target of a transition in LCS_XSTATUS. -/
def xstatus (result target : Nat) (s : State) : State :=
  { s with lcs := { s.lcs with xresult := result, xtarget := target, waiting := none } }

/-- A transition's burns and their read-back (**R382**, **R385**), through the fuse-burn stage (**R419**). -/
def burnTransition (target : Nat) (ds : Option (Nat × BitVec 256)) (readBack : Bool) (s : State) : State :=
  stageWrite 1 s.wdn.pennant s fun t =>
    let u := { t with lcs := { t.lcs with fuse := fuseBlow t.lcs.fuse (96 + 64 * (target - 2)) (intentFor target) } }
    let v := middleStep target ds u
    if readBack then burnCopies target v else burnBadly target v

/-- The end of a transition: OK in the new state, or DEVICE_FAULT where a copy fails its read-back. -/
def endTransition (target : Nat) (s : State) : Done × State :=
  if copiesAre s target then ({}, enterState target (xstatus 0 target s))
  else ({ st := stDevice, detail := lastSeq s }, xstatus 5 target s)

/-- The DS of a transition to INTEGRATOR (**R353**, **R385**, **R386**): a row that holds one serves; else 32 bytes of consumer 4 and
the first unused row. -/
def drawDs (s : State) : (Option (Nat × BitVec 256) × State) ⊕ Done :=
  if (validRow s).isSome then .inl (none, s)
  else
    match wardenCalls 1 s with
    | none => .inr { st := stRng, detail := (blockedInst s 4).getD 0 }
    | some t =>
      match unusedRow t with
      | none => .inr { st := stDevice, detail := lastSeq t }
      | some r => let (n, u) := draw t; .inl (some (r, Config.freeBits 256 n), u)

/-- A transition that has its charge. -/
def runTransition (target : Nat) (readBack : Bool) (s : State) : Done × State :=
  if target = 2 then
    match drawDs s with
    | .inr x => (x, xstatus (if x.st = stRng then 6 else 5) 2 s)
    | .inl (ds, t) => endTransition 2 (burnTransition 2 ds readBack t)
  else if target = 5 then
    endTransition 5 (burnTransition 5 none readBack
      (endLive (fun r => !(r.phase == .waitCommit || r.phase == .waitWrite)) stAborted s))
  else endTransition target (burnTransition target none readBack s)

/-- A transition with its charge completes its command; SCRAPPED stops the module behind its completion. -/
def completeTransition (target code : Nat) (path : MPath) (readBack : Bool) (s : State) : State :=
  let (x, t) := runTransition target readBack s
  let u := mgtDone code path x.st x.detail 0 t
  if u.lcs.state = .scrapped then stopScrapped u else u

/-- A transition that starts, or waits for its charge (**R384**). -/
def startTransition (target code : Nat) (path : MPath) (readBack : Bool) (s : State) : Ran :=
  let t := { s with lcs := { s.lcs with xtarget := target } }
  if capFull t then (none, completeTransition target code path readBack t)
  else (none, { t with
    lcs := { t.lcs with waiting := some { target := target, code := code, path := path, since := t.mtime, readBack := readBack } }
    mgt := { t.mgt with running := some (.transition code path) } })

-- LIFECYCLE_REQUEST and SCRAP (R385, R386) --------------------------------------------------------------------------------------------------------------

/-- The layout of a LIFECYCLE_REQUEST, From and To an edge (**R386**, first row). -/
def requestBad (d : Desc) (inp : Bytes) : Check :=
  let tgt := d.p
  let signedOne := tgt == 3 || tgt == 4
  if signedOne && d.inLen == 4776 then
    malformed [(inp.take 4 == ascii "LCRQ", 0, 10), (fld inp 4 2 == 1, 4, 10), (fld inp 6 1 == tgt - 1, 6, 10), (fld inp 7 1 == tgt, 7, 10),
      (isZero inp 40 8, 40, 1)]
  else malformed [(signedOne || (tgt == 2 && d.inLen == 0), if tgt = 2 then 0x14 else 0x3E, if tgt = 2 then 6 else 10),
    (tgt == 2, 0x14, 6)]

/-- The state rows of **R386**. -/
def requestRefused (d : Desc) (s : State) : Bool :=
  s.pwr.state != .ready || s.tmp.locked || s.lcs.waiting.isSome ||
  (if d.p = 2 then s.lcs.state != .maker || !s.ent.startupDone
   else s.lcs.state.code != d.p - 1 || s.kvt.ownerFpr.isNone)

/-- LIFECYCLE_REQUEST (**R386**): the first failure of its table, or the transition. -/
def lifecycleRun (path : MPath) (d : Desc) (env : LaunchEnv) (inp : Bytes) (s : State) : Ran :=
  let x := fun (n : Nat) => { s with lcs := { s.lcs with xresult := n, xtarget := d.p % 16 } }
  match requestBad d inp with
  | some (st, detail) => failCmd st detail (x 1)
  | none =>
    if requestRefused d s then (some (refusedState s), x 2)
    else if d.p ≠ 2 ∧ (bytesAt inp 8 32 ≠ s.kvt.idFpr ∨ !signed env.sig) then failCmd stVerify 0 (x 3)
    else startTransition d.p 0x600E path env.readBack s

/-- SCRAP (**R385**, **R386**). -/
def scrapRun (path : MPath) (env : LaunchEnv) (s : State) : Ran := startTransition 5 0x600F path env.readBack s

/-- LCS_ENERGY_WAIT's effect (**R384**): 1 s without a full charge. -/
def energyWait (s : State) : State :=
  match s.lcs.waiting with
  | some w =>
    if capFull s || s.mtime < w.since + 1000000000 then s
    else
      let t := logEvent 0xA05 [BitVec.ofNat 8 w.target] (xstatus 4 w.target s)
      mgtDone w.code w.path stState (stateDetail t) 0 t
  | none => s

/-- The capacitor at its full charge: a transition that waits goes on; one that a LOCK has met in between is refused. -/
def chargeFull (s : State) : State :=
  match s.lcs.waiting with
  | some w =>
    if !capFull s then s
    else if w.code = 0x600E ∧ s.tmp.locked then mgtDone w.code w.path stTamper 0 0 (xstatus 2 w.target s)
    else completeTransition w.target w.code w.path w.readBack s
  | none => s

-- The start's part (R379, R383, R385) --------------------------------------------------------------------------------------------------------------------

/-- The highest complete intent whose target lies above the state of a copy, an INVALID copy counting as below all
(**R383**). -/
def rollTarget (s : State) : Option Nat :=
  let low := fun (i : Nat) => match decodeWord (copyWord s i) with | .invalid => 0 | st => st.code
  [5, 4, 3, 2].find? fun t => intentComplete s (t - 2) && [0, 1, 2].any fun i => low i < t

/-- A roll-forward has to draw a DS, so the source starts before it (**R385**). -/
def rollNeedsDs (s : State) : Bool := rollTarget s == some 2 && (validRow s).isNone

/-- A transition completed from step 2 of **R382** (**R383**); one to INTEGRATOR that finds no randomness or no row is left. -/
def rollForward (s : State) : State :=
  match rollTarget s with
  | none => s
  | some target =>
    let go := fun (ds : Option (Nat × BitVec 256)) (t : State) =>
      let u := burnCopies target (middleStep target ds t)
      logEvent 0xA02 [BitVec.ofNat 8 target] { u with lcs := { u.lcs with rolled := true } }
    if target = 2 then
      if (validRow s).isNone && !s.ent.startupDone then s
      else match drawDs s with | .inl (ds, t) => go ds t | .inr _ => s
    else go none s

/-- Partial intents logged (**R382**). -/
def logPartial (s : State) : State :=
  ([0, 1, 2, 3].filter fun i => intentPartial s i).foldl (fun t i => logEvent 0xA04 [BitVec.ofNat 8 i] t) s

/-- Step 3 of a start (**R440**): roll-forward, decode, identity. -/
def startDecode (s : State) : State := deriveIdentity (decodeLife (logPartial (rollForward s)))

end Sys2Proof.Machine
end

