-- ==== Sys2Proof/Machine/Warden.lean ====
section
/-! DEFINITION. The Warden's cores (**R412**-**R419**): self-test, fail-over, loss, checkpoints with the burns that wait for one, the
staging buffer, and the logbook window (**R431**). -/

namespace Sys2Proof.Machine

-- Fail-over (R414-R418) ---------------------------------------------------------------------------------------------------------------

/-- A core retired until the next start (**R417**), logged with the cause SELF_TEST. -/
def retireCore (b : Bool) (s : State) : State :=
  logEvent 0xC05 [BitVec.ofNat 8 (b2n b), 4]
    { s with wdn := { s.wdn with aRetired := s.wdn.aRetired || !b, bRetired := s.wdn.bRetired || b } }

/-- The Warden is lost (**R418**): LOCK with no ERASE, WDN_LOST in the reserve logbook. -/
def loseWarden (cause : Nat) (s : State) : State :=
  let t := lockNow s
  let u : State := { t with wdn := { t.wdn with lost := true, standby := false } }
  noteFull u (logReserve 0xC03 [BitVec.ofNat 8 cause] u)

/-- The failed core held in reset, the pennant raised (**R416** step 2, **R430**). -/
def replaceCore (cause : Nat) (s : State) : State :=
  let w := s.wdn
  { s with wdn := { w with
    pennant := (w.pennant + 1) % 2 ^ 32, standby := false, failing := some w.activeB, activeB := !w.activeB
    failovers := satAdd 8 w.failovers 1, lastCause := cause, lastFailed := w.activeB } }

/-- A management command that the failed core had not completed (**R416**): a transition is resumed, any other ends with
ABORTED. -/
def abortCommand (s : State) : State :=
  match s.mgt.running with
  | some (.transition _ _) => s
  | some (.handover d _) => endRunning stAborted 0 { s with fab := { s.fab with own := tupd s.fab.own d {} fun o =>
      { o with handover := false, asked := false } } }
  | some _ => endRunning stAborted 0 { s with rqs := { s.rqs with readyDrain := none } }
  | none => s

/-- Handshakes in progress abandoned; those this module began go out again with a new HELLO (**R282**, **R416**). -/
def restartHandshakes (s : State) : State :=
  let mine := s.fab.hs.filter (·.initiator)
  mine.foldl (fun t h => startHello h.fpr t) { s with fab := { s.fab with hs := [] } }

/-- Steps 4 and 5 of **R416**: the new core at work, every stage at its pennant. -/
def takeOver (cause : Nat) (s : State) : State :=
  let w := s.wdn
  let t : State := { s with wdn := { w with
    stage := [(0, w.pennant), (1, w.pennant), (2, w.pennant), (3, w.pennant)], failTime := s.mtime } }
  let u := checkpoint (restartHandshakes (dropApprovals t))
  raise 9 (logEvent 0xC02 ([BitVec.ofNat 8 (b2n w.lastFailed), BitVec.ofNat 8 cause] ++ leBytes 4 w.pennant) u)

/-- A fail-over to a standby that passes its self-test and measurement (**R416**). -/
def failOver (cause : Nat) (s : State) : State := takeOver cause (replaceCore cause s)

/-- WARDEN_CORE_FAILURE's effect (**R414**, **R416**, **R418**): the standby takes over, or the Warden is lost.  `selfTest` and `measured`
tell what the standby's self-test and the measurement of its firmware find (step 3). -/
def coreFailure (cause : Nat) (measured selfTest : Bool) (s : State) : State :=
  if !wardenUp s || cause == 0 || 5 < cause then s
  else if !s.wdn.standby then loseWarden cause s
  else if !selfTest then loseWarden 4 (replaceCore cause s)
  else if !measured then loseWarden 5 (replaceCore cause s)
  else abortCommand (failOver cause s)

/-- FAILED_CORE_SELF_TEST (**R417**): the failed core becomes the standby, or is retired. -/
def execFailedCoreSelfTest (pass : Bool) (s : State) : Res :=
  match s.wdn.failing with
  | none => .next s
  | some b =>
    let t : State := { s with wdn := { s.wdn with failing := none } }
    .next (if pass then { t with wdn := { t.wdn with standby := true } } else retireCore b t)

/-- A journalled procedure runs (**R416**): a transition, or a vault re-key. -/
def journalRuns (s : State) : Bool := s.lcs.waiting.isSome || s.kvt.rekey.isSome

/-- WARDEN_SWITCHBACK (**R417**): commands run one at a time, so no other one runs. -/
def switchbackRun (s : State) : Ran :=
  if !s.wdn.standby || journalRuns s || s.tmp.locked then stateCmd s else okCmd (failOver 6 s)

-- Checkpoints (R415, R333, R444) ---------------------------------------------------------------------------------------------------------

/-- First fuse of spare `k` of a bank (**R392**). -/
def spareFuse (bank k : Nat) : Nat := 1152 + 8 * (4 * bank + k)

/-- A marked bit column burned into the bank's first free field spare, or logged where none is left (**R333**). -/
def burnSpare (p : Nat × Nat) (s : State) : State :=
  match [2, 3].find? fun k => fuseField s.lcs.fuse (spareFuse p.1 k) 8 == 0 with
  | some k => { s with lcs := { s.lcs with fuse := fuseBlow s.lcs.fuse (spareFuse p.1 k) (128 + p.2 % 72) } }
  | none => logEvent 0x802 [BitVec.ofNat 8 p.1] s

/-- SPARE_COLUMN_BURN: the marked columns burned where the capacitor holds the energy; else they stay pending. -/
def burnSpares (s : State) : State :=
  let l := s.mem.spPending
  if l.isEmpty || s.pwr.cap < burnEnergy (8 * l.length) then s
  else stageWrite 1 s.wdn.pennant s fun t => l.foldl (fun u p => burnSpare p u) { t with mem := { t.mem with spPending := [] } }

/-- WARDEN_CHECKPOINT (**R415**): the periodic checkpoint, with the burns that waited for it. -/
def execWardenCheckpoint (s : State) : Res :=
  if wardenUp s then .next (checkpoint (burnSpares (burnRetired s))) else .next s

/-- LOG_STAGING_FLUSH (**R424**). -/
def execLogStagingFlush (s : State) : Res := if wardenUp s && s.log.size != 0 then .next (flushLog s) else .next s

-- The logbook window (R431) ----------------------------------------------------------------------------------------------------------------

/-- A register of the window 0x0D is written through a path: LOG_SEL selects a record and sets BUSY. -/
def logSelWrite (v : Word) (s : State) : State :=
  { s with log := { s.log with selRsv := v.getLsbD 31, selSeq := v.toNat % 2 ^ 24, selBusy := true } }

/-- LOG_SEL_FETCH_DONE (**R431**): the selected record, or none. -/
def execLogSelFetchDone (s : State) : Res :=
  if !s.log.selBusy || !wardenUp s then .next s
  else
    let t := flushLog s
    let l := if t.log.selRsv then t.log.rsv else t.log.main
    .next { t with log := { t.log with selBusy := false, window := l.find? fun r => r.seqNo == t.log.selSeq } }

/-- The bytes of a record (**R422**). -/
def LogRec.bytes (r : LogRec) : Bytes :=
  let h := r.typ * 2 ^ 52 + (r.payload.length / 8) * 2 ^ 44 + (b2n r.replayed + 2 * b2n r.hardware + 4 * b2n r.core) * 2 ^ 40 +
    r.count * 2 ^ 24 + r.seqNo
  leBytes 8 h ++ leBytes 8 r.first ++ leBytes 8 r.last ++ r.payload

end Sys2Proof.Machine
end

