-- ==== Sys2Proof/Machine/Power.lean ====
section
/-! DEFINITION. Power (**R432**-**R458**): the charger and its gauge, host resets, POWER_STATE, the start sequence with the key
store's reload (**R362**), loss and return of VIN, the reserve, and the passing of time. -/

namespace Sys2Proof.Machine

-- Cell faults (R455) ---------------------------------------------------------------------------------------------------------------------

/-- A cell fault appears: its bit, one record per occurrence, and the POWER interrupt. -/
def setFault (code : Nat) (s : State) : State :=
  if s.pwr.fault.getLsbD (code - 1) then s
  else
    let t : State := { s with pwr := { s.pwr with fault := s.pwr.fault ||| BitVec.ofNat 8 (2 ^ (code - 1)) } }
    let p := BitVec.ofNat 8 code :: (leBytes 2 t.pwr.cellMv ++ leBytes 2 (twos 16 t.pwr.cellTemp))
    if onVin t then raise 12 (logEvent 0xE04 p t) else noteFull t (logReserve 0xE04 p t)

/-- Bits of codes cleared. -/
def clearFaults (mask : Nat) (s : State) : State :=
  { s with pwr := { s.pwr with fault := s.pwr.fault &&& ~~~ BitVec.ofNat 8 mask } }

/-- Q_est below 60 % of rated (code 7). -/
def endOfLife (w : Pwr) : Bool :=
  match w.profile with | some p => decide (w.qest * 100 < 60 * (p.rated * 3600000)) | none => false

/-- END_OF_LIFE where Q_est has fallen below its limit. -/
def lifeCheck (s : State) : State := if endOfLife s.pwr then setFault 7 s else s

/-- A fault that stops charging is present (codes 1-6). -/
def chargeStopped (w : Pwr) : Bool := w.fault &&& 0x3F != 0

-- The charger (R449-R452) ---------------------------------------------------------------------------------------------------------------------

/-- The temperature lies inside the charge window, by a margin in degrees (**R450**). -/
def inWindow (p : Profile) (t : Int) : Bool := decide ((p.tLow : Int) * 16 ≤ t ∧ t ≤ (p.tHigh : Int) * 16)

/-- The temperature lies more than 3 degrees inside the window. -/
def wellInside (p : Profile) (t : Int) : Bool := decide (((p.tLow : Int) + 3) * 16 < t ∧ t < ((p.tHigh : Int) - 3) * 16)

/-- The temperature lies in an outer band, where the current is halved. -/
def halved (p : Profile) (t : Int) : Bool := decide (t < ((p.tLow : Int) + 10) * 16 ∨ ((p.tHigh : Int) - 10) * 16 < t)

/-- The CV level in force (**R450**). -/
def cvLevel (p : Profile) (t : Int) : Nat :=
  if ((p.tHigh : Int) - 10) * 16 < t then p.cv - (if p.chemistry = 1 then 100 else 50) else p.cv

/-- I_cc (**R451**): the maximum charge current, or Q_est over two hours. -/
def iCc (p : Profile) (w : Pwr) : Nat := min p.maxCharge (w.qest / 7200000)

/-- The current of a phase (**R449**-**R452**). -/
def iSet (p : Profile) (w : Pwr) (phase : Nat) : Nat :=
  let half := fun (i : Nat) => if halved p w.cellTemp then i / 2 else i
  if phase = 1 then max 1 (half (max 1 (p.maxCharge / 10)))
  else if phase = 2 ∨ phase = 3 then max 1 (half (iCc p w) - w.steps * (iCc p w / 4))
  else 0

/-- The phase that the cell's present state calls for (**R449**). -/
def phaseFor (w : Pwr) : Nat :=
  match w.profile with
  | none => 0
  | some p =>
    if !w.vinValid then 0
    else if chargeStopped w then 6
    else if !inWindow p w.cellTemp || (w.phase == 5 && !wellInside p w.cellTemp) then 5
    else if w.cellMv < p.cutoff then 1
    else if w.cellMv < cvLevel p w.cellTemp then 2 else 3

/-- I_set recomputed. -/
def setCurrent (w : Pwr) : Pwr :=
  { w with iset := match w.profile with | some p => iSet p w w.phase | none => 0 }

/-- A phase entered: CC begins from the present temperature with no step taken, and DONE sets the counter to Q_est. -/
def enterPhase (now n : Nat) (w : Pwr) : Pwr :=
  setCurrent (if n = 2 ∧ w.phase ≠ 2 then { w with phase := 2, ccTemp := w.cellTemp, steps := 0, stepAt := now }
    else if n = 4 then { w with phase := 4, remain := w.qest, sinceDone := 0 }
    else { w with phase := n })

/-- The charger takes the phase of the cell's present state. -/
def recharge (s : State) : State := { s with pwr := enterPhase s.mtime (phaseFor s.pwr) s.pwr }

/-- The state of charge lies below 95 %. -/
def below95 (w : Pwr) : Bool := decide (w.remain * 100 < 95 * w.qest)

/-- The phase after a reading of cell voltage and current (**R449**). -/
def phaseNext (p : Profile) (w : Pwr) : Nat :=
  let cv := cvLevel p w.cellTemp
  match w.phase with
  | 0 => phaseFor w
  | 1 => if w.cellMv < p.cutoff then 1 else if w.cellMv < cv then 2 else 3
  | 2 => if w.cellMv < cv then 2 else 3
  | 3 => if w.cellUa ≤ 1000 * (p.term : Int) then 4 else 3
  | 4 => if w.cellMv + (if p.chemistry = 1 then 100 else 200) < cv || below95 w then 2 else 4
  | n => n

/-- CHARGER_PHASE_CHANGE (**R449**): the cell's voltage and current as measured. -/
def execChargerPhaseChange (cellMv : Nat) (cellUa : Int) (s : State) : Res :=
  let w := { s.pwr with cellMv := cellMv % 65536, cellUa := cellUa }
  match w.profile with
  | none => .next s
  | some p =>
    if !w.vinValid then .next s else .next { s with pwr := enterPhase s.mtime (phaseNext p w) w }

/-- Resistance of the thermistor beyond its limits (**R455**): code 2 or 3. -/
def ntcFault (p : Profile) (ohms : Nat) : Option Nat :=
  if 50 * (100 * p.ntcR25) < ohms then some 2 else if ohms * 50 < 100 * p.ntcR25 then some 3 else none

/-- CELL_TEMP_READING (**R448**, **R450**, **R451**): `temp` is T of the measured resistance, in 1/16 degree (log entry 41). -/
def execCellTempReading (ohms : Nat) (temp : Int) (s : State) : Res :=
  match s.pwr.profile with
  | none => .next (if s.pwr.state = .off then s else { s with pwr := { s.pwr with cellTemp := temp } })
  | some p =>
    if s.pwr.state = .off then .next s
    else
      match ntcFault p ohms with
      | some c => .next (recharge (setFault c s))
      | none =>
        let w := { s.pwr with cellTemp := temp }
        let t : State := { s with pwr := w }
        if w.phase = 2 ∧ inWindow p temp = true ∧ w.ccTemp + 80 < temp ∧ w.steps < 3 ∧ (w.steps = 0 ∨ w.stepAt + 120000000000 ≤ s.mtime) then
          .next { t with pwr := setCurrent { w with steps := w.steps + 1, stepAt := s.mtime } }
        else if w.phase = 5 ∨ ((w.phase = 1 ∨ w.phase = 2 ∨ w.phase = 3) ∧ inWindow p temp = false) then .next (recharge t)
        else .next { t with pwr := setCurrent w }

/-- CHARGE_STEP_RESTORE (**R451**): 10 min with a rise below 3 degrees restore one step. -/
def execChargeStepRestore (s : State) : Res :=
  let w := s.pwr
  if w.phase = 2 ∧ 0 < w.steps ∧ w.cellTemp < w.ccTemp + 48 ∧ w.stepAt + 600000000000 ≤ s.mtime then
    .next { s with pwr := setCurrent { w with steps := w.steps - 1, stepAt := s.mtime } }
  else .next s

/-- PRECHARGE_TIMEOUT (**R455**). -/
def execPrechargeTimeout (s : State) : Res := if s.pwr.phase = 1 then .next (recharge (setFault 4 s)) else .next s

/-- CHARGE_TIMEOUT (**R449**, **R455**). -/
def execChargeTimeout (s : State) : Res :=
  if s.pwr.phase = 2 ∨ s.pwr.phase = 3 then .next (recharge (setFault 5 s)) else .next s

/-- CELL_FAULT (**R455**): a fault appears, by its code; END_OF_LIFE and NO_PROFILE only where the gauge and the profile show
them. -/
def execCellFault (code : Nat) (s : State) : Res :=
  if code = 0 ∨ 8 < code ∨ s.pwr.state = .off ∨ (code = 7 ∧ endOfLife s.pwr = false) ∨ (code = 8 ∧ s.pwr.profile.isSome = true) then .next s
  else
    let t := if code = 1 then { s with pwr := { s.pwr with absent := true } } else s
    .next (recharge (setFault code t))

/-- A cell present again (**R454**): the gauge starts anew. -/
def newCell (s : State) : State :=
  match s.pwr.profile with
  | some p => { s with pwr := freshGauge p s.pwr }
  | none => { s with pwr := { s.pwr with absent := false, remain := 0, cycles := 0, cycleAcc := 0, sinceDone := 0 } }

/-- CELL_FAULT_RECHECK (**R455**): every 60 s, the faults that do not latch (codes 1-3). -/
def execCellFaultRecheck (cellMv ohms : Nat) (s : State) : Res :=
  let f := s.pwr.fault.toNat
  if f % 8 = 0 ∨ s.pwr.state = .off then .next s
  else
    let t : State := { s with pwr := { s.pwr with cellMv := cellMv % 65536 } }
    let u := if 1500 ≤ cellMv ∧ t.pwr.absent = true then newCell t else t
    let ntc := match s.pwr.profile with | some p => ntcFault p ohms | none => none
    let gone := (if 1500 ≤ cellMv then 1 else 0) + (if ntc = some 2 then 0 else 2) + (if ntc = some 3 then 0 else 4)
    .next (recharge (clearFaults gone u))

/-- CELL_INSERTED (**R454**): a cell becomes present again. -/
def execCellInserted (cellMv : Nat) (s : State) : Res :=
  if s.pwr.absent && decide (1500 ≤ cellMv) && s.pwr.state != .off then
    .next (newCell { s with pwr := { s.pwr with cellMv := cellMv % 65536 } })
  else .next s

/-- A write to PWR_CELL_FAULT (**R455**, **R458**): the bits clear, the charger re-enters its phase, and a condition still present
sets its bit again. -/
def cellFaultWrite (v : Word) (s : State) : State :=
  let t := clearFaults (v.toNat % 256) s
  let w := t.pwr
  let high := match w.profile with | some p => decide (cvLevel p w.cellTemp + 100 < w.cellMv) | none => false
  let codes := ((if w.absent then [1] else []) ++ if high then [6] else []) ++
    ((if endOfLife w then [7] else []) ++ if w.profile.isNone then [8] else [])
  recharge (codes.foldl (fun u c => setFault c u) t)

-- The gauge (R453, R454) ---------------------------------------------------------------------------------------------------------------------

/-- Q_est less a loss; the counter stays within it. -/
def fade (loss : Nat) (s : State) : State :=
  let q := s.pwr.qest - loss
  lifeCheck { s with pwr := { s.pwr with qest := q, remain := min s.pwr.remain q } }

/-- Tenths of an equivalent full cycle counted, each tenth one CYCLES unit, each tenth tenth a cycle's loss (**R454**). -/
def countCycles (p : Profile) (s : State) : State :=
  let tenth := s.pwr.qest / 10
  if tenth = 0 ∨ s.pwr.cycleAcc < tenth then s
  else
    let k := s.pwr.cycleAcc / tenth
    let full := (s.pwr.cycles + k) / 10 - s.pwr.cycles / 10
    let t : State := { s with pwr := { s.pwr with cycles := s.pwr.cycles + k, cycleAcc := s.pwr.cycleAcc % tenth } }
    if full = 0 then t else fade (full * (p.rated * (if p.chemistry = 1 then 720 else 180))) t

/-- COULOMB_COUNTER_TICK (**R453**): one second of cell current. -/
def execCoulombCounterTick (ua : Int) (s : State) : Res :=
  if s.pwr.state = .off then .next s
  else
    let w := s.pwr
    let out := (-ua).toNat
    let t : State := { s with pwr := { w with
      cellUa := ua, remain := min ((w.remain : Int) + ua).toNat w.qest, cycleAcc := w.cycleAcc + out, sinceDone := w.sinceDone + out } }
    .next (match w.profile with | some p => countCycles p t | none => t)

/-- 2 to the power of k/160, k below 160, in units of 2^-32. -/
def exp160 (k : Nat) : Nat :=
  ([(1, 4313614186), (2, 4332342032), (4, 4370042002), (8, 4446428991), (16, 4603231970), (32, 4933621868), (64, 5667243324),
    (128, 7477972398)] : List (Nat × Nat)).foldl (fun a e => if k.testBit (Nat.log2 e.1) then a * e.2 / 2 ^ 32 else a) (2 ^ 32)

/-- `base` multiplied by 2 to the power of (T - 25) / 10, T in 1/16 degree (**R454**, log entry 42). -/
def arrhenius (base : Nat) (temp : Int) : Nat :=
  let n := temp - 400
  let m := base * exp160 (n % 160).toNat
  if 0 ≤ n then m * 2 ^ (n / 160).toNat / 2 ^ 32 else m / 2 ^ (32 + (-(n / 160)).toNat)

/-- QEST_DAILY_UPDATE (**R454**): the day's calendar term at its mean temperature, in 1/16 degree. -/
def execQestDailyUpdate (meanTemp : Int) (s : State) : Res :=
  match s.pwr.profile with
  | some p => .next (if s.pwr.state = .off then s else fade (arrhenius (p.rated * (if p.chemistry = 1 then 144 else 72)) meanTemp) s)
  | none => .next s

-- Host resets (R475) ---------------------------------------------------------------------------------------------------------------------

/-- A request ends without a completion: what it held is given back (**R65**). -/
def vanish (r : Req) (s : State) : State :=
  let t := if r.approvals then settleApprovals false (opStatement r.desc r.slice r.input) s else s
  dropReq r.rid (countBurned r stAborted (parkAfter r.rid (clearContexts r.rid (dropWork r.work (dropCalls r.calls t)))))

/-- The request came through a host queue. -/
def viaHost (r : Req) : Bool := match r.origin with | .host _ => true | _ => false

/-- MGT_ registers at their reset values (**R469**); held BAR0 launches not yet started are discarded, running commands go on. -/
def mgtReset (m : Mgt) : Mgt :=
  { m with
    desc := {}, cmd := 0, status := 0, detail := 0, outLen := 0, doneCode := 0, path := .bar0, done := false, overrun := false
    irq := 0, irqEnable := 0, buf := [], latchBar0 := none
    held := m.held.filter fun h => h.launch.path == .smbus }

/-- The host path after any PCIe reset (**R475**, first row). -/
def hostReset (s : State) : State :=
  let t := (s.rqs.live.filter viaHost).foldl (fun u r => vanish r u) s
  { t with
    rqs := { t.rqs with queues := [], order := [] }
    mgt := mgtReset t.mgt
    pcie := { t.pcie with
      busMaster := false, d3hot := false, pasidEnable := false, secure := false, keyed := false, spdm := false, unmasked := [], pba := []
      credits := true } }

/-- The link trained: width and speed are what the two sides negotiate, free values (**R469**, log entry 7). -/
def trainLink (s : State) : State :=
  if s.pcie.perst || s.pcie.link then s
  else
    let (n, t) := drawMany 2 s
    { t with pcie := { t.pcie with link := true, width := Config.freeNat n % 5 + 1, speed := Config.freeNat (n + 1) % 5 + 1 } }

/-- The link down. -/
def dropLink (s : State) : State := { s with pcie := { s.pcie with link := false, width := 0, speed := 0 } }

-- POWER_STATE (R435-R437) ---------------------------------------------------------------------------------------------------------------------

/-- Unit clocks stopped (**R436**). -/
def stopClocks (s : State) : State :=
  { s with eng := { s.eng with units := s.eng.units.map fun e => (e.1, { e.2 with clock := false }) } }

/-- A change of power state by the Warden, through stage 2 (**R419**), with its checkpoint (**R415**). -/
def moveTo (p : PState) (s : State) : State := checkpoint (stageWrite 2 s.wdn.pennant s (setPState p))

/-- JTAG instructions that RUN does not permit, replaced by BYPASS (**R491**). -/
def tapForRun (s : State) : State := if s.ir = 0 ∨ (3 ≤ s.ir ∧ s.ir ≤ 6) then { s with ir := 0xFF } else s

/-- RUN entered: vault memory leaves self-refresh, masks are reseeded (**R157**). -/
def enterRun (s : State) : State := tapForRun (reseedMasks (moveTo .run (setSelfRefresh false s)))

/-- The drain of **R436** begun: what has not landed completes with REFUSED_STATE. -/
def beginDrain (path : MPath) (s : State) : State :=
  let t : State := { s with
    rqs := { s.rqs with readyDrain := some s.mtime }, mgt := { s.mgt with running := some (.readyDrain path) } }
  (t.rqs.live.filter fun r => !r.admitted).foldl (fun u r => endReq r.rid stState (stateDetail u) u) t

/-- A request no longer in execution: it waits for its completion write, or for its owner's RESPONSE. -/
def executed (r : Req) : Bool := r.phase == .waitWrite || r.phase == .forwarded

/-- The command that waits for the drain. -/
def drains (r : Running) : Bool := match r with | .readyDrain _ => true | _ => false

/-- READY_DRAIN_DONE's effect (**R436**). -/
def readyDrainDone (s : State) : State :=
  if s.rqs.readyDrain.isNone || s.rqs.live.any (fun r => !executed r) then s
  else
    let t := moveTo .ready (stopClocks (setSelfRefresh true { s with rqs := { s.rqs with readyDrain := none } }))
    completes drains t

/-- SLEEP entered (**R437**). -/
def enterSleep (s : State) : State :=
  let t := entropyClear (dropLink (hostReset (closeAll (some 0) s)))
  moveTo .sleep (setSelfRefresh true { t with
    ent := { t.ent with capture := false, buffer := [] }
    fab := { t.fab with port0 := { t.fab.port0 with link := false, pcs := false }, port1 := { t.fab.port1 with link := false, pcs := false } }
    slices := t.slices.map fun e => (e.1, { e.2 with ring := [] }) })

/-- SLEEP left for READY (**R241**, **R435**): the source started afresh, the link trained. -/
def leaveSleep (env : LaunchEnv) (s : State) : State :=
  let t := entropyStart env.badCells env.entKat true s
  let u := if t.tmp.locked then
      { t with ent := { t.ent with drbg := t.ent.drbg.map fun e => if e.2.consumer = 4 then e else (e.1, { e.2 with inst := false }) } }
    else t
  refreshHold (trainLink (moveTo .ready u))

/-- POWER_STATE (**R435**). -/
def powerRun (path : MPath) (d : Desc) (env : LaunchEnv) (s : State) : Ran :=
  let tgt := d.p % 16
  if tgt = s.pwr.state.code then okCmd s
  else
    match s.pwr.state, tgt with
    | .ready, 4 => let t := refreshHold s; if t.pwr.runHold = 0 then okCmd (enterRun t) else (some (refusedState t), t)
    | .run, 3 => (none, beginDrain path s)
    | .ready, 2 => if (mgtFlags s).getLsbD 0 && (mgtFlags s).getLsbD 2 then okCmd (enterSleep s) else stateCmd s
    | .sleep, 3 => if path = .smbus then okCmd (leaveSleep env s) else stateCmd s
    | _, _ => stateCmd s

-- The key store at a start (R361, R362, R219) ---------------------------------------------------------------------------------------------

/-- A stateful key's next index at its committed limit. -/
def burnToLimit (k : KeyRec) : KeyRec := if k.typ = 4 then { k with nextIdx := k.limit } else k

/-- Indices that a list of records burns at a start. -/
def burnedBy (l : List KeyRec) : Nat := l.foldl (fun n k => if k.typ = 4 then n + (k.limit - k.nextIdx) else n) 0

/-- A stored record written back with its entry, unless its domain's set fails to unwrap. -/
def reloadRecord (s : State) (k : KeyRec) : State :=
  if s.kvt.storeBad.contains k.domain then s else installRecord (burnToLimit k) (64 * k.largeLines) s

/-- The store's domains whose sets do not unwrap, logged. -/
def logBadDomains (l : List Nat) (s : State) : State := l.foldl (fun t d => logEvent 0x905 (leBytes 2 d) t) s

/-- After a cold start, the records of the store under the vault seed that wraps its key sets (**R362**). -/
def reloadStore (s : State) : State :=
  match s.kvt.vs with
  | none => { s with kvt := { s.kvt with dks := [] } }
  | some v =>
    let names := s.kvt.storeDomains.map (·.1)
    if v ≠ s.kvt.storeFor then logBadDomains names { s with kvt := { s.kvt with dks := [] } }
    else
      let ok := names.filter fun d => !s.kvt.storeBad.contains d
      let t := logBadDomains (names.filter fun d => s.kvt.storeBad.contains d)
        { s with kvt := { s.kvt with dks := s.kvt.dks.filter fun e => ok.contains e.1 }, eng := { s.eng with burned := burnedBy s.kvt.store } }
      let u := s.kvt.store.foldl reloadRecord t
      if standalone u then u else { u with fab := { u.fab with reserveLocal := ok } }

/-- After a warm reset, VOLATILE records and their entries released, stateful keys at their limit (**R361**, **R362**). -/
def releaseVolatile (s : State) : State :=
  let gone := s.kvt.records.filter fun e => e.2.vol
  let t := gone.foldl (fun u e => freeRecord e.1 (emDelete e.2.slice e.2.handle u).2) s
  let u : State := { t with
    eng := { t.eng with burned := burnedBy (t.kvt.records.map (·.2)) }
    kvt := { t.kvt with records := t.kvt.records.map fun e => (e.1, burnToLimit e.2) } }
  if standalone u || u.kvt.vs.isNone then u else { u with fab := { u.fab with reserveLocal := u.kvt.storeDomains.map (·.1) } }

/-- A re-key found in the journal (**R374**): after a cold start its last steps, after a warm one it goes on where it stood. -/
def resumeRekey (cold : Bool) (s : State) : State :=
  match s.kvt.rekey with
  | some r =>
    let t : State := { s with kvt := { s.kvt with rekey := some { r with path := none }, rekeyLine := r.line } }
    if cold && s.kvt.vs.isSome && r.sealedFor == measureNow s then rekeyDone { r with path := none } stOk (finishRekey r.seed t) else t
  | none => s

-- The start (R440-R442) ---------------------------------------------------------------------------------------------------------------------

/-- Flash records whose MAC fails (**R354**) read as absent. -/
def dropBadRecords (s : State) : State :=
  s.kvt.recordsBad.foldl (fun t k =>
    let u := logEvent 0x901 [BitVec.ofNat 8 k] t
    if k = 1 then { u with kvt := { u.kvt with ownerFpr := none } }
    else if k = 2 then { u with kvt := { u.kvt with roster := [] } }
    else { u with fab := { u.fab with cert := none, seedAddrs := [] } }) s

/-- What vault memory holds at a start: its contents, or, cold, none, with listed rows repaired where their bank has a resource
left, which is a free value (**R347**, **R348**). -/
def startMem (cold : Bool) (s : State) : Mem × State :=
  let m := s.mem
  let kept : Mem := { remap := m.remap, spPending := m.spPending, trained := true, selfRefresh := true }
  if cold then
    let (n, t) := drawMany m.remap.length s
    let left := ((List.range m.remap.length).zip m.remap).filter fun e => Config.freeNat (n + e.1) % 2 == 0
    ({ kept with remap := left.map (·.2), pprDone := m.remap.length - left.length }, t)
  else
    ({ kept with
      cells := m.cells.filter fun c => 0x1000000000 ≤ c.1
      colours := m.colours.filter fun c => vaultLine0 ≤ c.1
      badLines := m.badLines, rewritten := m.rewritten, rowErrors := m.rowErrors }, s)

/-- What flash keeps of the key vault, and, warm, what vault memory does. -/
def startKvt (cold : Bool) (k : Kvt) : Kvt :=
  { records := if cold then [] else k.records
    store := k.store, storeDomains := k.storeDomains, storeBad := k.storeBad, storeFor := k.storeFor, dks := k.dks
    reseal := k.reseal, rekey := k.rekey, rekeyLine := k.rekeyLine, kTable := k.kTable, ownerFpr := k.ownerFpr, roster := k.roster
    rosterSerial := k.rosterSerial, recordsBad := k.recordsBad, fw := k.fwNext.getD k.fw, fwStaged := k.fwStaged, fwBytes := k.fwBytes }

/-- What the lock record and retention keep of the tamper state (**R397**, **R406**, **R407**). -/
def startTmp (cause : Nat) (t : Tmp) : Tmp :=
  { locked := t.locked, erased := t.erased, seedKilled := t.seedKilled, killRunning := t.killRunning, exhausted := t.exhausted
    exhaustMv := t.exhaustMv, exhaustLog := t.exhaustLog, lockSeq := t.lockSeq, latched := t.latched, meshGen := t.meshGen
    reserveAlarm := cause == 2 && t.reserveAlarm }

/-- The logbooks at a start (**R425**, **R426**): the main one persists a warm reset, the reserve one all but OFF. -/
def startLog (cause : Nat) (l : Log) : Log :=
  let r : Log := if cause = 1 then {} else { rsv := l.rsv, rsvUsed := l.rsvUsed, rsvFull := l.rsvFull, rsvNext := l.rsvNext, rsvDropped := l.rsvDropped }
  if cause = 3 then { r with main := l.main, size := l.size, used := l.used, full := l.full, next := l.next, dropped := l.dropped }
  else { r with size := 1048576 * (defaultPlan.getD 4 (0, 0)).2 }

/-- The supply and the charger at a start (**R446**, **R456**): a start from OFF begins a new gauge with no profile. -/
def startPwr (cause now : Nat) (w : Pwr) : Pwr :=
  let kept : Pwr := if cause = 1 then { vinMv := w.vinMv, cellMv := w.cellMv, cap := w.cap } else w
  { kept with
    state := .starting, startRun := true, cause := cause, vinValid := true, ovlo := false, runHold := 0, lockout := false
    cap := max w.cap 1600
    reserveTime := if cause = 2 then (now - w.vinLost) / 1000000000 else kept.reserveTime }

/-- The inactive slot's record marks a staged image (**R30**, **R62**). -/
def stagedSlot (s : State) : Bool :=
  let x := slotOf s (!(activeSlot s).getD false)
  x.crcOk && x.seqNo == 0 && x.len != 0

/-- The module with everything that a start of a cause resets at its reset value. -/
def startBase (cause : Nat) (s : State) : State :=
  let cold := cause != 3
  let (m, u) := startMem cold s
  { pending := u.pending, out := u.out, freeCtr := u.freeCtr, ir := u.ir
    mtime := if cause = 1 then 0 else u.mtime
    img := { slotA := u.img.slotA, slotB := u.img.slotB, vaultCtr := u.img.vaultCtr, staged := stagedSlot u }
    rqs := { nextRid := u.rqs.nextRid }
    eng := { fusePending := if cause = 1 then [] else u.eng.fusePending }
    ent := { cells := u.ent.cells, drbg := (List.range 16).map fun i => (i, {}) }
    lku := if cold then {} else { em := u.lku.em, stash := u.lku.stash, badBuckets := u.lku.badBuckets }
    mem := m
    kvt := startKvt cold u.kvt
    fab := { nodeFlash := u.fab.nodeFlash, cert := u.fab.cert, seedAddrs := u.fab.seedAddrs, sby := if cold then [] else u.fab.sby }
    lcs := { fuse := u.lcs.fuse }
    tmp := startTmp cause u.tmp
    log := startLog cause u.log
    pwr := startPwr cause u.mtime u.pwr
    mgt := { smbPort := 0x5A }
    pcie := { perst := u.pcie.perst }
    cust := { port0 := { present := u.cust.port0.present }, port1 := { present := u.cust.port1.present } } }

/-- Step 2 (**R413**, **R425**, **R426**): START, the reserve logbook, the exhaustion of the lock record, the change of power state. -/
def startWarden (cause old : Nat) (e : StartEnv) (s : State) : State :=
  let b := !e.coreA
  let t : State := { s with wdn := { s.wdn with activeB := b, standby := e.coreA && e.coreB, stage := [] } }
  let t1 := logEvent 0xC01 [BitVec.ofNat 8 cause, BitVec.ofNat 8 (b2n b)] t
  let bad := (if e.coreA then [] else [false]) ++ (if e.coreB then [] else [true])
  let t2 := copyReserve (bad.foldl (fun u c => retireCore c u) t1)
  let t3 : State := if t2.tmp.exhaustLog then
      logEvent 0xB03 (leBytes 2 t2.tmp.exhaustMv) { t2 with tmp := { t2.tmp with exhaustLog := false } } else t2
  let t4 := logEvent 0xE01 [BitVec.ofNat 8 old, 5] t3
  let t5 := if cause = 2 then logEvent 0xE03 [] t4 else t4
  dropBadRecords (if t5.tmp.reserveAlarm then raise 8 t5 else t5)

/-- The mesh generator reseeded from consumer 4 (**R401**). -/
def seedMesh (s : State) : State :=
  if !s.ent.startupDone || s.tmp.meshSeeded then s
  else
    match wardenCalls 1 s with
    | none => s
    | some t => let (n, u) := draw t; { u with tmp := { u.tmp with meshGen := n, meshSeeded := true } }

/-- In a locked state only consumer-4 instances serve (**R246**). -/
def lockedInstances (s : State) : State :=
  if s.tmp.locked then
    { s with ent := { s.ent with drbg := s.ent.drbg.map fun e => if e.2.consumer = 4 then e else (e.1, { e.2 with inst := false }) } }
  else s

/-- Steps 3-5: life cycle, source, image; the source runs first where the roll-forward draws the device secret (**R385**). -/
def startLoad (keep : Bool) (e : StartEnv) (s : State) : State :=
  let src := entropyStart e.badCells e.entKat keep
  let t := if rollNeedsDs s then startDecode (src s) else src (startDecode s)
  if t.lcs.state = .scrapped then stopScrapped t
  else
    let u := loadImage e (startUnits (seedMesh t))
    let v := if u.tmp.erased && u.kvt.vs.isNone && !u.kvt.unsealFail then unsealFailed u.img.slotActive u else u
    lockedInstances v

/-- The end of a start (**R442**): RUN, or READY with the conditions that hold it. -/
def endStart (s : State) : State :=
  let t := refreshHold { s with log := { s.log with size := if s.log.size = 0 then 0 else (region s 5).2 * 1048576 } }
  checkpoint (if t.pwr.runHold = 0 then tapForRun (reseedMasks (setPState .run (setSelfRefresh false t))) else setPState .ready t)

/-- Steps 6-9: the key vault in place, the link trained, the charger's first phase; a cluster member with stored domains waits
(**R441**). -/
def startFinish (cold : Bool) (s : State) : State :=
  let t1 := resumeRekey cold s
  let t2 := if cold then reloadStore t1 else releaseVolatile t1
  let t3 := recharge (trainLink t2)
  let t4 := if t3.pwr.profile.isNone then setFault 8 t3 else t3
  if t4.fab.reserveLocal.isEmpty then endStart t4 else t4

/-- A start of a cause (**R440**): the capacitor at its floor first, then a core that passes its test, then every step. -/
def start (cause old : Nat) (e : StartEnv) (s : State) : State :=
  if !e.capFloor && s.pwr.cap < 1600 then
    { s with pwr := { s.pwr with state := .starting, startRun := false, cause := cause, vinValid := true, lockout := false } }
  else
    let done := if s.tmp.killRunning then killSeeds { s with tmp := { s.tmp with killRunning := false, seedKilled := true } } else s
    let t := startWarden cause old e (startBase cause done)
    if !e.coreA && !e.coreB then loseWarden 4 t
    else
      let u := startLoad (e.retention && cause != 1) e t
      if u.lcs.state = .scrapped then u else startFinish (cause != 3) u

/-- A running burn of the tamper fuses completes on the capacitor (**R445** step 4). -/
def finishBurn (s : State) : State :=
  match s.tmp.fuseBusy with
  | some c => { s with
      lcs := { s.lcs with fuse := fuseBlow s.lcs.fuse (5504 + 2 * (c - 1)) 3 }, tmp := { s.tmp with fuseBusy := none, fuseResult := 0 } }
  | none => s

/-- VIN_VALID (**R440**, **R446**): starts the module from OFF or RESERVE, or goes on with a start whose capacitor was short; during
the sequence of a lockout it starts nothing. -/
def execVinValid (env : StartEnv) (s : State) : Res :=
  if s.pwr.lockout then .next { s with pwr := { s.pwr with vinValid := true } }
  else
    match s.pwr.state with
    | .off => .next (start 1 0 env s)
    | .reserve => .next (start 2 1 env s)
    | .starting =>
      if s.pwr.startRun then .next s
      else if s.pwr.cause = 2 then .next (start 2 1 env s) else if s.pwr.cause = 3 then .next (start 3 5 env s) else .next (start 1 0 env s)
    | _ => .next s

/-- MOD_RST_N (**R475**, **R490**, **R498**): low for `low` ns; below 1,000 it is ignored, from 10,000 on it takes effect, and between them
`taken` tells.  A running burn completes first, staged events are written out, and provisional changes are reversed (log entry 43). -/
def execModRstN (low : Nat) (taken : Bool) (env : StartEnv) (s : State) : Res :=
  if low < 1000 || (low < 10000 && !taken) || s.pwr.lockout || !onVin s || !s.pwr.startRun then .next s
  else
    let t := s.fab.prov.foldl (fun u p => reverseProv p u) (finishBurn s)
    .next (start 3 s.pwr.state.code env (if s.log.size = 0 then t else flushLog t))

/-- A domain of the store is LOCAL at its stored pennant, unless a higher one has been learned (**R362**). -/
def reloadDomain (d : Nat) (s : State) : State :=
  let p := tgetD s.kvt.storeDomains d 0
  let t : State := { s with fab := { s.fab with reserveLocal := s.fab.reserveLocal.filter (· != d) } }
  if p < (domainOf t d).pennant then t
  else { setDomain d { pennant := p, state := 1, owner := selfNode t } t with fab := { t.fab with own := tset t.fab.own d {} } }

/-- The module is in a start that a cluster member has not ended. -/
def waitsToEnd (s : State) : Bool := s.pwr.state == .starting && s.pwr.startRun && !s.wdn.lost && s.lcs.state != .scrapped && !s.pwr.lockout

/-- DOMAIN_RELOAD_LOCAL (**R362**, **R441**): the sessions have formed and every alive peer has sent a burgee. -/
def execDomainReloadLocal (domain : Nat) (s : State) : Res :=
  if !s.fab.reserveLocal.contains domain || !wardenUp s || s.kvt.vs.isNone then .next s
  else
    let t := reloadDomain domain s
    .next (if waitsToEnd t && t.fab.reserveLocal.isEmpty then endStart t else t)

/-- START_END_TIMEOUT (**R441**): the 3.0 s bound ends the start. -/
def execStartEndTimeout (s : State) : Res := if waitsToEnd s then .next (endStart s) else .next s

-- Loss of VIN and the reserve (R445, R407, R443, R447) -------------------------------------------------------------------------------------

/-- Steps 1-3 of **R445**: requests and commands lost, the power-fail clear, VIN_LOST, the core, link and vault-memory domains off. -/
def loseVin (high : Bool) (s : State) : State :=
  let t := dropApprovals (loseVault (clearKeys s))
  let u : State := { t with
    rqs := { t.rqs with queues := [], order := [], live := [], readyDrain := none }
    adm := { t.adm with backlog := [] }
    fab := { t.fab with sessions := [], hs := [], port0 := {}, port1 := {} }
    lcs := { t.lcs with waiting := none }
    tmp := { t.tmp with reserveAlarm := false }
    mgt := { t.mgt with held := [], running := none }
    pcie := { perst := t.pcie.perst }
    pwr := { t.pwr with vinValid := false, ovlo := t.pwr.ovlo || high, lockout := true, vinLost := t.mtime, phase := 0, iset := 0 } }
  noteFull u (logReserve 0xE02 [] u)

/-- VIN_LOCKOUT (**R433**, **R445**): below 8.5 V or above 62 V, the cell voltage and the highest junction temperature in degrees with
it; beyond an absolute maximum rating the behaviour is not defined (**R483**). -/
def execVinLockout (mv cellMv : Nat) (tempMax : Int) (s : State) : Res :=
  if 65000 < mv ∨ 4500 < cellMv ∨ 125 < tempMax then .fault .beyondAbsoluteMaximum
  else if 8500 ≤ mv ∧ mv ≤ 62000 then .next s
  else
    let t : State := { s with pwr := { s.pwr with vinMv := mv, cellMv := cellMv } }
    if s.pwr.state = .off ∨ s.pwr.state = .reserve ∨ s.pwr.lockout = true then
      .next { t with pwr := { t.pwr with vinValid := false, ovlo := t.pwr.ovlo || decide (62000 < mv) } }
    else .next (loseVin (decide (62000 < mv)) t)

/-- RESERVE_ENTRY (**R445** step 4): the running burn completes, and the module is in RESERVE. -/
def execReserveEntry (s : State) : Res :=
  if !s.pwr.lockout then .next s
  else
    let t := finishBurn s
    let u := logReserve 0xE01 [BitVec.ofNat 8 t.pwr.state.code, 1] t
    .next { u with frac := 0, pwr := { u.pwr with state := .reserve, lockout := false, startRun := false } }

/-- The cut-off of the reserve profile, or 2,500 mV (**R407**). -/
def cutoffMv (s : State) : Nat := match s.pwr.profile with | some p => p.cutoff | none => 2500

/-- RESERVE_EXHAUSTION (**R407**, **R454**): the ERASE_LOCK with its seed kill from the capacitor, and OFF, which the retention does
not survive. -/
def execReserveExhaustion (cellMv : Nat) (s : State) : Res :=
  if s.pwr.state ≠ .reserve ∨ cutoffMv s ≤ cellMv then .next s
  else
    let t := killSeeds (exhaustReserve cellMv s)
    .next { t with
      tmp := { t.tmp with killRunning := false, seedKilled := true }
      log := { t.log with rsv := [], rsvUsed := 0, rsvFull := false, rsvNext := 0, rsvDropped := 0 }
      wdn := { t.wdn with ckptValid := false }
      pwr := { t.pwr with state := .off, cellMv := cellMv, cap := 0, qest := if 1500 ≤ cellMv then t.pwr.sinceDone else t.pwr.qest } }

/-- CAP_FLOOR_REACHED (**R443**). -/
def execCapFloorReached (s : State) : Res :=
  .next (if s.pwr.vinValid then { s with pwr := { s.pwr with cap := max s.pwr.cap 1600 } } else s)

/-- CAP_FULL_REACHED's effect (**R443**, **R384**). -/
def capFullReached (s : State) : State :=
  if s.pwr.vinValid then chargeFull { s with pwr := { s.pwr with cap := max s.pwr.cap 4400 } } else s

/-- Time passes (**R447**, log entry 2): one nanosecond, or in RESERVE one step of the always-on counter; none in OFF. -/
def idle (s : State) : State :=
  match s.pwr.state with
  | .off => s
  | .reserve =>
    let n := s.frac + 3906250
    { s with mtime := (s.mtime + n / 128) % 2 ^ 64, frac := n % 128 }
  | _ => { s with mtime := (s.mtime + 1) % 2 ^ 64 }

end Sys2Proof.Machine
end

