-- ==== Sys2Proof/Machine/Flags.lean ====
section
/-! DEFINITION. The status words: the value that each register of the BAR0 windows reads (**R11**, **R13** and the
register tables of the chapters), the high-word latch of 64-bit registers, and the levels of the output pins (**R489**). -/

namespace Sys2Proof.Machine

-- Words out of fields ---------------------------------------------------------------------------------------------

/-- A word from (lowest bit, value) pairs whose fields do not overlap; a value fits its field. -/
def wordOf (l : List (Nat × Nat)) : Nat := l.foldl (fun n f => n + f.2 * 2 ^ f.1) 0

/-- A mask with bit *i* where `p i` holds, of `n` bits. -/
def maskOf (n : Nat) (p : Nat → Bool) : Nat := (List.range n).foldl (fun m i => m + (if p i then 2 ^ i else 0)) 0

/-- Word *k* of a byte string, least significant byte first. -/
def byteWord (b : Bytes) (k : Nat) : Nat := leNat (bytesAt b (4 * k) 4)

/-- Low and high word of the 64-bit register at `base`. -/
def half (base o v : Nat) : Nat := if o = base then v % 2 ^ 32 else v / 2 ^ 32 % 2 ^ 32

-- The windows -----------------------------------------------------------------------------------------------------

/-- MGT_STATUS (**R469**). -/
def mgtStatus (s : State) : Nat :=
  let m := s.mgt
  wordOf [(21, heldCount s), (20, b2n m.overrun), (19, b2n (m.path == .smbus)), (17, b2n m.done), (16, b2n m.running.isSome), (0, m.status)]

/-- Bytes of a descriptor as MGT_DESC0-15 show them. -/
def descWords (d : Desc) : Bytes := d.bytes

/-- MGT_ registers (**R469**). -/
def mgtReg (s : State) (o : Nat) : Nat :=
  let m := s.mgt
  if 0x8000 ≤ o then leNat (cellsRead m.buf (o - 0x8000) 4)
  else if 0x40 ≤ o ∧ o < 0x80 then byteWord (descWords m.desc) ((o - 0x40) / 4)
  else
    match o with
    | 0x00 => 0x72600100
    | 0x04 => mgtStatus s
    | 0x08 => m.cmd.toNat
    | 0x0C => m.detail
    | 0x10 => m.outLen
    | 0x14 => m.doneCode.toNat
    | 0x18 => wordOf [(9, b2n s.pcie.secure), (8, b2n ((mgtFlags s).getLsbD 3)), (4, s.pcie.width), (0, s.pcie.speed)]
    | 0x20 => m.irq.toNat
    | 0x24 => m.irqEnable.toNat
    | 0x30 | 0x34 => half 0x30 o s.mtime
    | _ => 0

/-- IMG_ registers (**R62**-**R64**). -/
def imgReg (s : State) (o : Nat) : Nat :=
  let i := s.img
  let fromCfg := fun (f : ImageCfg → Nat) => match i.cfg with | some c => f c | none => 0
  if 0x20 ≤ o ∧ o < 0x50 then fromCfg fun c => byteWord c.measure ((o - 0x20) / 4)
  else
    match o with
    | 0x00 => wordOf [(4, b2n i.busy), (3, b2n i.staged), (2, b2n i.fallback), (1, b2n i.slotActive), (0, b2n i.cfg.isSome)]
    | 0x04 => rejectWord s
    | 0x08 => fromCfg fun c => c.level
    | 0x0C => fromCfg fun c => c.minor
    | 0x10 => (rollFloor s).1
    | 0x14 => (rollFloor s).2
    | 0x18 => otpLevel s
    | _ => 0

/-- PARK_PENDING (**R104**, **R114**): a raise has reduced a reservation and its requests have not all completed. -/
def parkPending (s : State) : Bool := s.adm.parkBefore.isSome

/-- ADM_ registers (**R114**). -/
def admReg (s : State) (o : Nat) : Nat :=
  let a := s.adm
  let pool := fun (p : Nat) =>
    let resv := match s.img.cfg with
      | some c => if p = 8 then 1 else (c.pools.getD (p - 1) {}).reserve
      | none => tgetD a.poolRwi (p - 1) 0
    wordOf [(24, resv), (16, if p = 8 then 1 else reservedPresent s p), (8, liveCount s p), (0, if p = 8 then 0 else sharedActive s p)]
  if 0x20 ≤ o ∧ o < 0x40 then pool ((o - 0x20) / 4 + 1)
  else if 0x40 ≤ o ∧ o < 0x60 then cyclesNs (backlogOf s ((o - 0x40) / 4 + 1))
  else
    match o with
    | 0x00 => wordOf [(4, a.throttle), (3, b2n (parkPending s)), (2, b2n ([1, 2, 3, 4, 5, 6, 7].any fun p => (sparesLeft s p).isEmpty)),
        (1, b2n ((blockedInst s 1).isSome || (blockedInst s 3).isSome)), (0, b2n (armed s))]
    | 0x04 => ensignCap s
    | 0x08 => ensignBurst s
    | 0x0C => min (admWait s) (2 ^ 32 - 1)
    | 0x10 => admFit s
    | 0x14 => match s.img.cfg with | some c => c.te | none => a.teRwi.toNat
    | 0x60 => a.refBudget
    | 0x64 => a.refCapacity
    | 0x68 => a.refRng
    | 0x6C => a.refState
    | 0x70 => a.refPath
    | 0x78 | 0x7C => half 0x78 o a.admitted
    | _ => 0

/-- SLC_ registers (**R325**). -/
def slcReg (s : State) (o : Nat) : Nat :=
  let n := o / 4 % 256
  if o < 0x400 then wordOf [(16, queueMask (queueNumbers s n)), (3, b2n (slice s n).resetDone), (0, (slice s n).state.code)]
  else if o < 0x800 then (slice s n).qerr.toNat
  else if o < 0xC00 then queueMask (pausedQueues s n)
  else
    match o with
    | 0xC00 => wordOf [(31, b2n s.mgt.pasidSeen), (20, s.mgt.pasidPage), (0, s.mgt.pasidPasid)]
    | 0xC04 => s.mgt.pasidCount
    | _ => 0

/-- LKU_ registers (**R274**); LKU_CMD is write-only. -/
def lkuReg (s : State) (o : Nat) : Nat :=
  let l := s.lku
  if 0x10 ≤ o ∧ o < 0x30 then (l.data.getD ((o - 0x10) / 4) 0).toNat
  else
    match o with
    | 0x00 => wordOf [(7, b2n l.trieFault), (6, b2n l.stashHigh), (2, b2n l.batch), (1, b2n l.done), (0, b2n l.busy)]
    | 0x08 => l.result
    | 0x30 | 0x34 => half 0x30 o l.batchAddr.toNat
    | 0x38 => l.batchCount
    | 0x3C => l.batchDone
    | 0x40 => l.batchFailed
    | 0x48 => emBuckets s
    | 0x4C => l.em.length + l.stash.length
    | 0x50 => l.stash.length
    | 0x54 => 1 + l.nodes.length + l.freeing.length
    | 0x58 => l.prefixes
    | 0x5C => l.learned
    | 0x60 => l.ignored
    | 0x64 => l.tableFull
    | 0x68 => wordOf [(16, l.scrubCorr), (0, l.scrubUnc)]
    | _ => 0

/-- Domains LOCAL: in a standalone module every domain not listed is LOCAL (**R258**). -/
def localCount (s : State) : Nat :=
  let n := (s.lku.domains.filter fun e => e.2.state == 1).length
  if standalone s then 65536 - (s.lku.domains.length - n) else n

/-- FAB_ registers (**R306**). -/
def fabReg (s : State) (o : Nat) : Nat :=
  let f := s.fab
  let port := fun (p : Nat) =>
    let x := portOf s p
    wordOf [(16, x.fec), (4, if s.img.cfg.isSome then portMode s p else x.modeRwi), (3, b2n x.paused), (1, b2n x.pcs), (0, b2n x.link)]
  let peers := fun (n : Nat) => (s.lku.peers.filter fun e => e.2.state == n).length
  let cluster := if s.img.cfg.isSome then (clusterId s).toNat else f.clusterRwi.toNat
  let certField := fun (g : Cert → Nat) => match f.cert with | some c => g c | none => 0
  match o with
  | 0x00 => wordOf [(10, b2n f.conflict), (9, b2n f.cert.isSome), (8, b2n f.ptpLocked), (6, f.nodeSource), (3, b2n f.port1.link),
      (2, b2n f.port0.link), (1, b2n (cluster != 0))]
  | 0x04 => wordOf [(15, b2n f.nodeId.isSome), (0, f.nodeId.getD 0)]
  | 0x08 | 0x0C => half 0x08 o cluster
  | 0x10 => if s.img.cfg.isSome then (fabCfg s).hop else f.hopRwi.toNat
  | 0x14 => twos 32 f.ptpOffset
  | 0x18 => port 0
  | 0x1C => port 1
  | 0x20 => wordOf [(16, peers 2), (0, peers 1)]
  | 0x24 => wordOf [(16, sessionCount s true), (0, sessionCount s false)]
  | 0x28 => localCount s
  | 0x2C => (s.lku.domains.filter fun e => e.2.sby && some e.2.standby == f.nodeId).length
  | 0x30 => fwdInUse s
  | 0x38 | 0x3C => half 0x38 o f.fwdSent
  | 0x40 => f.fwdLate
  | 0x44 => f.fwdLost
  | 0x48 => f.retx
  | 0x4C => f.authDrop
  | 0x50 => f.drop
  | 0x54 => wordOf [(24, f.rejReason), (0, f.rejCount)]
  | 0x58 => f.event.toNat
  | 0x60 | 0x64 => half 0x60 o (certField fun c => c.serial.toNat)
  | 0x68 | 0x6C => half 0x68 o (certField fun c => c.notAfter)
  | _ => 0

/-- The word of a FaultReg. -/
def faultWord (f : FaultReg) : Nat := wordOf [(24, f.katFails), (16, f.checkFails), (8, f.lastUnit), (0, f.lastCause)]

/-- Logical units of a pool that hold an operation in either context, or in context 0. -/
def busyMask (s : State) (p n : Nat) (both : Bool) : Nat :=
  maskOf n fun l => let u := unitOf s p l; u.ctx0.isSome || (both && u.ctx1.isSome)

/-- Dedicated units of a pool. -/
def dedicatedMask (s : State) (p n : Nat) : Nat := maskOf n fun l => unitKind s p l == 2

/-- ENG_ registers (**R169**, **R197**, **R230**). -/
def engReg (s : State) (o : Nat) : Nat :=
  let e := s.eng
  match o with
  | 0x100 => wordOf [(16, 1), (0, e.aesLate.toNat)]
  | 0x108 | 0x10C => half 0x108 o e.aesBlocks
  | 0x110 | 0x114 => half 0x110 o e.tdeaBlocks
  | 0x118 | 0x11C => half 0x118 o e.digestComp
  | 0x120 | 0x124 => half 0x120 o e.keccakPerm
  | 0x128 => wordOf [(16, e.cdLastPool), (8, e.cdLastUnit), (0, e.cdFails)]
  | 0x200 => busyMask s 5 32 true
  | 0x204 => busyMask s 5 32 false
  | 0x208 => dedicatedMask s 5 32
  | 0x210 | 0x214 => half 0x210 o e.oryxOps
  | 0x218 => e.oryxRejected
  | 0x21C => faultWord e.oryxFault
  | 0x220 => (s.rqs.live.filter fun r => r.phase == .blindWait).length % 65536
  | 0x224 => e.aborts
  | 0x300 => busyMask s 6 16 true
  | 0x304 => busyMask s 6 16 false
  | 0x308 => wordOf [(16, 1), (0, e.mkhLate.toNat)]
  | 0x310 | 0x314 => half 0x310 o e.mkhOps
  | 0x318 => e.mldsaLimit
  | 0x31C => faultWord e.mkhFault
  | 0x320 => busyMask s 7 4 true
  | 0x324 => dedicatedMask s 7 4
  | 0x328 | 0x32C => half 0x328 o e.codeOps
  | 0x330 => faultWord e.codeFault
  | 0x338 | 0x33C => half 0x338 o e.burned
  | 0x340 => e.statefulWait
  | 0x344 => (region s 3).2 - (largeUsed s + 16383) / 16384
  | _ => 0

/-- ENT_DRBG (**R249**). -/
def drbgWord (x : Drbg) : Nat :=
  wordOf [(29, x.consumer), (28, b2n x.inst), (27, b2n x.due), (26, b2n (hardStop ≤ x.calls)), (0, x.calls)]

/-- ENT_ registers (**R249**); ENT_RAW_DATA's read is `rawPop`. -/
def entReg (s : State) (o : Nat) : Nat :=
  let e := s.ent
  if 0x100 ≤ o ∧ o < 0x200 then
    let c := tgetD e.cells ((o - 0x100) / 4) {}
    wordOf [(30, c.state), (24, c.trim), (0, c.fails)]
  else if 0x200 ≤ o ∧ o < 0x280 then
    let x := drbgOf s ((o - 0x200) / 8)
    if o % 8 = 0 then drbgWord x else x.committed
  else
    match o with
    | 0x00 => wordOf [(8, healthyCount s), (3, b2n e.sourceFail), (2, b2n e.capture), (1, b2n e.startupDone)]
    | 0x04 => if s.img.cfg.isSome then wordOf [(16, e.minCells), (8, e.threshold), (0, e.cond)] else e.rwiPolicy.toNat
    | 0x08 => if s.img.cfg.isSome then e.interval else e.rwiInterval.toNat
    | 0x10 | 0x14 => half 0x10 o e.credit
    | 0x18 | 0x1C => half 0x18 o e.reseeds
    | 0x30 => wordOf [(16, b2n e.overrun), (15, b2n (!e.buffer.isEmpty)), (8, e.captureCell), (0, b2n e.capture)]
    | 0x34 => (e.buffer.headD 0).toNat
    | _ => 0

/-- Bits of the MPU region words that carry fields (**R351**). -/
def mpuMask (k : Nat) : BitVec 32 := [0xFFFFF000, 0xFF, 0xFF00003F, 0x8FFF013F].getD k 0

/-- MPU region words (**R345**, **R351**): the Warden's own placing for the plan in force (log entry 29). -/
def mpuReg (s : State) (o : Nat) : Nat :=
  let m := o / 0x100
  match s.mem.mpuPlan with
  | some plan => if m ≤ 0x35 then (Config.mpuWord plan m (o / 16 % 16) (o / 4 % 4) &&& mpuMask (o / 4 % 4)).toNat else 0
  | none => 0

/-- Of the two spares of a scratchpad bank that the field may assign (**R333**, **R392**): assigned, left. -/
def bankSpares (s : State) (bank : Nat) : Nat × Nat :=
  let used := fun (k : Nat) => fuseField s.lcs.fuse (spareFuse bank k) 8 != 0
  (b2n (used 2) + b2n (used 3), b2n (!used 2) + b2n (!used 3))

/-- MEM_SP_SPARE's FIELD and LEFT over all banks. -/
def spareCounts (s : State) : Nat × Nat :=
  (List.range 128).foldl (fun a b => let x := bankSpares s b; (a.1 + x.1, min a.2 x.2)) (0, 2)

/-- MEM_ and MPU_ registers (**R350**, **R351**). -/
def memReg (s : State) (o : Nat) : Nat :=
  let m := s.mem
  if 0x4000 ≤ o then mpuReg s (o - 0x4000)
  else
    match o with
    | 0x00 => wordOf [(5, b2n m.remapFull), (4, b2n s.kvt.rekey.isSome), (3, b2n m.formatting), (2, b2n m.selfRefresh),
        (1, b2n (s.pwr.state == .run && m.trained && !m.selfRefresh)), (0, b2n m.trained)]
    | 0x04 => m.scrub
    | 0x08 => m.passes
    | 0x10 => m.vaultCe
    | 0x14 => m.vaultUe
    | 0x18 | 0x1C => half 0x18 o (wordOf [(60, m.lastSymbols), (58, m.lastKind), (48, m.lastColour), (45, m.lastRegion), (0, m.lastLine)])
    | 0x20 => wordOf [(16, m.pprDone), (0, m.remap.length)]
    | 0x30 => m.spCe
    | 0x34 => m.spUe
    | 0x38 => wordOf [(31, b2n m.spLastUe), (0, m.spLastWord)]
    | 0x3C => let c := spareCounts s; wordOf [(16, m.spPending.length % 256), (8, c.1 % 256), (0, c.2)]
    | 0x100 | 0x104 => half 0x100 o (wordOf [(58, m.faultMaster), (56, m.faultKind), (40, m.faultColour), (0, m.faultAddr)])
    | 0x108 => m.faultCount
    | 0x10C => m.debugDenied
    | 0x110 => m.writeStatus
    | _ => 0

/-- KVT_ registers (**R376**). -/
def kvtReg (s : State) (o : Nat) : Nat :=
  let k := s.kvt
  if 0x10 ≤ o ∧ o < 0x30 then byteWord k.idFpr ((o - 0x10) / 4)
  else if 0x30 ≤ o ∧ o < 0x50 then byteWord (k.ownerFpr.getD []) ((o - 0x30) / 4)
  else if 0x50 ≤ o ∧ o < 0x80 then byteWord k.fw.mW ((o - 0x50) / 4)
  else if 0x80 ≤ o ∧ o < 0xB0 then byteWord k.fw.mU ((o - 0x80) / 4)
  else
    match o with
    | 0x00 => wordOf [(6, b2n k.storeFull), (5, b2n k.reseal.isSome), (4, b2n k.rekey.isSome), (3, b2n k.unsealFail),
        (2, b2n k.vs.isSome), (1, b2n k.ownerFpr.isSome), (0, b2n k.identity)]
    | 0xB0 => k.fw.version
    | 0xB4 => k.rekeyLine
    | 0xB8 => (storeUsed s + 1023) / 1024
    | 0xBC => k.roster.length
    | 0xC0 | 0xC4 => half 0xC0 o k.rosterSerial
    | 0xC8 | 0xCC => half 0xC8 o k.hits
    | 0xD0 | 0xD4 => half 0xD0 o k.misses
    | _ => 0

/-- LCS_ registers (**R394**); words 11-27 of the fuse array, the DS rows, read as zero. -/
def lcsReg (s : State) (o : Nat) : Nat :=
  let l := s.lcs
  let copy := fun (i : Nat) => if l.decoded then copyWord s i else 0
  match o with
  | 0x00 => wordOf [(17, b2n l.mismatch), (16, b2n l.rolled), (12, l.copyC), (8, l.copyB), (4, l.copyA), (0, l.state.code)]
  | 0x04 => copy 0
  | 0x08 => copy 1
  | 0x0C => copy 2
  | 0x10 => wordOf [(4, maskOf 4 (intentPartial s)), (0, maskOf 4 (intentComplete s))]
  | 0x14 => wordOf [(8, l.xresult), (4, l.xtarget), (0, b2n l.waiting.isSome)]
  | 0x18 => wordOf [(3, b2n (captureState s)), (2, b2n ((l.state == .maker || l.state == .integrator) && !s.tmp.locked)), (0, l.scope.toNat)]
  | 0x20 => l.fuseAddr.toNat
  | 0x24 => if 11 ≤ l.fuseAddr.toNat ∧ l.fuseAddr.toNat ≤ 27 then 0 else fuseField l.fuse (32 * l.fuseAddr.toNat) 32
  | 0x28 => l.dbgFail
  | _ => 0

/-- TMP_ registers (**R411**); TMP_FUSE_CMD is write-only. -/
def tmpReg (s : State) (o : Nat) : Nat :=
  let t := s.tmp
  let loaded := s.img.cfg.isSome
  let win := fun (n : Nat) =>
    if loaded then (let w := tgetD t.loopWin n (0, 0); wordOf [(16, w.2), (0, w.1)]) else (tgetD t.rwiLoopWin n 0).toNat
  let partFuse := fun (i : Nat) => let f := fuseField s.lcs.fuse (5504 + 2 * i) 2; f == 1 || f == 2
  if 0x18 ≤ o ∧ o < 0x28 then win ((o - 0x18) / 4)
  else if 0x28 ≤ o ∧ o < 0x38 then tgetD t.loopR ((o - 0x28) / 4) 0
  else if 0x40 ≤ o ∧ o < 0x50 then twos 16 (t.temps.getD ((o - 0x40) / 4) 0)
  else if 0x50 ≤ o ∧ o < 0x68 then tgetD t.volts ((o - 0x50) / 4) 0
  else
    match o with
    | 0x00 => wordOf [(7, b2n t.reserveAlarm), (6, b2n t.exhausted), (5, b2n t.seedKilled), (4, b2n t.erased), (3, b2n t.locked)]
    | 0x04 => t.lockSeq
    | 0x08 => t.active.toNat
    | 0x0C => t.latched.toNat
    | 0x10 => (if loaded then t.response else t.rwiResponse).toNat
    | 0x14 => (if loaded then t.loopEn else t.rwiLoopEn).toNat
    | 0x70 => wordOf [(8, t.meshFaults), (0, t.meshTrace)]
    | 0x74 => wordOf [(8, maskOf 7 partFuse), (0, tmpDisabled s)]
    | 0x7C => wordOf [(8, b2n t.fuseBusy.isSome), (0, t.fuseResult)]
    | 0x80 => t.shadow
    | 0x88 | 0x8C => half 0x88 o t.lastAlarm
    | 0x90 => t.alarms
    | _ => 0

/-- WDN_UNITS (**R430**): the logical units present of a pool. -/
def unitsMask (s : State) (p : Nat) : Nat := maskOf (enabledCount p) fun l => (unitOf s p l).present

/-- WDN_ registers (**R430**). -/
def wdnReg (s : State) (o : Nat) : Nat :=
  let w := s.wdn
  if 0x80 ≤ o ∧ o < 0xB8 then half 0 (o % 8) (unitsMask s ((o - 0x80) / 8 + 1))
  else if 0x10 ≤ o ∧ o < 0x20 then tgetD w.stage ((o - 0x10) / 4) 0
  else
    match o with
    | 0x00 => wordOf [(8, w.failovers), (5, b2n w.bRetired), (4, b2n w.aRetired), (3, b2n w.standby), (2, b2n w.ckptValid), (0, b2n w.activeB)]
    | 0x04 => w.pennant
    | 0x20 => w.ckptSeq
    | 0x28 | 0x2C => half 0x28 o w.ckptTime
    | 0x30 => wordOf [(8, w.lastCause), (0, b2n w.lastFailed)]
    | 0x38 | 0x3C => half 0x38 o w.failTime
    | 0x40 => w.ignored
    | 0x44 => wordOf ([1, 2, 3, 4, 5, 6, 7].map fun p => (4 * p - 4, (sparesLeft s p).length))
    | _ => 0

/-- LOG_ registers (**R431**). -/
def logReg (s : State) (o : Nat) : Nat :=
  let l := s.log
  if 0x1000 ≤ o ∧ o < 0x1810 then (match l.window with | some r => byteWord r.bytes ((o - 0x1000) / 4) | none => 0)
  else
    match o with
    | 0x00 => wordOf [(2, b2n l.rsvFull), (1, b2n l.full), (0, b2n l.clearing)]
    | 0x04 => l.size
    | 0x08 => l.used
    | 0x0C => (match l.main.getLast? with | some r => r.seqNo | none => l.next)
    | 0x10 => l.next
    | 0x14 => l.dropped
    | 0x18 => l.rsvUsed
    | 0x1C => l.rsvNext
    | 0x20 => l.rsvDropped
    | 0x40 => wordOf [(31, b2n l.selRsv), (0, l.selSeq)]
    | 0x44 => wordOf [(31, b2n (l.window.isSome && !l.selBusy)), (30, b2n l.selBusy),
        (0, match l.window with | some r => r.bytes.length / 4 | none => 0)]
    | _ => 0

/-- The coulomb counter's charge in uAh (log entry 19). -/
def uAh (n : Nat) : Nat := n / 3600

/-- State of charge in per cent (**R454**). -/
def socOf (w : Pwr) : Nat := if w.qest = 0 then 0 else min 100 (w.remain * 100 / w.qest)

/-- The bytes of a reserve profile (**R47**). -/
def Profile.bytes (p : Profile) : Bytes :=
  fit 32 (leBytes 2 p.chemistry ++ leBytes 2 p.rated ++ leBytes 2 p.maxCharge ++ leBytes 2 p.cv ++ leBytes 2 p.cutoff ++
    [BitVec.ofNat 8 p.tLow, BitVec.ofNat 8 p.tHigh] ++ leBytes 2 p.ntcR25 ++ leBytes 2 p.ntcBeta ++ leBytes 2 p.term)

/-- PWR_ registers (**R458**); while no image is loaded PWR_PROFILE shows a word written over the profile in force. -/
def pwrReg (s : State) (o : Nat) : Nat :=
  let w := s.pwr
  if 0x40 ≤ o ∧ o < 0x60 then
    let k := (o - 0x40) / 4
    match s.img.cfg, tget? w.rwiProfile k with
    | none, some v => v.toNat
    | _, _ => (match w.profile with | some p => byteWord p.bytes k | none => 0)
  else
    match o with
    | 0x00 => wordOf [(19, w.runHold.toNat), (16, w.cause), (11, b2n (capFull s)), (10, b2n (1600 ≤ w.cap)), (9, b2n w.ovlo),
        (8, b2n w.vinValid), (0, w.state.code)]
    | 0x04 => wordOf [(16, w.power), (0, w.vinMv)]
    | 0x08 => w.cap
    | 0x0C => wordOf [(16, w.cellMv), (0, twos 16 w.cellTemp)]
    | 0x10 => twos 32 w.cellUa
    | 0x14 => wordOf [(12, w.iset), (8, w.steps), (0, w.phase)]
    | 0x18 => w.fault.toNat
    | 0x1C => uAh w.remain
    | 0x20 => uAh w.qest
    | 0x24 => wordOf [(16, min w.cycles 65535), (0, socOf w)]
    | 0x28 => uAh w.remain / 35
    | 0x2C => w.reserveTime
    | 0x30 | 0x34 => half 0x30 o w.vinLost
    | _ => 0

/-- The entry that MTR_SEL selects (**R325**): the open interval with sequence 0, or the ring entry of an age. -/
def mtrEntry (s : State) : Option RingEntry :=
  let x := slice s s.mgt.mtrSlice
  if s.mgt.mtrCurrent then some { x.meter with seqNo := 0 } else x.ring[s.mgt.mtrAge]?

/-- MTR_ registers (**R325**). -/
def mtrReg (s : State) (o : Nat) : Nat :=
  if 0x100 ≤ o ∧ o < 0x240 then (match mtrEntry s with | some e => byteWord e.bytes ((o - 0x100) / 4) | none => 0)
  else
    match o with
    | 0x00 => wordOf [(16, b2n s.mgt.mtrCurrent), (8, s.mgt.mtrSlice), (0, s.mgt.mtrAge)]
    | 0x08 | 0x0C => half 0x08 o s.mgt.mtrLast
    | _ => 0

/-- The word at an offset of BAR0, the offset a multiple of 4; outside every map, zero (**R11**, **R462**). -/
def regWord (off : Nat) (s : State) : Word :=
  let o := off % 65536
  BitVec.ofNat 32 (match off / 65536 with
    | 0x00 => mgtReg s o
    | 0x01 => imgReg s o
    | 0x02 => admReg s o
    | 0x03 => slcReg s o
    | 0x04 => lkuReg s o
    | 0x05 => fabReg s o
    | 0x06 => engReg s o
    | 0x07 => entReg s o
    | 0x08 => memReg s o
    | 0x09 => kvtReg s o
    | 0x0A => lcsReg s o
    | 0x0B => tmpReg s o
    | 0x0C => wdnReg s o
    | 0x0D => logReg s o
    | 0x0E => pwrReg s o
    | 0x0F => mtrReg s o
    | _ => 0)

-- Reads -------------------------------------------------------------------------------------------------------------

/-- Offsets of the low words of the 64-bit registers. -/
def wideLow : List Nat :=
  [0x000030, 0x020078, 0x040030, 0x050008, 0x050038, 0x050060, 0x050068, 0x060108, 0x060110, 0x060118, 0x060120, 0x060210, 0x060310,
   0x060328, 0x060338, 0x070010, 0x070018, 0x080018, 0x080100, 0x0900C0, 0x0900C8, 0x0900D0] ++
  [0x0B0088, 0x0C0028, 0x0C0038, 0x0C0080, 0x0C0088, 0x0C0090, 0x0C0098, 0x0C00A0, 0x0C00A8, 0x0C00B0, 0x0E0030, 0x0F0008]

/-- The high-word latch of a path. -/
def latchOf (p : MPath) (m : Mgt) : Option (Nat × Word) := match p with | .bar0 => m.latchBar0 | .smbus => m.latchSmbus

/-- The high-word latch of a path written. -/
def setLatch (p : MPath) (x : Option (Nat × Word)) (s : State) : State :=
  match p with
  | .bar0 => { s with mgt := { s.mgt with latchBar0 := x } }
  | .smbus => { s with mgt := { s.mgt with latchSmbus := x } }

/-- A read of the 32-bit word at an aligned offset (**R11**): the low word of a 64-bit register latches its high word for the
next read of that register through the same path; ENT_RAW_DATA gives up its oldest word (**R247**). -/
def readReg (p : MPath) (off : Nat) (s : State) : Word × State :=
  if off = 0x070034 then rawPop s
  else if wideLow.contains off then (regWord off s, setLatch p (some (off, regWord (off + 4) s)) s)
  else
    match latchOf p s.mgt with
    | some (o, w) => if o + 4 = off then (w, setLatch p none s) else (regWord off s, s)
    | none => (regWord off s, s)

-- Output pins (R489) --------------------------------------------------------------------------------------------------

/-- A pin's level. -/
inductive Level where
  | low | high | z
  deriving DecidableEq, Repr

/-- The outputs of **R489**. -/
structure Pins where
  /-- READY_OUT. -/
  readyOut : Level
  /-- RUN_OUT. -/
  runOut : Level
  /-- ALARM_N, active low. -/
  alarmN : Level
  /-- CELL_FAULT_N, active low. -/
  cellFaultN : Level
  /-- GPIO0-3. -/
  gpio : List Level
  deriving DecidableEq, Repr

/-- A driven level. -/
def level (b : Bool) : Level := if b then .high else .low

/-- Whether the alarm domains are powered. -/
def alarmsPowered (s : State) : Bool := s.pwr.state != .off

/-- A GPIO of a function (**R49**, **R489**): 0 none, 1 THROTTLE, 2 ENGINE_RETIRED, 3 LOG_FULL, 4 LOCKED. -/
def gpioLevel (s : State) (f : Nat) : Level :=
  match f with
  | 1 => level (s.adm.throttle != 0)
  | 2 => level (s.mgt.irq.getLsbD 2)
  | 3 => level s.log.full
  | 4 => level s.tmp.locked
  | _ => .z

/-- The levels that the module drives (**R489**). -/
def pins (s : State) : Pins :=
  let off := s.pwr.state == .off
  let host := !off && s.pwr.state != .reserve
  { readyOut := if !host then .z else level (s.pwr.state == .ready || s.pwr.state == .run)
    runOut := if !host then .z else level (s.pwr.state == .run)
    alarmN := if alarmsPowered s then level (!s.tmp.locked) else .z
    cellFaultN := if alarmsPowered s then level (s.pwr.fault == 0) else .z
    gpio := [0, 1, 2, 3].map fun i =>
      match s.img.cfg with
      | some c => if host then gpioLevel s (c.gpio.getD i 0) else .z
      | none => .z }

end Sys2Proof.Machine
end

