-- ==== Sys2Proof/Machine/Mgmt.lean ====
section
/-! DEFINITION. The Warden's mailbox at work (**R89**, **R421**, **R466**): which management command runs, where it is refused, what it
does, and the events that let a waiting command complete.  One meaning for each management row. -/

namespace Sys2Proof.Machine

/-- The checks of a descriptor's fields that need no input. -/
def mgtFieldBad (d : Desc) (s : State) : Check :=
  match d.code with
  | 0x6002 => stageBad d s
  | 0x6004 => queueCreateBad d s
  | 0x6017 => abortBad d s
  | _ => none

/-- The checks of a command's input layout. -/
def mgtInputBad (d : Desc) (inp : Bytes) (s : State) : Check :=
  match d.code with
  | 0x6008 => saveBad d inp
  | 0x6009 => restoreBad d inp
  | 0x6010 => enrolBad d inp
  | 0x6012 => resealBad d inp
  | 0x6014 => custBad d inp
  | 0x6015 => membershipBad inp s
  | 0x6016 => domainBad d inp
  | _ => none

/-- The power state and the life-cycle state accept the command (**R89**, **R381**). -/
def mgtAccepted (d : Desc) (s : State) : Bool :=
  (match mgtRow s d with | some r => r.states.contains s.pwr.state | none => false) &&
  (s.lcs.state != .invalid || d.code == 0x600F)

/-- A command whose checks have passed runs. -/
def mgtRun (path : MPath) (d : Desc) (env : LaunchEnv) (inp : Bytes) (s : State) : Ran :=
  match d.code with
  | 0x6001 => powerRun path d env s
  | 0x6002 => imageStageRun d env inp s
  | 0x6003 => let x := imageActivateRun env s; (x.1, recharge x.2)
  | 0x6004 => queueCreateRun d s
  | 0x6005 => queueDeleteRun d s
  | 0x6006 => sliceResetRun path d s
  | 0x6007 => sliceFreezeRun path d s
  | 0x6008 => sliceSaveRun d env inp s
  | 0x6009 => sliceRestoreRun d inp s
  | 0x600A => okCmd (latchAll 2 s)
  | 0x600B => logClearRun d inp s
  | 0x600C => switchbackRun s
  | 0x600D => unlockRun d env inp s
  | 0x600E => lifecycleRun path d env inp s
  | 0x600F => scrapRun path env s
  | 0x6010 => ownerEnrolRun d env inp s
  | 0x6011 => identityAttestRun inp s
  | 0x6012 => vaultResealRun d env inp s
  | 0x6013 => vaultRekeyRun path s
  | 0x6014 => custodianRun d env inp s
  | 0x6015 => membershipRun env inp s
  | 0x6016 => domainRun path d env inp s
  | 0x6017 => engineAbortRun d s
  | _ => failCmd stUnknown 0 s

/-- A command that a state refuses; an image command notes it in IMG_REJECT (**R51**). -/
def mgtRefuse (d : Desc) (s : State) : Ran :=
  let t := if d.code = 0x6002 ∨ d.code = 0x6003 then
      (match imageRefused d s with | some c => setReject { code := c, sec := 0, off := 0 } s | none => s)
    else s
  (some (refusedState t), t)

/-- A command refused before it runs. -/
def mgtTurnedAway (d : Desc) (s : State) : Bool :=
  !mgtAccepted d s || ((d.code == 0x6002 || d.code == 0x6003) && (imageRefused d s).isSome)

/-- The command at the head of the mailbox: checks of the descriptor, input, checks of the input, state, effect. -/
def runHeld (h : Held) (s : State) : State :=
  let d := { h.launch.desc with command := h.code }
  let path := h.launch.path
  let fail := fun (c : Nat × Nat) => mgtEnd d path { st := c.1, detail := c.2 } s
  match mgtCheck path d s with
  | some c => fail c
  | none =>
    match mgtFieldBad d s with
    | some c => fail c
    | none =>
      match mgtInput d h.launch.env s with
      | none => fail (stMalformed, malDetail 0x18 0x0B)
      | some inp =>
        match mgtInputBad d inp s with
        | some c => fail c
        | none =>
          let x := if mgtTurnedAway d s then mgtRefuse d s else mgtRun path d h.launch.env inp s
          match x.1 with
          | some y => mgtEnd d path y x.2
          | none => x.2

/-- A waiting command whose wait is over: an output that DMA can carry; a handover whose domain has passed on, or that was given
up (log entry 35). -/
def checkRunning (s : State) : State :=
  let t := flushOutput s
  match t.mgt.running with
  | some (.handover n _) =>
    if (domainOf t n).state ≠ 1 then endRunning stOk 0 t else if handingOver t n then t else endRunning stAborted 0 t
  | _ => t

/-- The mailbox served: while no command waits, the next one runs (**R421**). -/
def pumpN : Nat → State → State
  | 0, s => s
  | n + 1, s =>
    let t := checkRunning s
    if t.mgt.running.isSome || !wardenUp t then t
    else
      match t.mgt.held with
      | [] => t
      | h :: r => pumpN n (runHeld h { t with mgt := { t.mgt with held := r } })

/-- The mailbox, which holds at most four commands. -/
def pump (s : State) : State := pumpN 5 s

/-- The command that runs as a LOCK takes effect ends with TAMPER_ABORT, but for a SCRAP (**R393**, **R468**'s coincidences); a drain of
POWER_STATE READY is given up with it, a slice's transition goes on. -/
def lockCommand (s : State) : State :=
  match s.mgt.running with
  | some (.transition c p) =>
    if c = 0x600F then s
    else endRunning stTamper 0 { s with
      lcs := { s.lcs with waiting := none, xresult := 2 }, mgt := { s.mgt with running := some (.transition c p) } }
  | some (.handover d _) => endRunning stTamper 0 { s with fab := { s.fab with own := tupd s.fab.own d {} fun o =>
      { o with handover := false, asked := false } } }
  | some _ => endRunning stTamper 0 { s with rqs := { s.rqs with readyDrain := none } }
  | none => s

/-- P0's lowest bits, those below `m`, hold the row's operation. -/
def withOp (m n : Nat) (l : Launch) : Launch :=
  { l with desc := { l.desc with p0 := BitVec.ofNat 16 (l.desc.p / m * m + n) } }

-- The management rows -------------------------------------------------------------------------------------------------------------

/-- POWER_STATE_RUN (**R435**). -/
def execPowerStateRun (l : Launch) (s : State) : Res := .next (pump (hostLaunch 0x6001 (withOp 16 4 l) s))

/-- POWER_STATE_READY (**R436**, **R439**). -/
def execPowerStateReady (l : Launch) (s : State) : Res := .next (pump (hostLaunch 0x6001 (withOp 16 3 l) s))

/-- POWER_STATE_SLEEP (**R437**). -/
def execPowerStateSleep (l : Launch) (s : State) : Res := .next (pump (hostLaunch 0x6001 (withOp 16 2 l) s))

/-- IMAGE_STAGE (**R58**). -/
def execImageStage (l : Launch) (s : State) : Res := .next (pump (hostLaunch 0x6002 l s))

/-- IMAGE_ACTIVATE (**R59**). -/
def execImageActivate (l : Launch) (s : State) : Res := .next (pump (hostLaunch 0x6003 l s))

/-- QUEUE_CREATE (**R67**). -/
def execQueueCreate (l : Launch) (s : State) : Res := .next (pump (hostLaunch 0x6004 l s))

/-- QUEUE_DELETE (**R67**). -/
def execQueueDelete (l : Launch) (s : State) : Res := .next (pump (hostLaunch 0x6005 l s))

/-- SLICE_RESET_DRAIN (**R313**). -/
def execSliceResetDrain (l : Launch) (s : State) : Res := .next (pump (hostLaunch 0x6006 (withOp 2 0 l) s))

/-- SLICE_RESET_SQUASH (**R313**, **R314**). -/
def execSliceResetSquash (l : Launch) (s : State) : Res := .next (pump (hostLaunch 0x6006 (withOp 2 1 l) s))

/-- SLICE_FREEZE (**R312**). -/
def execSliceFreeze (l : Launch) (s : State) : Res := .next (pump (hostLaunch 0x6007 (withOp 2 0 l) s))

/-- SLICE_THAW (**R312**). -/
def execSliceThaw (l : Launch) (s : State) : Res := .next (pump (hostLaunch 0x6007 (withOp 2 1 l) s))

/-- SLICE_SAVE (**R316**, **R317**). -/
def execSliceSave (l : Launch) (s : State) : Res := .next (pump (hostLaunch 0x6008 l s))

/-- SLICE_RESTORE_PREPARE (**R315**). -/
def execSliceRestorePrepare (l : Launch) (s : State) : Res := .next (pump (hostLaunch 0x6009 (withOp 16 1 l) s))

/-- SLICE_RESTORE (**R318**). -/
def execSliceRestore (l : Launch) (s : State) : Res := .next (pump (hostLaunch 0x6009 (withOp 16 2 l) s))

/-- METER_LATCH_ALL (**R321**). -/
def execMeterLatchAll (l : Launch) (s : State) : Res := .next (pump (hostLaunch 0x600A l s))

/-- LOG_CLEAR_MAIN (**R427**). -/
def execLogClearMain (l : Launch) (s : State) : Res := .next (pump (hostLaunch 0x600B (withOp 4 1 l) s))

/-- LOG_CLEAR_RESERVE (**R427**). -/
def execLogClearReserve (l : Launch) (s : State) : Res := .next (pump (hostLaunch 0x600B (withOp 4 2 l) s))

/-- LOG_CLEAR_BOTH (**R427**). -/
def execLogClearBoth (l : Launch) (s : State) : Res := .next (pump (hostLaunch 0x600B (withOp 4 3 l) s))

/-- WARDEN_SWITCHBACK (**R417**). -/
def execWardenSwitchback (l : Launch) (s : State) : Res := .next (pump (hostLaunch 0x600C l s))

/-- UNLOCK (**R408**, **R409**). -/
def execUnlock (l : Launch) (s : State) : Res := .next (pump (hostLaunch 0x600D l s))

/-- LIFECYCLE_REQUEST_INTEGRATOR (**R385**). -/
def execLifecycleRequestIntegrator (l : Launch) (s : State) : Res := .next (pump (hostLaunch 0x600E (withOp 16 2 l) s))

/-- LIFECYCLE_REQUEST_FIELDED (**R385**). -/
def execLifecycleRequestFielded (l : Launch) (s : State) : Res := .next (pump (hostLaunch 0x600E (withOp 16 3 l) s))

/-- LIFECYCLE_REQUEST_RETURNED (**R385**). -/
def execLifecycleRequestReturned (l : Launch) (s : State) : Res := .next (pump (hostLaunch 0x600E (withOp 16 4 l) s))

/-- SCRAP (**R385**). -/
def execScrap (l : Launch) (s : State) : Res := .next (pump (hostLaunch 0x600F l s))

/-- OWNER_ENROL (**R365**). -/
def execOwnerEnrol (l : Launch) (s : State) : Res := .next (pump (hostLaunch 0x6010 (withOp 16 1 l) s))

/-- OWNER_ENROL_ROSTER (**R366**). -/
def execOwnerEnrolRoster (l : Launch) (s : State) : Res := .next (pump (hostLaunch 0x6010 (withOp 16 2 l) s))

/-- IDENTITY_ATTEST (**R369**). -/
def execIdentityAttest (l : Launch) (s : State) : Res := .next (pump (hostLaunch 0x6011 l s))

/-- VAULT_RESEAL_STAGE (**R371**). -/
def execVaultResealStage (l : Launch) (s : State) : Res := .next (pump (hostLaunch 0x6012 (withOp 16 1 l) s))

/-- VAULT_RESEAL_COMMIT (**R372**). -/
def execVaultResealCommit (l : Launch) (s : State) : Res := .next (pump (hostLaunch 0x6012 (withOp 16 2 l) s))

/-- VAULT_RESEAL_ABANDON (**R371**). -/
def execVaultResealAbandon (l : Launch) (s : State) : Res := .next (pump (hostLaunch 0x6012 (withOp 16 3 l) s))

/-- VAULT_REKEY (**R373**). -/
def execVaultRekey (l : Launch) (s : State) : Res := .next (pump (hostLaunch 0x6013 l s))

/-- CUSTODIAN_SESSION_OPEN (**R367**). -/
def execCustodianSessionOpen (l : Launch) (s : State) : Res := .next (pump (hostLaunch 0x6014 (withOp 16 1 l) s))

/-- CUSTODIAN_SESSION_APPROVE (**R147**). -/
def execCustodianSessionApprove (l : Launch) (s : State) : Res := .next (pump (hostLaunch 0x6014 (withOp 16 2 l) s))

/-- CUSTODIAN_SESSION_WITHDRAW (**R147**). -/
def execCustodianSessionWithdraw (l : Launch) (s : State) : Res := .next (pump (hostLaunch 0x6014 (withOp 16 3 l) s))

/-- CUSTODIAN_SESSION_CLOSE (**R147**). -/
def execCustodianSessionClose (l : Launch) (s : State) : Res := .next (pump (hostLaunch 0x6014 (withOp 16 4 l) s))

/-- CUSTODIAN_SESSION_STATUS (**R147**). -/
def execCustodianSessionStatus (l : Launch) (s : State) : Res := .next (pump (hostLaunch 0x6014 (withOp 16 5 l) s))

/-- MEMBERSHIP_INSTALL (**R304**). -/
def execMembershipInstall (l : Launch) (s : State) : Res := .next (pump (hostLaunch 0x6015 l s))

/-- DOMAIN_CREATE (**R296**). -/
def execDomainCreate (l : Launch) (s : State) : Res := .next (pump (hostLaunch 0x6016 (withOp 16 1 l) s))

/-- DOMAIN_SET_STANDBY (**R301**). -/
def execDomainSetStandby (l : Launch) (s : State) : Res := .next (pump (hostLaunch 0x6016 (withOp 16 2 l) s))

/-- DOMAIN_HANDOVER (**R302**). -/
def execDomainHandover (l : Launch) (s : State) : Res := .next (pump (hostLaunch 0x6016 (withOp 16 3 l) s))

/-- ENGINE_ABORT (**R195**). -/
def execEngineAbort (l : Launch) (s : State) : Res := .next (pump (hostLaunch 0x6017 l s))

-- Events that a waiting command hears of ----------------------------------------------------------------------------------------------

/-- READY_DRAIN_DONE (**R436**). -/
def execReadyDrainDone (s : State) : Res := .next (pump (readyDrainDone s))

/-- SLICE_RESET_DONE (**R312**, **R313**). -/
def execSliceResetDone (slice : Nat) (s : State) : Res := .next (pump (sliceResetDone slice s))

/-- SLICE_FREEZE_DONE (**R312**). -/
def execSliceFreezeDone (slice : Nat) (s : State) : Res := .next (pump (sliceFreezeDone slice s))

/-- DRAIN_CEILING_EXPIRY (**R313**, **R436**). -/
def execDrainCeilingExpiry (slice : Option Nat) (s : State) : Res := .next (drainCeiling slice s)

/-- REKEY_RANGE_DONE (**R373**). -/
def execRekeyRangeDone (s : State) : Res := .next (pump (rekeyRangeDone s))

/-- LCS_ENERGY_WAIT (**R384**). -/
def execLcsEnergyWait (s : State) : Res := .next (pump (energyWait s))

/-- CAP_FULL_REACHED (**R443**, **R384**). -/
def execCapFullReached (s : State) : Res := .next (pump (capFullReached s))

/-- TAMPER_ALARM (**R395**, **R396**). -/
def execTamperAlarm (source : Nat) (detail : Word) (s : State) : Res :=
  let t := tamperAlarm source detail s
  .next (pump (if !s.tmp.locked && t.tmp.locked then lockCommand t else t))

/-- WARDEN_CORE_FAILURE (**R414**, **R416**, **R418**). -/
def execWardenCoreFailure (cause : Nat) (standbyOk : Bool) (selfTest : Bool) (s : State) : Res :=
  .next (pump (coreFailure cause standbyOk selfTest s))

/-- SESSION_BURGEE (**R289**). -/
def execSessionBurgee (head : FrameHead) (body : Burgee) (s : State) : Res := .next (pump (sessionBurgee head body s))

/-- BURGEE_MISSED (**R290**). -/
def execBurgeeMissed (node : Nat) (s : State) : Res := .next (pump (burgeeMissed node s))

/-- CLAIM_MESSAGE (**R297**). -/
def execClaimMessage (head : FrameHead) (domain : Nat) (_reason : Nat) (pennant owner standby : Nat) (_sequence : Nat) (s : State) : Res :=
  .next (pump (claimMessage head domain pennant owner standby s))

/-- RESYNC_REJECT (**R298**). -/
def execResyncReject (head : FrameHead) (domain : Nat) (_pennant : Nat) (s : State) : Res := .next (pump (resyncReject head domain s))

end Sys2Proof.Machine
end

