-- ==== Sys2Proof/Machine/Hostif.lean ====
section
/-! DEFINITION. The host interface (**R11**, **R13**, **R420**, **R459**-**R476**): register writes, the rows that read registers,
the PCIe function's events, and the SMBus sideband. -/

namespace Sys2Proof.Machine

-- Register writes (R13, R420) -------------------------------------------------------------------------------------------------

/-- Write-one-to-clear: the bits of `v` inside `mask` cleared. -/
def w1c {n : Nat} (old mask : BitVec n) (v : Word) : BitVec n := old &&& ~~~(v.setWidth n &&& mask)

/-- The image is not loaded, so an RWI field takes a write (**R13**). -/
def rwiOpen (s : State) : Bool := s.img.cfg.isNone

/-- Word `k` of a descriptor replaced. -/
def descPut (d : Desc) (k : Nat) (v : Word) : Desc :=
  let b := d.bytes
  descOfBytes (b.take (4 * k) ++ leBytes 4 v.toNat ++ b.drop (4 * k + 4))

/-- A write to the MGT_ window (**R469**). -/
def mgtWrite (p : MPath) (o : Nat) (v : Word) (env : LaunchEnv) (s : State) : State :=
  let m := s.mgt
  if 0x8000 ≤ o then { s with mgt := { m with buf := cellsWrite m.buf (o - 0x8000) (leBytes 4 v.toNat) } }
  else if 0x40 ≤ o ∧ o < 0x80 then { s with mgt := { m with desc := descPut m.desc ((o - 0x40) / 4) v } }
  else
    match o with
    | 0x04 => { s with mgt := { m with overrun := m.overrun && !v.getLsbD 20, done := m.done && !v.getLsbD 17 } }
    | 0x08 => writeCmd (v.setWidth 16) { path := p, desc := m.desc, env := env } s
    | 0x20 => { s with mgt := { m with irq := w1c m.irq 0xFFFF v } }
    | 0x24 => { s with mgt := { m with irqEnable := v.setWidth 16 } }
    | _ => s

/-- A write to the ADM_ window (**R114**). -/
def admWrite (o : Nat) (v : Word) (s : State) : State :=
  if !rwiOpen s then s
  else if o = 0x14 then { s with adm := { s.adm with teRwi := v.setWidth 8 } }
  else if 0x20 ≤ o ∧ o < 0x40 then { s with adm := { s.adm with poolRwi := tset s.adm.poolRwi ((o - 0x20) / 4) (v.toNat / 2 ^ 24) } }
  else s

/-- A write to the SLC_ window (**R325**). -/
def slcWrite (o : Nat) (v : Word) (s : State) : State :=
  if o < 0x400 then
    if v.getLsbD 3 && (slice s (o / 4)).resetDone then updSlice (o / 4) (fun x => { x with resetDone := false }) s else s
  else if o < 0x800 then
    let n := o / 4 % 256
    if (slice s n).qerr = 0 then s else updSlice n (fun x => { x with qerr := w1c x.qerr 0xFFFF v }) s
  else if o = 0xC00 then { s with mgt := { s.mgt with pasidSeen := s.mgt.pasidSeen && !v.getLsbD 31 } }
  else s

/-- The records of a batch out of host memory (**R272**). -/
def batchRecords (b : Bytes) : List BatchRec :=
  (List.range (b.length / 48)).map fun i =>
    let r := bytesAt b (48 * i) 48
    { op := r.getD 0 0, table := r.getD 1 0, reservedZero := leNat (bytesAt r 3 13) == 0, operand := bytesWords (bytesAt r 16 32) }

/-- A write to the LKU_ window (**R269**, **R274**). -/
def lkuWrite (o : Nat) (v : Word) (env : LaunchEnv) (s : State) : State :=
  let l := s.lku
  let n := v.toNat
  if 0x10 ≤ o ∧ o < 0x30 then
    if l.busy then lkuBusyWrite (0x040000 + o) s else { s with lku := { l with data := l.data.set ((o - 0x10) / 4) v } }
  else
    match o with
    | 0x00 => { s with lku := { l with trieFault := l.trieFault && !v.getLsbD 7, done := l.done && !v.getLsbD 1 } }
    | 0x04 =>
      if nbit n 8 then lkuBatchRun (nbit n 9) (env.hostIn.map batchRecords) s
      else lkuRun (n % 8) (n / 16 % 8) (n / 65536) (nbit n 9) s
    | 0x30 => { s with lku := { l with batchAddr := BitVec.ofNat 64 (l.batchAddr.toNat / 2 ^ 32 * 2 ^ 32 + n) } }
    | 0x34 => { s with lku := { l with batchAddr := BitVec.ofNat 64 (l.batchAddr.toNat % 2 ^ 32 + n * 2 ^ 32) } }
    | 0x38 => { s with lku := { l with batchCount := n % 2 ^ 17 } }
    | _ => s

/-- A write to the FAB_ window (**R306**). -/
def fabWrite (o : Nat) (v : Word) (s : State) : State :=
  let f := s.fab
  if o = 0x58 then { s with fab := { f with event := w1c f.event 0x1FF v } }
  else if !rwiOpen s then s
  else
    match o with
    | 0x08 => { s with fab := { f with clusterRwi := BitVec.ofNat 64 (f.clusterRwi.toNat / 2 ^ 32 * 2 ^ 32 + v.toNat) } }
    | 0x0C => { s with fab := { f with clusterRwi := BitVec.ofNat 64 (f.clusterRwi.toNat % 2 ^ 32 + v.toNat * 2 ^ 32) } }
    | 0x10 => { s with fab := { f with hopRwi := v.setWidth 16 } }
    | 0x18 => { s with fab := { f with port0 := { f.port0 with modeRwi := v.toNat / 16 % 16 } } }
    | 0x1C => { s with fab := { f with port1 := { f.port1 with modeRwi := v.toNat / 16 % 16 } } }
    | _ => s

/-- A write to the ENG_ window (**R169**, **R230**). -/
def engWrite (o : Nat) (v : Word) (s : State) : State :=
  match o with
  | 0x100 => { s with eng := { s.eng with aesLate := w1c s.eng.aesLate 0xFFFF v } }
  | 0x308 => { s with eng := { s.eng with mkhLate := w1c s.eng.mkhLate 0xFFFF v } }
  | _ => s

/-- A write to the ENT_ window (**R249**). -/
def entWrite (o : Nat) (v : Word) (s : State) : State :=
  match o with
  | 0x04 => if rwiOpen s then { s with ent := { s.ent with rwiPolicy := v &&& 0x00FFFF03 } } else s
  | 0x08 => if rwiOpen s then { s with ent := { s.ent with rwiInterval := v &&& 0x1FFFF } } else s
  | 0x30 => rawCtrl v s
  | _ => s

/-- A write to a WDN field (**R420**): ignored, counted and logged. -/
def wdnIgnored (off : Nat) (s : State) : State :=
  logEvent 0xC04 (leBytes 4 off) { s with wdn := { s.wdn with ignored := satAdd 32 s.wdn.ignored 1 } }

/-- A write to the MEM_ window: the region registers of the MPUs are the Warden's (**R351**). -/
def memWrite (o : Nat) (s : State) : State := if 0x4000 ≤ o ∧ o < 0x4000 + 0x3600 then wdnIgnored (0x080000 + o) s else s

/-- A write to the TMP_ window (**R411**). -/
def tmpWrite (o : Nat) (v : Word) (s : State) : State :=
  let t := s.tmp
  if o = 0x00 then { s with tmp := { t with reserveAlarm := t.reserveAlarm && !v.getLsbD 7, exhausted := t.exhausted && !v.getLsbD 6 } }
  else if o = 0x78 then tmpFuseWrite (BitVec.ofNat 16 (v.toNat / 65536)) (v.setWidth 8) s
  else if !rwiOpen s then s
  else if o = 0x10 then { s with tmp := { t with rwiResponse := v } }
  else if o = 0x14 then { s with tmp := { t with rwiLoopEn := v.setWidth 4 } }
  else if 0x18 ≤ o ∧ o < 0x28 then { s with tmp := { t with rwiLoopWin := tset t.rwiLoopWin ((o - 0x18) / 4) v } }
  else s

/-- A write to the PWR_ window (**R458**). -/
def pwrWrite (o : Nat) (v : Word) (s : State) : State :=
  if o = 0x00 then { s with pwr := { s.pwr with ovlo := s.pwr.ovlo && !v.getLsbD 9 } }
  else if o = 0x18 then cellFaultWrite v s
  else if 0x40 ≤ o ∧ o < 0x60 ∧ rwiOpen s then { s with pwr := { s.pwr with rwiProfile := tset s.pwr.rwiProfile ((o - 0x40) / 4) v } }
  else s

/-- An aligned 32-bit write to BAR0 by access type (**R13**): RO fields, RWI fields after the load and undefined offsets ignore it. -/
def regWrite (p : MPath) (off : Nat) (v : Word) (env : LaunchEnv) (s : State) : State :=
  let o := off % 65536
  match off / 65536 with
  | 0x00 => mgtWrite p o v env s
  | 0x01 => if o = 0 then { s with img := { s.img with fallback := s.img.fallback && !v.getLsbD 2 } } else s
  | 0x02 => admWrite o v s
  | 0x03 => slcWrite o v s
  | 0x04 => lkuWrite o v env s
  | 0x05 => fabWrite o v s
  | 0x06 => engWrite o v s
  | 0x07 => entWrite o v s
  | 0x08 => memWrite o s
  | 0x09 => if o = 0 then { s with kvt := { s.kvt with storeFull := s.kvt.storeFull && !v.getLsbD 6 } } else s
  | 0x0A =>
    if o = 0 then { s with lcs := { s.lcs with rolled := s.lcs.rolled && !v.getLsbD 16 } }
    else if o = 0x20 then { s with lcs := { s.lcs with fuseAddr := v.setWidth 9 } } else s
  | 0x0B => tmpWrite o v s
  | 0x0D => if o = 0x40 then logSelWrite v s else s
  | 0x0E => pwrWrite o v s
  | 0x0F =>
    if o = 0 then { s with mgt := { s.mgt with
      mtrCurrent := v.getLsbD 16, mtrSlice := v.toNat / 256 % 256, mtrAge := v.toNat % 64 } } else s
  | _ => s

/-- Registers that the SMBus mailbox may write (**R473**): MGT_STATUS, MGT_CMD, MGT_IRQ_STATUS, MGT_DESC, MGT_BUF. -/
def smbusWritable (off : Nat) : Bool :=
  off == 0x04 || off == 0x08 || off == 0x20 || (0x40 ≤ off && off < 0x80) || (0x8000 ≤ off && off < 0x10000)

/-- The path reaches the register windows. -/
def pathOpen (p : MPath) (s : State) : Bool := match p with | .bar0 => barOpen s | .smbus => smbusUp s

/-- A 32-bit write through a path: of wrong alignment, or forbidden to the SMBus, it is ignored and logged (**R11**, **R473**). -/
def writeReg (p : MPath) (off : Nat) (v : Word) (env : LaunchEnv) (s : State) : State :=
  if !pathOpen p s then s
  else if off % 4 ≠ 0 then mgtInvalid off 4 true s
  else if p = .smbus ∧ !((mgtFlags s).getLsbD 1 && smbusWritable off) then mgtInvalid off 4 true s
  else pump (regWrite p off v env s)

/-- REGISTER_WRITE (**R13**). -/
def execRegisterWrite (path : MPath) (offset : Nat) (value : Word) (env : LaunchEnv) (s : State) : Res :=
  .next (writeReg path offset value env s)

/-- ENT_RAW_CTRL (**R247**). -/
def execEntRawCtrl (path : MPath) (value : Word) (s : State) : Res := .next (writeReg path 0x070030 value {} s)

/-- LOG_SEL (**R431**). -/
def execLogSel (path : MPath) (value : Word) (s : State) : Res := .next (writeReg path 0x0D0040 value {} s)

/-- PWR_CELL_FAULT_CLEAR (**R455**). -/
def execPwrCellFaultClear (path : MPath) (value : Word) (s : State) : Res := .next (writeReg path 0x0E0018 value {} s)

/-- TMP_FUSE_CMD (**R405**), written through BAR0. -/
def execTmpFuseCmd (key : BitVec 16) (source : BitVec 8) (s : State) : Res :=
  .next (writeReg .bar0 0x0B0078 (BitVec.ofNat 32 (key.toNat * 65536 + source.toNat)) {} s)

-- Register reads (R11) ----------------------------------------------------------------------------------------------------------

/-- A read's value on its path: to the host, or the bytes of an SMBus answer. -/
def answer (p : MPath) (v : Word) (s : State) : State :=
  match p with | .bar0 => emit (.value v) s | .smbus => emit (.smbus (leBytes 4 v.toNat)) s

/-- ENT_RAW_DATA (**R247**). -/
def execEntRawData (path : MPath) (s : State) : Res :=
  .next (if pathOpen path s then (let x := readReg path 0x070034 s; answer path x.1 x.2) else s)

/-- REG64_LOW_READ (**R11**): `offset` is that of a 64-bit register. -/
def execReg64LowRead (path : MPath) (offset : Nat) (s : State) : Res :=
  .next (if pathOpen path s && wideLow.contains offset then (let x := readReg path offset s; answer path x.1 x.2) else s)

/-- An access that **R11** allows: 32 bits aligned, or 64 bits of a 64-bit register. -/
def accessOk (off width : Nat) : Bool := (width == 4 && off % 4 == 0) || (width == 8 && wideLow.contains off)

/-- REGISTER_ACCESS_INVALID (**R11**): zero read, nothing written, logged. -/
def execRegisterAccessInvalid (path : MPath) (offset : Nat) (width : Nat) (write : Bool) (s : State) : Res :=
  .next (if !pathOpen path s || accessOk offset width then s
    else (let t := mgtInvalid offset width write s; if write then t else answer path 0 t))

-- The PCIe function (R459-R465, R470, R471, R475, R476) -----------------------------------------------------------------------------

/-- Messages whose pending bit is set and which are not masked sent, where messages may be sent (**R471**). -/
def flushMsix (s : State) : State :=
  if !canDma s then s
  else
    let l := s.pcie.pba.filter fun v => s.pcie.unmasked.contains v
    l.reverse.foldl (fun t v => emit (.msix v) t)
      { s with pcie := { s.pcie with pba := s.pcie.pba.filter fun v => !s.pcie.unmasked.contains v } }

/-- DMA may go on: completions that waited are written, messages sent, and a command's output (**R94**, **R465**). -/
def resumeDma (s : State) : State := pump (flushMsix (flushWaiting s))

/-- MSIX_UNMASK (**R471**). -/
def execMsixUnmask (vector : Nat) (s : State) : Res :=
  .next (if !barOpen s || 2048 ≤ vector || s.pcie.unmasked.contains vector then s
    else flushMsix { s with pcie := { s.pcie with unmasked := vector :: s.pcie.unmasked } })

/-- IDE is required and the stream is not Secure. -/
def ideBlocks (s : State) : Bool := (mgtFlags s).getLsbD 3 && !s.pcie.secure

/-- PCIE_REQUEST_REFUSED (**R464**): Unsupported Request, or the posted request discarded. -/
def execPcieRequestRefused (bar : Nat) (posted : Bool) (s : State) : Res :=
  .next (if s.pcie.link && ideBlocks s && (bar == 0 || bar == 2 || bar == 4) && !posted then emit (.pcie 1) s else s)

/-- Dwords of the configuration header that **R460** fixes. -/
def headerWord (offset : Nat) : Option Word :=
  match offset with
  | 0x00 => some 0x72601D2B
  | 0x08 => some 0x10800001
  | 0x2C => some 0x00001D2B
  | _ => none

/-- PASID Enable cleared: while queues exist, the host path is reset (**R463**). -/
def clearPasid (s : State) : State :=
  if s.rqs.queues.isEmpty then { s with pcie := { s.pcie with pasidEnable := false } } else hostReset s

/-- CONFIG_REQUEST (**R460**, **R463**, **R476**): Retry Status before step 7 of a start; else success, with the header dword where
**R460** fixes it.  `pasid` is what the request writes to PASID Enable. -/
def execConfigRequest (offset : Nat) (pasid : Option Bool) (s : State) : Res :=
  if s.pcie.perst then .next s
  else if s.pwr.state = .starting ∧ !s.pwr.startRun then .next (emit (.pcie 3) s)
  else if !s.pcie.link then .next s
  else
    let t := match pasid with
      | some true => flushWaiting { s with pcie := { s.pcie with pasidEnable := true } }
      | some false => clearPasid s
      | none => s
    .next (emit (.pcie 0) (match pasid, headerWord offset with | none, some v => emit (.value v) t | _, _ => t))

/-- PCIE_RESET (**R475**): PERST_N is ignored in SLEEP, OFF and RESERVE; the other kinds need a link. -/
def execPcieReset (kind : PcieResetKind) (s : State) : Res :=
  match kind with
  | .perst =>
    .next (match s.pwr.state with
      | .off | .reserve | .sleep => s
      | _ => let t := dropLink (hostReset s); { t with pcie := { t.pcie with perst := true } })
  | .linkDown => .next (if s.pcie.link then dropLink (hostReset s) else s)
  | .hotReset => .next (if s.pcie.link then hostReset s else s)
  | .flr => .next (if s.pcie.link then hostReset s else s)

/-- The link may train (**R440** step 7, **R476**). -/
def linkTrains (s : State) : Bool :=
  s.lcs.state != .scrapped &&
  (match s.pwr.state with | .ready | .run => true | .starting => s.pwr.startRun | _ => false)

/-- PERST_N_RELEASE (**R476**). -/
def execPerstNRelease (s : State) : Res :=
  let t : State := { s with pcie := { s.pcie with perst := false } }
  .next (if linkTrains t then resumeDma (trainLink t) else t)

/-- D3HOT_ENTRY (**R465**). -/
def execD3hotEntry (s : State) : Res := .next (if s.pcie.link then { s with pcie := { s.pcie with d3hot := true } } else s)

/-- D0_RETURN (**R465**): the effect of a PCIe reset on the host path. -/
def execD0Return (s : State) : Res := .next (if s.pcie.d3hot then hostReset s else s)

/-- BUS_MASTER_DISABLE (**R465**). -/
def execBusMasterDisable (s : State) : Res :=
  .next (if s.pcie.link then { s with pcie := { s.pcie with busMaster := false } } else s)

/-- BUS_MASTER_ENABLE (**R465**). -/
def execBusMasterEnable (s : State) : Res :=
  .next (if s.pcie.link then resumeDma { s with pcie := { s.pcie with busMaster := true } } else s)

/-- PASID_ENABLE_CLEAR (**R463**). -/
def execPasidEnableClear (s : State) : Res := .next (if s.pcie.link && s.pcie.pasidEnable then clearPasid s else s)

/-- POSTED_WRITE_CREDIT_RETURN (**R94**). -/
def execPostedWriteCreditReturn (s : State) : Res :=
  .next (if s.pcie.link then resumeDma { s with pcie := { s.pcie with credits := true } } else s)

/-- SPDM_MESSAGE (**R464**): with the IDE flag and an identity that may sign, the responder answers; a secured message shows the
session open, and programs the keys where it is one of IDE_KM. -/
def execSpdmMessage (secured : Bool) (keyProg : Bool) (s : State) : Res :=
  if !s.pcie.link || !(mgtFlags s).getLsbD 3 then .next s
  else
    let can := s.kvt.identity && !s.kvt.signsNothing
    .next (emit .doe { s with pcie := { s.pcie with
      spdm := s.pcie.spdm || (secured && can), keyed := s.pcie.keyed || (secured && keyProg && s.pcie.spdm) } })

/-- IDE_STREAM_SECURE (**R464**): after its keys. -/
def execIdeStreamSecure (s : State) : Res :=
  .next (if s.pcie.link && (mgtFlags s).getLsbD 3 && s.pcie.keyed then resumeDma { s with pcie := { s.pcie with secure := true } } else s)

/-- IDE_STREAM_INSECURE (**R464**): DMA stops. -/
def execIdeStreamInsecure (s : State) : Res := .next { s with pcie := { s.pcie with secure := false } }

-- The SMBus sideband (R472-R474) -----------------------------------------------------------------------------------------------------------

/-- A 32-bit read at an SMBus address: misaligned it reads zero and is logged, above BAR0 it reads zero. -/
def smbusWord (a : Nat) (s : State) : Word × State :=
  if a % 4 ≠ 0 then (0, mgtInvalid a 4 false s) else if 2 ^ 24 ≤ a then (0, s) else readReg .smbus a s

/-- The address register moved on. -/
def smbusAdvance (n : Nat) (s : State) : State := { s with mgt := { s.mgt with smbAddr := (s.mgt.smbAddr + n) % 2 ^ 32 } }

/-- `n` words read from an address. -/
def smbusWords : Nat → Nat → State → Bytes × State
  | 0, _, s => ([], s)
  | n + 1, a, s =>
    let (w, t) := smbusWord a s
    let (b, u) := smbusWords n (a + 4) t
    (leBytes 4 w.toNat ++ b, u)

/-- The telemetry block (**R474**). -/
def telemetry (s : State) : Bytes :=
  let w := s.pwr
  let hot := s.tmp.temps.foldl max (s.tmp.temps.headD 0)
  fit 32 ([BitVec.ofNat 8 w.state.code, BitVec.ofNat 8 s.lcs.state.code,
    BitVec.ofNat 8 (wordOf [(0, b2n s.tmp.locked), (1, b2n s.tmp.erased), (2, b2n s.log.full), (3, b2n (w.fault != 0))]),
    BitVec.ofNat 8 s.adm.throttle] ++
    leBytes 2 w.vinMv ++ leBytes 2 w.power ++ leBytes 2 (twos 16 hot) ++ leBytes 2 w.cellMv ++ leBytes 2 (twos 16 w.cellTemp) ++
    [BitVec.ofNat 8 (socOf w), BitVec.ofNat 8 w.phase] ++ leBytes 2 w.cap ++ [BitVec.ofNat 8 w.runHold.toNat, 0] ++
    leBytes 8 s.mtime ++ leBytes 4 (mgtStatus s))

/-- SMBUS_TELEMETRY (**R474**): a block read; its PEC is the module's own. -/
def execSmbusTelemetry (_pec : Bool) (s : State) : Res := .next (if smbusUp s then emit (.smbus (telemetry s)) s else s)

/-- SMBUS_POWER (**R473**): POWER_STATE with a descriptor of the module's, MGT_DESC untouched. -/
def execSmbusPower (target : BitVec 8) (pec : Bool) (s : State) : Res :=
  if !smbusUp s then .next s
  else if !pec || !(mgtFlags s).getLsbD 2 then .next (emit .nack s)
  else .next (pump (launch 0x6001 { path := .smbus, desc := { command := 0x6001, p0 := target.setWidth 16 } } s))

/-- SMBUS_SET_ADDR (**R473**). -/
def execSmbusSetAddr (addr : Word) (pec : Bool) (s : State) : Res :=
  if !smbusUp s then .next s
  else if !pec then .next (emit .nack s)
  else .next { s with mgt := { s.mgt with smbAddr := addr.toNat } }

/-- SMBUS_READ (**R473**). -/
def execSmbusRead (s : State) : Res :=
  if !smbusUp s then .next s
  else
    let x := smbusWord s.mgt.smbAddr s
    .next (smbusAdvance 4 (emit (.smbus (leBytes 4 x.1.toNat)) x.2))

/-- SMBUS_WRITE (**R473**). -/
def execSmbusWrite (value : Word) (pec : Bool) (env : LaunchEnv) (s : State) : Res :=
  if !smbusUp s then .next s
  else if !pec then .next (emit .nack s)
  else .next (smbusAdvance 4 (writeReg .smbus s.mgt.smbAddr value env s))

/-- SMBUS_READ_BURST (**R473**). -/
def execSmbusReadBurst (s : State) : Res :=
  if !smbusUp s then .next s
  else
    let x := smbusWords 8 s.mgt.smbAddr s
    .next (smbusAdvance 32 (emit (.smbus x.1) x.2))

/-- Words written from an address. -/
def smbusPut (env : LaunchEnv) : List Word → Nat → State → State
  | [], _, s => s
  | v :: r, a, s => smbusPut env r (a + 4) (regWrite .smbus a v env s)

/-- SMBUS_WRITE_BURST (**R473**): eight words, all of them at permitted registers, or the burst is ignored and logged. -/
def execSmbusWriteBurst (values : List Word) (pec : Bool) (env : LaunchEnv) (s : State) : Res :=
  if !smbusUp s then .next s
  else if !pec || values.length != 8 then .next (emit .nack s)
  else
    let a := s.mgt.smbAddr
    let ok := (mgtFlags s).getLsbD 1 && a % 4 == 0 && (List.range 8).all fun k => smbusWritable (a + 4 * k)
    .next (smbusAdvance 32 (if ok then pump (smbusPut env values a s) else mgtInvalid a 32 true s))

/-- SMBUS_UNKNOWN_COMMAND (**R472**): an unknown command byte or a wrong PEC is NACKed. -/
def execSmbusUnknownCommand (_byte : BitVec 8) (s : State) : Res := .next (if smbusUp s then emit .nack s else s)

end Sys2Proof.Machine
end

