-- ==== Sys2Proof/Machine/Jtag.lean ====
section
/-! DEFINITION. The test access port (**R389**-**R391**, **R491**-**R493**): boundary-scan instructions, the private instructions,
and debug authorisation. -/

namespace Sys2Proof.Machine

/-- The sideband domain, and with it the port, is powered (**R389**). -/
def tapUp (s : State) : Bool := match s.pwr.state with | .sleep | .ready | .run => true | .starting => s.pwr.startRun | _ => false

/-- An instruction of code `c` loaded: the code where it is permitted, else BYPASS (**R391**, **R491**). -/
def loadIr (c : Nat) (permitted : Bool) (s : State) : State := { s with ir := if permitted then c else 0xFF }

/-- The one-bit register of BYPASS, which captures 0. -/
def bypassOut (s : State) : State := emit (.jtag 1 0) s

/-- A boundary-scan instruction that works outside RUN alone. -/
def scanIr (c : Nat) (s : State) : State :=
  if !tapUp s then s
  else
    let t := loadIr c (s.pwr.state != .run) s
    if t.ir = 0xFF then bypassOut t else t

/-- EXTEST (**R491**). -/
def execExtest (s : State) : Res := .next (scanIr 0x00 s)
/-- HIGHZ (**R491**). -/
def execHighz (s : State) : Res := .next (scanIr 0x03 s)
/-- CLAMP (**R491**). -/
def execClamp (s : State) : Res := .next (scanIr 0x04 s)
/-- EXTEST_PULSE (**R491**). -/
def execExtestPulse (s : State) : Res := .next (scanIr 0x05 s)
/-- EXTEST_TRAIN (**R491**). -/
def execExtestTrain (s : State) : Res := .next (scanIr 0x06 s)
/-- SAMPLE/PRELOAD (**R491**): permitted always. -/
def execSamplePreload (s : State) : Res := .next (if tapUp s then loadIr 0x01 true s else s)
/-- IDCODE (**R491**, **R492**). -/
def execIdcode (s : State) : Res := .next (if tapUp s then emit (.jtag 32 0x1726054B) (loadIr 0x02 true s) else s)
/-- BYPASS (**R491**). -/
def execBypass (s : State) : Res := .next (if tapUp s then bypassOut (loadIr 0xFF true s) else s)
/-- TAP_RESET (**R491**, **R493**): TRST_N low selects IDCODE. -/
def execTapReset (s : State) : Res := .next (if tapUp s then { s with ir := 0x02 } else s)

-- Private instructions (R391) -----------------------------------------------------------------------------------------------------

/-- The life-cycle word of LCS_READ (**R391**). -/
def lcsWord (s : State) : Nat := wordOf [(12, s.lcs.copyC), (8, s.lcs.copyB), (4, s.lcs.copyA), (0, s.lcs.state.code)]

/-- LCS_READ (**R391**): permitted in every state (**R380**). -/
def execLcsRead (s : State) : Res := .next (if tapUp s then emit (.jtag 32 (lcsWord s)) (loadIr 0x20 true s) else s)

/-- The debug instructions other than LCS_READ answer outside SCRAPPED and INVALID (**R380**, **R381**). -/
def debugIr (s : State) : Bool := s.lcs.state != .scrapped && s.lcs.state != .invalid

/-- DBG_CHALLENGE (**R391**): in RETURNED the fingerprint and a fresh nonce from consumer 4, zero where it draws none; zeros in
the other states. -/
def execDbgChallenge (s : State) : Res :=
  if !tapUp s then .next s
  else
    let t := loadIr 0x21 (debugIr s) s
    if !debugIr s then .next (bypassOut t)
    else if s.lcs.state != .returned then .next (emit (.jtag 512 0) t)
    else
      match wardenCalls 1 t with
      | none => .next (emit (.jtag 512 (leNat (fit 32 s.kvt.idFpr))) { t with lcs := { t.lcs with dbgNonce := none } })
      | some u =>
        let (n, v) := draw u
        .next (emit (.jtag 512 (leNat (fit 32 s.kvt.idFpr ++ freeBytes n 32))) { v with lcs := { v.lcs with dbgNonce := some n } })

/-- The checks of **R390**: state, lock, layout, binding, nonce, signatures. -/
def authOk (auth : Bytes) (sig : Verdict) (s : State) : Bool :=
  s.lcs.state == .returned && !s.tmp.locked && auth.length == 4808 && auth.take 4 == ascii "DBGA" && fld auth 4 2 == 1 &&
  bytesAt auth 8 32 == fit 32 s.kvt.idFpr &&
  (match s.lcs.dbgNonce with | some n => bytesAt auth 40 32 == freeBytes n 32 | none => false) && signed sig

/-- A scope opened; scope [0] clears the identity key pair first (**R390**). -/
def openScope (scope : BitVec 2) (s : State) : State :=
  { s with
    lcs := { s.lcs with scope := s.lcs.scope ||| scope, dbgStatus := 2 }
    kvt := { s.kvt with signsNothing := s.kvt.signsNothing || scope.getLsbD 0 } }

/-- A refused authorisation: counted and logged, the cause's code being a free value (log entry 7). -/
def refuseAuth (s : State) : State :=
  let (n, t) := draw s
  logEvent 0xA06 [Config.freeBits 8 n]
    { t with lcs := { t.lcs with dbgFail := satAdd 32 t.lcs.dbgFail 1, dbgStatus := 3 } }

/-- DBG_AUTH (**R390**): a nonce serves one authorisation. -/
def execDbgAuth (auth : Bytes) (sig : Verdict) (s : State) : Res :=
  if !tapUp s then .next s
  else
    let t := loadIr 0x22 (debugIr s) s
    if !debugIr s then .next (bypassOut t)
    else
      let u := if authOk auth sig s then openScope (BitVec.ofNat 2 (fld auth 6 1)) t else refuseAuth t
      .next { u with lcs := { u.lcs with dbgNonce := none } }

/-- DBG_STATUS (**R391**). -/
def execDbgStatus (s : State) : Res :=
  if !tapUp s then .next s
  else
    let t := loadIr 0x23 (debugIr s) s
    .next (if debugIr s then emit (.jtag 8 (wordOf [(4, s.lcs.dbgStatus), (0, s.lcs.scope.toNat)])) t else bypassOut t)

-- The debug master (R331, R334, R339, R389) --------------------------------------------------------------------------------------------

/-- The debug area of the scratchpad (**R331**), the one region of the debug master's MPU. -/
def debugBase : Nat := 0x3D80000

/-- Bytes of the debug area. -/
def debugSize : Nat := 0x80000

/-- The first byte of a range outside the debug area. -/
def debugFails (addr len : Nat) : Option Nat :=
  if len = 0 then none
  else if addr < debugBase ∨ debugBase + debugSize ≤ addr then some addr
  else if debugBase + debugSize < addr + len then some (debugBase + debugSize) else none

/-- The debug master exists: MAKER and INTEGRATOR, not locked, the core powered (**R380**, **R389**). -/
def debugMaster (s : State) : Bool :=
  (s.lcs.state == .maker || s.lcs.state == .integrator) && !s.tmp.locked && s.pwr.state != .sleep

/-- DEBUG_DENIED (**R339**): counted and logged with the acting colour, nothing else. -/
def debugDenied (addr : Nat) (s : State) : State :=
  logEvent 0x807 (leBytes 5 addr ++ leBytes 2 0x1FE) { s with mem := { s.mem with debugDenied := satAdd 32 s.mem.debugDenied 1 } }

/-- Words that a write replaces whole are no longer uncorrectable (**R332**). -/
def mendWords (addr len : Nat) (l : List Nat) : List Nat := l.filter fun w => 8 * w < addr || addr + len < 8 * w + 8

/-- A double-bit word inside a range (**R332**). -/
def badWordIn (addr len : Nat) (s : State) : Option Nat := s.mem.badWords.find? fun w => decide (addr < 8 * w + 8 ∧ 8 * w < addr + len)

/-- DBG_MEM (**R339**, **R389**): a read answers the bytes, or zeros where it is denied or meets a double-bit error. -/
def execDbgMem (addr : Nat) (len : Nat) (data : Option Bytes) (s : State) : Res :=
  if !tapUp s then .next s
  else if !debugMaster s then .next (bypassOut (loadIr 0xFF true s))
  else
    let t := loadIr 0x30 true s
    match debugFails addr len, data with
    | some a, none => .next (emit (.jtag (8 * len) 0) (debugDenied a t))
    | some a, some _ => .next (debugDenied a t)
    | none, none =>
      (match badWordIn addr len t with
       | some w => .next (emit (.jtag (8 * len) 0) (spUncorrectable w t))
       | none => .next (emit (.jtag (8 * len) (leNat (cellsRead t.mem.cells addr len))) t))
    | none, some b => .next { t with mem := { t.mem with
        cells := cellsWrite t.mem.cells addr (fit len b), badWords := mendWords addr len t.mem.badWords } }

end Sys2Proof.Machine
end

