-- ==== Sys2Proof/Machine/Dispatch.lean ====
section
/-! DEFINITION. The effect of each command: one arm for each constructor, one direct call of its meaning. -/

namespace Sys2Proof.Machine

/-- A command's effect on everything but the queue. -/
def exec (i : Instr) (s : State) : Host.Outcome State Fault Refusal :=
  match i with
  | .sqTailDoorbell w => Sys2Proof.Machine.execSqTailDoorbell w s
  | .cqHeadDoorbell w => Sys2Proof.Machine.execCqHeadDoorbell w s
  | .descriptorFetch => Sys2Proof.Machine.execDescriptorFetch s
  | .descriptorArrival slice queue descs => Sys2Proof.Machine.execDescriptorArrival slice queue descs s
  | .landingRoomFreed => Sys2Proof.Machine.execLandingRoomFreed s
  | .requestLand rid input => Sys2Proof.Machine.execRequestLand rid input s
  | .tokenRefill => Sys2Proof.Machine.execTokenRefill s
  | .nonEnsignDispatch seqr => Sys2Proof.Machine.execNonEnsignDispatch seqr s
  | .sequencerFree seqr => Sys2Proof.Machine.execSequencerFree seqr s
  | .operationBoundary pool unit => Sys2Proof.Machine.execOperationBoundary pool unit s
  | .pinTranslate rid spUe => Sys2Proof.Machine.execPinTranslate rid spUe s
  | .pinVerifyPvv rid spUe => Sys2Proof.Machine.execPinVerifyPvv rid spUe s
  | .pinVerifyOffset rid spUe => Sys2Proof.Machine.execPinVerifyOffset rid spUe s
  | .pinVerifyCompare rid spUe => Sys2Proof.Machine.execPinVerifyCompare rid spUe s
  | .pvvGenerate rid spUe => Sys2Proof.Machine.execPvvGenerate rid spUe s
  | .offsetGenerate rid spUe => Sys2Proof.Machine.execOffsetGenerate rid spUe s
  | .cvvVerify rid spUe => Sys2Proof.Machine.execCvvVerify rid spUe s
  | .cvvGenerate rid spUe => Sys2Proof.Machine.execCvvGenerate rid spUe s
  | .arqcVerify rid spUe => Sys2Proof.Machine.execArqcVerify rid spUe s
  | .arqcVerifyArpc rid spUe => Sys2Proof.Machine.execArqcVerifyArpc rid spUe s
  | .arpcGenerate rid spUe => Sys2Proof.Machine.execArpcGenerate rid spUe s
  | .scriptMac rid spUe => Sys2Proof.Machine.execScriptMac rid spUe s
  | .scriptEncrypt rid spUe => Sys2Proof.Machine.execScriptEncrypt rid spUe s
  | .macGenerate rid spUe => Sys2Proof.Machine.execMacGenerate rid spUe s
  | .macVerify rid spUe => Sys2Proof.Machine.execMacVerify rid spUe s
  | .dukptPinTranslate rid spUe => Sys2Proof.Machine.execDukptPinTranslate rid spUe s
  | .dukptMacVerify rid spUe => Sys2Proof.Machine.execDukptMacVerify rid spUe s
  | .dukptDecrypt rid spUe => Sys2Proof.Machine.execDukptDecrypt rid spUe s
  | .dukptIkExport rid spUe => Sys2Proof.Machine.execDukptIkExport rid spUe s
  | .encrypt rid spUe => Sys2Proof.Machine.execEncrypt rid spUe s
  | .decrypt rid spUe => Sys2Proof.Machine.execDecrypt rid spUe s
  | .gcmEncrypt rid spUe => Sys2Proof.Machine.execGcmEncrypt rid spUe s
  | .gcmDecrypt rid spUe => Sys2Proof.Machine.execGcmDecrypt rid spUe s
  | .keyImport rid spUe => Sys2Proof.Machine.execKeyImport rid spUe s
  | .keyExport rid spUe => Sys2Proof.Machine.execKeyExport rid spUe s
  | .keyGenerate rid spUe => Sys2Proof.Machine.execKeyGenerate rid spUe s
  | .keyDelete rid spUe => Sys2Proof.Machine.execKeyDelete rid spUe s
  | .keyInfo rid spUe => Sys2Proof.Machine.execKeyInfo rid spUe s
  | .keyComponentsCombine rid spUe => Sys2Proof.Machine.execKeyComponentsCombine rid spUe s
  | .keyAttest rid spUe => Sys2Proof.Machine.execKeyAttest rid spUe s
  | .publicKeyImport rid spUe => Sys2Proof.Machine.execPublicKeyImport rid spUe s
  | .publicKeyExport rid spUe => Sys2Proof.Machine.execPublicKeyExport rid spUe s
  | .sha256Blocks rid spUe => Sys2Proof.Machine.execSha256Blocks rid spUe s
  | .sha512Blocks rid spUe => Sys2Proof.Machine.execSha512Blocks rid spUe s
  | .keccakAbsorb rid spUe => Sys2Proof.Machine.execKeccakAbsorb rid spUe s
  | .keccakSqueeze rid spUe => Sys2Proof.Machine.execKeccakSqueeze rid spUe s
  | .hmacGenerate rid spUe => Sys2Proof.Machine.execHmacGenerate rid spUe s
  | .hmacVerify rid spUe => Sys2Proof.Machine.execHmacVerify rid spUe s
  | .random rid spUe => Sys2Proof.Machine.execRandom rid spUe s
  | .rsaSign rid spUe => Sys2Proof.Machine.execRsaSign rid spUe s
  | .rsaVerify rid spUe => Sys2Proof.Machine.execRsaVerify rid spUe s
  | .rsaDecrypt rid spUe => Sys2Proof.Machine.execRsaDecrypt rid spUe s
  | .rsaEncrypt rid spUe => Sys2Proof.Machine.execRsaEncrypt rid spUe s
  | .rsaKeygen rid spUe => Sys2Proof.Machine.execRsaKeygen rid spUe s
  | .ecdsaSign rid spUe => Sys2Proof.Machine.execEcdsaSign rid spUe s
  | .ecdsaVerify rid spUe => Sys2Proof.Machine.execEcdsaVerify rid spUe s
  | .eddsaSign rid spUe => Sys2Proof.Machine.execEddsaSign rid spUe s
  | .eddsaVerify rid spUe => Sys2Proof.Machine.execEddsaVerify rid spUe s
  | .ecdhDerive rid spUe => Sys2Proof.Machine.execEcdhDerive rid spUe s
  | .ecKeygen rid spUe => Sys2Proof.Machine.execEcKeygen rid spUe s
  | .modExp rid spUe => Sys2Proof.Machine.execModExp rid spUe s
  | .modMul rid spUe => Sys2Proof.Machine.execModMul rid spUe s
  | .mlkemKeygen rid spUe => Sys2Proof.Machine.execMlkemKeygen rid spUe s
  | .mlkemEncaps rid spUe => Sys2Proof.Machine.execMlkemEncaps rid spUe s
  | .mlkemDecaps rid spUe => Sys2Proof.Machine.execMlkemDecaps rid spUe s
  | .mldsaKeygen rid spUe => Sys2Proof.Machine.execMldsaKeygen rid spUe s
  | .mldsaSign rid spUe iters => Sys2Proof.Machine.execMldsaSign rid spUe iters s
  | .mldsaVerify rid spUe => Sys2Proof.Machine.execMldsaVerify rid spUe s
  | .slhdsaKeygen rid spUe => Sys2Proof.Machine.execSlhdsaKeygen rid spUe s
  | .slhdsaSign rid spUe => Sys2Proof.Machine.execSlhdsaSign rid spUe s
  | .slhdsaVerify rid spUe => Sys2Proof.Machine.execSlhdsaVerify rid spUe s
  | .statefulKeygen rid spUe => Sys2Proof.Machine.execStatefulKeygen rid spUe s
  | .statefulSign rid spUe => Sys2Proof.Machine.execStatefulSign rid spUe s
  | .statefulVerify rid spUe => Sys2Proof.Machine.execStatefulVerify rid spUe s
  | .statefulRemaining rid spUe => Sys2Proof.Machine.execStatefulRemaining rid spUe s
  | .hqcKeygen rid spUe => Sys2Proof.Machine.execHqcKeygen rid spUe s
  | .hqcEncaps rid spUe => Sys2Proof.Machine.execHqcEncaps rid spUe s
  | .hqcDecaps rid spUe => Sys2Proof.Machine.execHqcDecaps rid spUe s
  | .mcelieceKeygen rid spUe => Sys2Proof.Machine.execMcelieceKeygen rid spUe s
  | .mcelieceEncaps rid spUe => Sys2Proof.Machine.execMcelieceEncaps rid spUe s
  | .mcelieceDecaps rid spUe => Sys2Proof.Machine.execMcelieceDecaps rid spUe s
  | .hybridKemKeygen rid spUe => Sys2Proof.Machine.execHybridKemKeygen rid spUe s
  | .hybridEncaps rid spUe => Sys2Proof.Machine.execHybridEncaps rid spUe s
  | .hybridDecaps rid spUe => Sys2Proof.Machine.execHybridDecaps rid spUe s
  | .hybridSignKeygen rid spUe => Sys2Proof.Machine.execHybridSignKeygen rid spUe s
  | .hybridSign rid spUe iters => Sys2Proof.Machine.execHybridSign rid spUe iters s
  | .hybridVerify rid spUe => Sys2Proof.Machine.execHybridVerify rid spUe s
  | .echo rid spUe => Sys2Proof.Machine.execEcho rid spUe s
  | .meterLatch rid spUe => Sys2Proof.Machine.execMeterLatch rid spUe s
  | .meterRead rid spUe => Sys2Proof.Machine.execMeterRead rid spUe s
  | .sliceInfo rid spUe => Sys2Proof.Machine.execSliceInfo rid spUe s
  | .coreCompletionInterrupt pool unit => Sys2Proof.Machine.execCoreCompletionInterrupt pool unit s
  | .releaseStep seqr => Sys2Proof.Machine.execReleaseStep seqr s
  | .requestForward rid => Sys2Proof.Machine.execRequestForward rid s
  | .blindWaitResume => Sys2Proof.Machine.execBlindWaitResume s
  | .rngWaitResume => Sys2Proof.Machine.execRngWaitResume s
  | .powerStateRun l => Sys2Proof.Machine.execPowerStateRun l s
  | .powerStateReady l => Sys2Proof.Machine.execPowerStateReady l s
  | .powerStateSleep l => Sys2Proof.Machine.execPowerStateSleep l s
  | .readyDrainDone => Sys2Proof.Machine.execReadyDrainDone s
  | .imageStage l => Sys2Proof.Machine.execImageStage l s
  | .imageActivate l => Sys2Proof.Machine.execImageActivate l s
  | .queueCreate l => Sys2Proof.Machine.execQueueCreate l s
  | .queueDelete l => Sys2Proof.Machine.execQueueDelete l s
  | .sliceResetDrain l => Sys2Proof.Machine.execSliceResetDrain l s
  | .sliceResetSquash l => Sys2Proof.Machine.execSliceResetSquash l s
  | .sliceResetDone slice => Sys2Proof.Machine.execSliceResetDone slice s
  | .sliceFreeze l => Sys2Proof.Machine.execSliceFreeze l s
  | .sliceFreezeDone slice => Sys2Proof.Machine.execSliceFreezeDone slice s
  | .sliceThaw l => Sys2Proof.Machine.execSliceThaw l s
  | .sliceSave l => Sys2Proof.Machine.execSliceSave l s
  | .sliceRestorePrepare l => Sys2Proof.Machine.execSliceRestorePrepare l s
  | .sliceRestore l => Sys2Proof.Machine.execSliceRestore l s
  | .drainCeilingExpiry slice => Sys2Proof.Machine.execDrainCeilingExpiry slice s
  | .offerExpiry slice => Sys2Proof.Machine.execOfferExpiry slice s
  | .rosterReservationExpiry slice => Sys2Proof.Machine.execRosterReservationExpiry slice s
  | .meterLatchAll l => Sys2Proof.Machine.execMeterLatchAll l s
  | .minuteLatch => Sys2Proof.Machine.execMinuteLatch s
  | .ringEntryWritten slice => Sys2Proof.Machine.execRingEntryWritten slice s
  | .logClearMain l => Sys2Proof.Machine.execLogClearMain l s
  | .logClearReserve l => Sys2Proof.Machine.execLogClearReserve l s
  | .logClearBoth l => Sys2Proof.Machine.execLogClearBoth l s
  | .wardenSwitchback l => Sys2Proof.Machine.execWardenSwitchback l s
  | .unlock l => Sys2Proof.Machine.execUnlock l s
  | .lifecycleRequestIntegrator l => Sys2Proof.Machine.execLifecycleRequestIntegrator l s
  | .lifecycleRequestFielded l => Sys2Proof.Machine.execLifecycleRequestFielded l s
  | .lifecycleRequestReturned l => Sys2Proof.Machine.execLifecycleRequestReturned l s
  | .scrap l => Sys2Proof.Machine.execScrap l s
  | .lcsEnergyWait => Sys2Proof.Machine.execLcsEnergyWait s
  | .ownerEnrol l => Sys2Proof.Machine.execOwnerEnrol l s
  | .ownerEnrolRoster l => Sys2Proof.Machine.execOwnerEnrolRoster l s
  | .identityAttest l => Sys2Proof.Machine.execIdentityAttest l s
  | .vaultResealStage l => Sys2Proof.Machine.execVaultResealStage l s
  | .vaultResealCommit l => Sys2Proof.Machine.execVaultResealCommit l s
  | .vaultResealAbandon l => Sys2Proof.Machine.execVaultResealAbandon l s
  | .vaultRekey l => Sys2Proof.Machine.execVaultRekey l s
  | .rekeyRangeDone => Sys2Proof.Machine.execRekeyRangeDone s
  | .custodianSessionOpen l => Sys2Proof.Machine.execCustodianSessionOpen l s
  | .custodianSessionApprove l => Sys2Proof.Machine.execCustodianSessionApprove l s
  | .custodianSessionWithdraw l => Sys2Proof.Machine.execCustodianSessionWithdraw l s
  | .custodianSessionClose l => Sys2Proof.Machine.execCustodianSessionClose l s
  | .custodianSessionStatus l => Sys2Proof.Machine.execCustodianSessionStatus l s
  | .membershipInstall l => Sys2Proof.Machine.execMembershipInstall l s
  | .domainCreate l => Sys2Proof.Machine.execDomainCreate l s
  | .domainSetStandby l => Sys2Proof.Machine.execDomainSetStandby l s
  | .domainHandover l => Sys2Proof.Machine.execDomainHandover l s
  | .engineAbort l => Sys2Proof.Machine.execEngineAbort l s
  | .lkuTrieInsert index irq => Sys2Proof.Machine.execLkuTrieInsert index irq s
  | .lkuTrieDelete index irq => Sys2Proof.Machine.execLkuTrieDelete index irq s
  | .lkuTrieReplace index irq => Sys2Proof.Machine.execLkuTrieReplace index irq s
  | .lkuTrieRead index irq => Sys2Proof.Machine.execLkuTrieRead index irq s
  | .lkuTrieSearch index irq => Sys2Proof.Machine.execLkuTrieSearch index irq s
  | .lkuEmInsert index irq => Sys2Proof.Machine.execLkuEmInsert index irq s
  | .lkuEmDelete index irq => Sys2Proof.Machine.execLkuEmDelete index irq s
  | .lkuEmReplace index irq => Sys2Proof.Machine.execLkuEmReplace index irq s
  | .lkuEmRead index irq => Sys2Proof.Machine.execLkuEmRead index irq s
  | .lkuDomainRead index irq => Sys2Proof.Machine.execLkuDomainRead index irq s
  | .lkuPeerRead index irq => Sys2Proof.Machine.execLkuPeerRead index irq s
  | .lkuStashRead index irq => Sys2Proof.Machine.execLkuStashRead index irq s
  | .lkuBatch irq records => Sys2Proof.Machine.execLkuBatch irq records s
  | .stashRetry => Sys2Proof.Machine.execStashRetry s
  | .trieNodeFree => Sys2Proof.Machine.execTrieNodeFree s
  | .trieScrub node word bits => Sys2Proof.Machine.execTrieScrub node word bits s
  | .tmpFuseCmd key source => Sys2Proof.Machine.execTmpFuseCmd key source s
  | .fuseBurnDone readBack => Sys2Proof.Machine.execFuseBurnDone readBack s
  | .entRawCtrl path value => Sys2Proof.Machine.execEntRawCtrl path value s
  | .entRawData path => Sys2Proof.Machine.execEntRawData path s
  | .logSel path value => Sys2Proof.Machine.execLogSel path value s
  | .logSelFetchDone => Sys2Proof.Machine.execLogSelFetchDone s
  | .pwrCellFaultClear path value => Sys2Proof.Machine.execPwrCellFaultClear path value s
  | .reg64LowRead path offset => Sys2Proof.Machine.execReg64LowRead path offset s
  | .registerAccessInvalid path offset width write => Sys2Proof.Machine.execRegisterAccessInvalid path offset width write s
  | .registerWrite path offset value env => Sys2Proof.Machine.execRegisterWrite path offset value env s
  | .msixUnmask vector => Sys2Proof.Machine.execMsixUnmask vector s
  | .pasidUnmapped page pasid posted => Sys2Proof.Machine.execPasidUnmapped page pasid posted s
  | .pcieRequestRefused bar posted => Sys2Proof.Machine.execPcieRequestRefused bar posted s
  | .configRequest offset pasid => Sys2Proof.Machine.execConfigRequest offset pasid s
  | .pcieReset kind => Sys2Proof.Machine.execPcieReset kind s
  | .perstNRelease => Sys2Proof.Machine.execPerstNRelease s
  | .d3hotEntry => Sys2Proof.Machine.execD3hotEntry s
  | .d0Return => Sys2Proof.Machine.execD0Return s
  | .busMasterDisable => Sys2Proof.Machine.execBusMasterDisable s
  | .pasidEnableClear => Sys2Proof.Machine.execPasidEnableClear s
  | .spdmMessage secured keyProg => Sys2Proof.Machine.execSpdmMessage secured keyProg s
  | .ideStreamSecure => Sys2Proof.Machine.execIdeStreamSecure s
  | .ideStreamInsecure => Sys2Proof.Machine.execIdeStreamInsecure s
  | .modRstN low taken env => Sys2Proof.Machine.execModRstN low taken env s
  | .smbusTelemetry pec => Sys2Proof.Machine.execSmbusTelemetry pec s
  | .smbusPower target pec => Sys2Proof.Machine.execSmbusPower target pec s
  | .smbusSetAddr addr pec => Sys2Proof.Machine.execSmbusSetAddr addr pec s
  | .smbusRead => Sys2Proof.Machine.execSmbusRead s
  | .smbusWrite value pec env => Sys2Proof.Machine.execSmbusWrite value pec env s
  | .smbusReadBurst => Sys2Proof.Machine.execSmbusReadBurst s
  | .smbusWriteBurst values pec env => Sys2Proof.Machine.execSmbusWriteBurst values pec env s
  | .smbusUnknownCommand byte => Sys2Proof.Machine.execSmbusUnknownCommand byte s
  | .lcsRead => Sys2Proof.Machine.execLcsRead s
  | .dbgChallenge => Sys2Proof.Machine.execDbgChallenge s
  | .dbgAuth auth sig => Sys2Proof.Machine.execDbgAuth auth sig s
  | .dbgStatus => Sys2Proof.Machine.execDbgStatus s
  | .dbgMem addr len data => Sys2Proof.Machine.execDbgMem addr len data s
  | .extest => Sys2Proof.Machine.execExtest s
  | .samplePreload => Sys2Proof.Machine.execSamplePreload s
  | .idcode => Sys2Proof.Machine.execIdcode s
  | .highz => Sys2Proof.Machine.execHighz s
  | .clamp => Sys2Proof.Machine.execClamp s
  | .extestPulse => Sys2Proof.Machine.execExtestPulse s
  | .extestTrain => Sys2Proof.Machine.execExtestTrain s
  | .bypass => Sys2Proof.Machine.execBypass s
  | .tapReset => Sys2Proof.Machine.execTapReset s
  | .vinValid env => Sys2Proof.Machine.execVinValid env s
  | .domainReloadLocal domain => Sys2Proof.Machine.execDomainReloadLocal domain s
  | .startEndTimeout => Sys2Proof.Machine.execStartEndTimeout s
  | .vinLockout mv cellMv tempMax => Sys2Proof.Machine.execVinLockout mv cellMv tempMax s
  | .reserveEntry => Sys2Proof.Machine.execReserveEntry s
  | .reserveExhaustion cellMv => Sys2Proof.Machine.execReserveExhaustion cellMv s
  | .capFloorReached => Sys2Proof.Machine.execCapFloorReached s
  | .capFullReached => Sys2Proof.Machine.execCapFullReached s
  | .cellTempReading ohms temp => Sys2Proof.Machine.execCellTempReading ohms temp s
  | .chargeStepRestore => Sys2Proof.Machine.execChargeStepRestore s
  | .chargerPhaseChange cellMv cellUa => Sys2Proof.Machine.execChargerPhaseChange cellMv cellUa s
  | .prechargeTimeout => Sys2Proof.Machine.execPrechargeTimeout s
  | .chargeTimeout => Sys2Proof.Machine.execChargeTimeout s
  | .cellFault code => Sys2Proof.Machine.execCellFault code s
  | .cellFaultRecheck cellMv ohms => Sys2Proof.Machine.execCellFaultRecheck cellMv ohms s
  | .cellInserted cellMv => Sys2Proof.Machine.execCellInserted cellMv s
  | .coulombCounterTick ua => Sys2Proof.Machine.execCoulombCounterTick ua s
  | .qestDailyUpdate meanTemp => Sys2Proof.Machine.execQestDailyUpdate meanTemp s
  | .unitClockStop pool unit => Sys2Proof.Machine.execUnitClockStop pool unit s
  | .junctionTempSample temps => Sys2Proof.Machine.execJunctionTempSample temps s
  | .knownAnswerTest pool unit pass => Sys2Proof.Machine.execKnownAnswerTest pool unit pass s
  | .unitCheckFailure pool unit cause => Sys2Proof.Machine.execUnitCheckFailure pool unit cause s
  | .spareSwitchIn pool unit => Sys2Proof.Machine.execSpareSwitchIn pool unit s
  | .maskReseed pool unit => Sys2Proof.Machine.execMaskReseed pool unit s
  | .healthWindowEnd cell samples => Sys2Proof.Machine.execHealthWindowEnd cell samples s
  | .balancingPeriodEnd cell ones => Sys2Proof.Machine.execBalancingPeriodEnd cell ones s
  | .seedBlockClose => Sys2Proof.Machine.execSeedBlockClose s
  | .entCheckpoint => Sys2Proof.Machine.execEntCheckpoint s
  | .reseedDue inst => Sys2Proof.Machine.execReseedDue inst s
  | .drbgReseed inst => Sys2Proof.Machine.execDrbgReseed inst s
  | .drbgWardenReinstantiate => Sys2Proof.Machine.execDrbgWardenReinstantiate s
  | .scrubRead symbols => Sys2Proof.Machine.execScrubRead symbols s
  | .rowRemapCopyDone => Sys2Proof.Machine.execRowRemapCopyDone s
  | .keyStoreCommit => Sys2Proof.Machine.execKeyStoreCommit s
  | .keyStoreCompaction => Sys2Proof.Machine.execKeyStoreCompaction s
  | .cardInserted port => Sys2Proof.Machine.execCardInserted port s
  | .cardRemoved port => Sys2Proof.Machine.execCardRemoved port s
  | .cardOvercurrent port => Sys2Proof.Machine.execCardOvercurrent port s
  | .cardTimeout port => Sys2Proof.Machine.execCardTimeout port s
  | .cardSessionExpiry port => Sys2Proof.Machine.execCardSessionExpiry port s
  | .approvalWindowExpiry number => Sys2Proof.Machine.execApprovalWindowExpiry number s
  | .tamperAlarm source detail => Sys2Proof.Machine.execTamperAlarm source detail s
  | .seedKillDone => Sys2Proof.Machine.execSeedKillDone s
  | .wardenCoreFailure cause standbyOk selfTest => Sys2Proof.Machine.execWardenCoreFailure cause standbyOk selfTest s
  | .failedCoreSelfTest pass => Sys2Proof.Machine.execFailedCoreSelfTest pass s
  | .wardenCheckpoint => Sys2Proof.Machine.execWardenCheckpoint s
  | .logStagingFlush => Sys2Proof.Machine.execLogStagingFlush s
  | .portLinkChange port up => Sys2Proof.Machine.execPortLinkChange port up s
  | .pauseFrame port on => Sys2Proof.Machine.execPauseFrame port on s
  | .addressResolution port own => Sys2Proof.Machine.execAddressResolution port own s
  | .foreignFrame port => Sys2Proof.Machine.execForeignFrame port s
  | .ptpMessage offset => Sys2Proof.Machine.execPtpMessage offset s
  | .ptpLock offset => Sys2Proof.Machine.execPtpLock offset s
  | .reassemblyTimeout session message => Sys2Proof.Machine.execReassemblyTimeout session message s
  | .requestMessage head desc input => Sys2Proof.Machine.execRequestMessage head desc input s
  | .responseMessage head body => Sys2Proof.Machine.execResponseMessage head body s
  | .sessionBurgee head body => Sys2Proof.Machine.execSessionBurgee head body s
  | .ackOnlyBurgee head => Sys2Proof.Machine.execAckOnlyBurgee head s
  | .beacon cluster fpr node flags => Sys2Proof.Machine.execBeacon cluster fpr node flags s
  | .claimMessage head domain reason pennant owner standby sequence => Sys2Proof.Machine.execClaimMessage head domain reason pennant owner standby sequence s
  | .snapshotMessage head domain kind pennant sequence items => Sys2Proof.Machine.execSnapshotMessage head domain kind pennant sequence items s
  | .snapshotInstall domain => Sys2Proof.Machine.execSnapshotInstall domain s
  | .resyncRequest head domain pennant => Sys2Proof.Machine.execResyncRequest head domain pennant s
  | .resyncStored head domain pennant sequence => Sys2Proof.Machine.execResyncStored head domain pennant sequence s
  | .resyncReject head domain pennant => Sys2Proof.Machine.execResyncReject head domain pennant s
  | .resyncHandover head domain pennant => Sys2Proof.Machine.execResyncHandover head domain pennant s
  | .sessionHello h => Sys2Proof.Machine.execSessionHello h s
  | .sessionAccept h => Sys2Proof.Machine.execSessionAccept h s
  | .sessionFinish h => Sys2Proof.Machine.execSessionFinish h s
  | .sessionClose head reason => Sys2Proof.Machine.execSessionClose head reason s
  | .retransmitTimer session message => Sys2Proof.Machine.execRetransmitTimer session message s
  | .staleSession session => Sys2Proof.Machine.execStaleSession session s
  | .ackDelayExpiry session => Sys2Proof.Machine.execAckDelayExpiry session s
  | .helloResend hid => Sys2Proof.Machine.execHelloResend hid s
  | .finishTimeout hid => Sys2Proof.Machine.execFinishTimeout hid s
  | .sessionConfirmTimeout session => Sys2Proof.Machine.execSessionConfirmTimeout session s
  | .sessionRekey session => Sys2Proof.Machine.execSessionRekey session s
  | .beaconPeriod => Sys2Proof.Machine.execBeaconPeriod s
  | .burgeePeriod => Sys2Proof.Machine.execBurgeePeriod s
  | .burgeeMissed node => Sys2Proof.Machine.execBurgeeMissed node s
  | .pathUnmark node port => Sys2Proof.Machine.execPathUnmark node port s
  | .nodeIdAssign => Sys2Proof.Machine.execNodeIdAssign s
  | .nodeIdConfirm => Sys2Proof.Machine.execNodeIdConfirm s
  | .busMasterEnable => Sys2Proof.Machine.execBusMasterEnable s
  | .postedWriteCreditReturn => Sys2Proof.Machine.execPostedWriteCreditReturn s

end Sys2Proof.Machine
end

