-- ==== Sys2Proof/WellFormed.lean ====
section
/-! DEFINITION. Which terms of `Instr` a wire, a register or a record of the module can carry: the ranges of operands that are
plain numbers.  A term outside them names no command. -/

namespace Sys2Proof

/-- A number below a bound. -/
def below (n k : Nat) : Bool := decide (k < n)

/-- A list of a fixed length. -/
def hasLength {α : Type} (n : Nat) (l : List α) : Bool := l.length == n

/-- A pool number of **R36**. -/
def isPool (p : Nat) : Bool := 1 ≤ p && p ≤ 7

/-- A BAR of **R462**. -/
def isBar (b : Nat) : Bool := b == 0 || b == 2 || b == 4

/-- A fault code of **R455**. -/
def isCellFault (c : Nat) : Bool := 1 ≤ c && c ≤ 8

/-- A cause of **R414**. -/
def isCoreCause (c : Nat) : Bool := 1 ≤ c && c ≤ 5

/-- Every operand of the command lies in its range. -/
def wellFormed (i : Instr) : Bool :=
  match i with
  | .sqTailDoorbell _ => true
  | .cqHeadDoorbell _ => true
  | .descriptorFetch => true
  | .descriptorArrival slice queue descs => below 256 slice && below 16 queue && ((descs.getD []).length ≤ 8)
  | .landingRoomFreed => true
  | .requestLand _ _ => true
  | .tokenRefill => true
  | .nonEnsignDispatch seqr => below 48 seqr
  | .sequencerFree seqr => below 48 seqr
  | .operationBoundary pool unit => isPool pool && below 64 unit
  | .pinTranslate _ _ => true
  | .pinVerifyPvv _ _ => true
  | .pinVerifyOffset _ _ => true
  | .pinVerifyCompare _ _ => true
  | .pvvGenerate _ _ => true
  | .offsetGenerate _ _ => true
  | .cvvVerify _ _ => true
  | .cvvGenerate _ _ => true
  | .arqcVerify _ _ => true
  | .arqcVerifyArpc _ _ => true
  | .arpcGenerate _ _ => true
  | .scriptMac _ _ => true
  | .scriptEncrypt _ _ => true
  | .macGenerate _ _ => true
  | .macVerify _ _ => true
  | .dukptPinTranslate _ _ => true
  | .dukptMacVerify _ _ => true
  | .dukptDecrypt _ _ => true
  | .dukptIkExport _ _ => true
  | .encrypt _ _ => true
  | .decrypt _ _ => true
  | .gcmEncrypt _ _ => true
  | .gcmDecrypt _ _ => true
  | .keyImport _ _ => true
  | .keyExport _ _ => true
  | .keyGenerate _ _ => true
  | .keyDelete _ _ => true
  | .keyInfo _ _ => true
  | .keyComponentsCombine _ _ => true
  | .keyAttest _ _ => true
  | .publicKeyImport _ _ => true
  | .publicKeyExport _ _ => true
  | .sha256Blocks _ _ => true
  | .sha512Blocks _ _ => true
  | .keccakAbsorb _ _ => true
  | .keccakSqueeze _ _ => true
  | .hmacGenerate _ _ => true
  | .hmacVerify _ _ => true
  | .random _ _ => true
  | .rsaSign _ _ => true
  | .rsaVerify _ _ => true
  | .rsaDecrypt _ _ => true
  | .rsaEncrypt _ _ => true
  | .rsaKeygen _ _ => true
  | .ecdsaSign _ _ => true
  | .ecdsaVerify _ _ => true
  | .eddsaSign _ _ => true
  | .eddsaVerify _ _ => true
  | .ecdhDerive _ _ => true
  | .ecKeygen _ _ => true
  | .modExp _ _ => true
  | .modMul _ _ => true
  | .mlkemKeygen _ _ => true
  | .mlkemEncaps _ _ => true
  | .mlkemDecaps _ _ => true
  | .mldsaKeygen _ _ => true
  | .mldsaSign _ _ _ => true
  | .mldsaVerify _ _ => true
  | .slhdsaKeygen _ _ => true
  | .slhdsaSign _ _ => true
  | .slhdsaVerify _ _ => true
  | .statefulKeygen _ _ => true
  | .statefulSign _ _ => true
  | .statefulVerify _ _ => true
  | .statefulRemaining _ _ => true
  | .hqcKeygen _ _ => true
  | .hqcEncaps _ _ => true
  | .hqcDecaps _ _ => true
  | .mcelieceKeygen _ _ => true
  | .mcelieceEncaps _ _ => true
  | .mcelieceDecaps _ _ => true
  | .hybridKemKeygen _ _ => true
  | .hybridEncaps _ _ => true
  | .hybridDecaps _ _ => true
  | .hybridSignKeygen _ _ => true
  | .hybridSign _ _ _ => true
  | .hybridVerify _ _ => true
  | .echo _ _ => true
  | .meterLatch _ _ => true
  | .meterRead _ _ => true
  | .sliceInfo _ _ => true
  | .coreCompletionInterrupt pool unit => isPool pool && below 64 unit
  | .releaseStep seqr => below 48 seqr
  | .requestForward _ => true
  | .blindWaitResume => true
  | .rngWaitResume => true
  | .powerStateRun _ => true
  | .powerStateReady _ => true
  | .powerStateSleep _ => true
  | .readyDrainDone => true
  | .imageStage _ => true
  | .imageActivate _ => true
  | .queueCreate _ => true
  | .queueDelete _ => true
  | .sliceResetDrain _ => true
  | .sliceResetSquash _ => true
  | .sliceResetDone slice => below 256 slice
  | .sliceFreeze _ => true
  | .sliceFreezeDone slice => below 256 slice
  | .sliceThaw _ => true
  | .sliceSave _ => true
  | .sliceRestorePrepare _ => true
  | .sliceRestore _ => true
  | .drainCeilingExpiry slice => below 256 (slice.getD 0)
  | .offerExpiry slice => below 256 slice
  | .rosterReservationExpiry slice => below 256 slice
  | .meterLatchAll _ => true
  | .minuteLatch => true
  | .ringEntryWritten slice => below 256 slice
  | .logClearMain _ => true
  | .logClearReserve _ => true
  | .logClearBoth _ => true
  | .wardenSwitchback _ => true
  | .unlock _ => true
  | .lifecycleRequestIntegrator _ => true
  | .lifecycleRequestFielded _ => true
  | .lifecycleRequestReturned _ => true
  | .scrap _ => true
  | .lcsEnergyWait => true
  | .ownerEnrol _ => true
  | .ownerEnrolRoster _ => true
  | .identityAttest _ => true
  | .vaultResealStage _ => true
  | .vaultResealCommit _ => true
  | .vaultResealAbandon _ => true
  | .vaultRekey _ => true
  | .rekeyRangeDone => true
  | .custodianSessionOpen _ => true
  | .custodianSessionApprove _ => true
  | .custodianSessionWithdraw _ => true
  | .custodianSessionClose _ => true
  | .custodianSessionStatus _ => true
  | .membershipInstall _ => true
  | .domainCreate _ => true
  | .domainSetStandby _ => true
  | .domainHandover _ => true
  | .engineAbort _ => true
  | .lkuTrieInsert _ _ => true
  | .lkuTrieDelete _ _ => true
  | .lkuTrieReplace _ _ => true
  | .lkuTrieRead _ _ => true
  | .lkuTrieSearch _ _ => true
  | .lkuEmInsert _ _ => true
  | .lkuEmDelete _ _ => true
  | .lkuEmReplace _ _ => true
  | .lkuEmRead _ _ => true
  | .lkuDomainRead _ _ => true
  | .lkuPeerRead _ _ => true
  | .lkuStashRead _ _ => true
  | .lkuBatch _ records => ((records.getD []).all fun r => r.operand.length == 8)
  | .stashRetry => true
  | .trieNodeFree => true
  | .trieScrub node word bits => below 49152 node && below 128 word && below 73 bits
  | .tmpFuseCmd _ _ => true
  | .fuseBurnDone _ => true
  | .entRawCtrl _ _ => true
  | .entRawData _ => true
  | .logSel _ _ => true
  | .logSelFetchDone => true
  | .pwrCellFaultClear _ _ => true
  | .reg64LowRead _ offset => below 16777216 offset
  | .registerAccessInvalid _ offset width _ => below 16777216 offset && below 256 width
  | .registerWrite _ offset _ _ => below 16777216 offset
  | .msixUnmask vector => below 2048 vector
  | .pasidUnmapped _ _ _ => true
  | .pcieRequestRefused bar _ => isBar bar
  | .configRequest offset _ => below 4096 offset
  | .pcieReset _ => true
  | .perstNRelease => true
  | .d3hotEntry => true
  | .d0Return => true
  | .busMasterDisable => true
  | .pasidEnableClear => true
  | .spdmMessage _ _ => true
  | .ideStreamSecure => true
  | .ideStreamInsecure => true
  | .modRstN _ _ _ => true
  | .smbusTelemetry _ => true
  | .smbusPower _ _ => true
  | .smbusSetAddr _ _ => true
  | .smbusRead => true
  | .smbusWrite _ _ _ => true
  | .smbusReadBurst => true
  | .smbusWriteBurst values _ _ => hasLength 8 values
  | .smbusUnknownCommand _ => true
  | .lcsRead => true
  | .dbgChallenge => true
  | .dbgAuth auth _ => hasLength 4808 auth
  | .dbgStatus => true
  | .dbgMem addr len data => below 1099511627776 addr && ((data.map List.length).getD len == len)
  | .extest => true
  | .samplePreload => true
  | .idcode => true
  | .highz => true
  | .clamp => true
  | .extestPulse => true
  | .extestTrain => true
  | .bypass => true
  | .tapReset => true
  | .vinValid _ => true
  | .domainReloadLocal domain => below 65536 domain
  | .startEndTimeout => true
  | .vinLockout mv cellMv _ => below 65536 mv && below 65536 cellMv
  | .reserveEntry => true
  | .reserveExhaustion cellMv => below 65536 cellMv
  | .capFloorReached => true
  | .capFullReached => true
  | .cellTempReading _ _ => true
  | .chargeStepRestore => true
  | .chargerPhaseChange cellMv _ => below 65536 cellMv
  | .prechargeTimeout => true
  | .chargeTimeout => true
  | .cellFault code => isCellFault code
  | .cellFaultRecheck cellMv _ => below 65536 cellMv
  | .cellInserted cellMv => below 65536 cellMv
  | .coulombCounterTick _ => true
  | .qestDailyUpdate _ => true
  | .unitClockStop pool unit => isPool pool && below 64 unit
  | .junctionTempSample temps => hasLength 4 temps
  | .knownAnswerTest pool unit _ => isPool pool && below 64 unit
  | .unitCheckFailure pool unit cause => isPool pool && below 64 unit && below 256 cause
  | .spareSwitchIn pool unit => isPool pool && below 64 unit
  | .maskReseed pool unit => isPool pool && below 64 unit
  | .healthWindowEnd cell _ => below 64 cell
  | .balancingPeriodEnd cell _ => below 64 cell
  | .seedBlockClose => true
  | .entCheckpoint => true
  | .reseedDue inst => below 16 inst
  | .drbgReseed inst => below 16 inst
  | .drbgWardenReinstantiate => true
  | .scrubRead symbols => below 73 symbols
  | .rowRemapCopyDone => true
  | .keyStoreCommit => true
  | .keyStoreCompaction => true
  | .cardInserted port => below 2 port
  | .cardRemoved port => below 2 port
  | .cardOvercurrent port => below 2 port
  | .cardTimeout port => below 2 port
  | .cardSessionExpiry port => below 2 port
  | .approvalWindowExpiry number => below 65536 number
  | .tamperAlarm source _ => below 11 source
  | .seedKillDone => true
  | .wardenCoreFailure cause _ _ => isCoreCause cause
  | .failedCoreSelfTest _ => true
  | .wardenCheckpoint => true
  | .logStagingFlush => true
  | .portLinkChange port _ => below 2 port
  | .pauseFrame port _ => below 2 port
  | .addressResolution port _ => below 2 port
  | .foreignFrame port => below 2 port
  | .ptpMessage _ => true
  | .ptpLock _ => true
  | .reassemblyTimeout _ _ => true
  | .requestMessage _ _ _ => true
  | .responseMessage _ _ => true
  | .sessionBurgee _ _ => true
  | .ackOnlyBurgee _ => true
  | .beacon _ fpr node _ => hasLength 32 fpr && below 65536 node
  | .claimMessage _ domain _ pennant owner standby sequence => below 65536 domain && below 4294967296 pennant && below 65536 owner && below 65536 standby && below 18446744073709551616 sequence
  | .snapshotMessage _ domain _ pennant sequence _ => below 65536 domain && below 4294967296 pennant && below 18446744073709551616 sequence
  | .snapshotInstall domain => below 65536 domain
  | .resyncRequest _ domain pennant => below 65536 domain && below 4294967296 pennant
  | .resyncStored _ domain pennant sequence => below 65536 domain && below 4294967296 pennant && below 18446744073709551616 sequence
  | .resyncReject _ domain pennant => below 65536 domain && below 4294967296 pennant
  | .resyncHandover _ domain pennant => below 65536 domain && below 4294967296 pennant
  | .sessionHello _ => true
  | .sessionAccept _ => true
  | .sessionFinish _ => true
  | .sessionClose _ _ => true
  | .retransmitTimer _ _ => true
  | .staleSession _ => true
  | .ackDelayExpiry _ => true
  | .helloResend _ => true
  | .finishTimeout _ => true
  | .sessionConfirmTimeout _ => true
  | .sessionRekey _ => true
  | .beaconPeriod => true
  | .burgeePeriod => true
  | .burgeeMissed node => below 65536 node
  | .pathUnmark node port => below 65536 node && below 2 port
  | .nodeIdAssign => true
  | .nodeIdConfirm => true
  | .busMasterEnable => true
  | .postedWriteCreditReturn => true

end Sys2Proof
end

