-- ==== Sys2Proof/Safety.lean ====
section
/-! DEFINITION. What the claims call a good state and a safe step: memory in its canonical form, fuses that never return to 0, and
the states that commands lead to. -/

namespace Sys2Proof.Machine

/-- Both addressed memories stand in their canonical form: the internal space (**R327**) and the management buffer (**R469**). -/
structure Inv (s : State) : Prop where
  /-- The internal space. -/
  cells : s.mem.wf = true
  /-- The management buffer. -/
  buf : cellsWf s.mgt.buf = true

/-- Every fuse of `f` that is blown is blown in `g` (**R392**). -/
def FusesKept (f g : BitVec 16384) : Prop := f &&& g = f

/-- A command of code `c` stands at its sequencer and nothing turns it away: no key fails to be fetched, the handle it
creates is free, its own checks pass and its DRBG calls are made (**R75**, **R138**, **R139**, **R244**).  `r` is the request,
`k` its keys, `u` the state in which it computes. -/
structure AtCommand (c : Nat) (pre : Pre) (s : State) (rid : Nat) (r : Req) (k : Keys) (u : State) : Prop where
  /-- The request is live. -/
  found : findReq s rid = some r
  /-- It executes. -/
  phase : r.phase = .executing
  /-- At a sequencer. -/
  seqr : r.seqr.isSome = true
  /-- It carries the code. -/
  code : r.desc.code = c
  /-- Its keys are fetched and its checks pass. -/
  keys : ∃ row t, catalogue c = some row ∧ fetchKeys row r s = .inl (k, t) ∧
    (if c = 0x0801 then none else freshFault row r t) = none ∧ pre t r k = none ∧ sizeFault t r k = none ∧
    drawCalls r t = .go u

/-- The confirmation of both keys passes (**R119**). -/
def Confirmed (k : Keys) : Prop := (∀ x, k.a = some x → x.confirmed = true) ∧ (∀ x, k.b = some x → x.confirmed = true)

/-- How an answer leaves its command (**R72**, **R194**, **R360**): a long operation of PENNON or STREAMER detaches and its
unit keeps the answer, else the command concludes with it. -/
def delivered (r : Req) (k : Keys) (a : Answer) (s : State) : State :=
  if !r.isEnsign && a.status = stOk && detaches r.desc (boundOf r k) then detach r k a s else conclude r a s

/-- The command completes with this answer, and nothing else than its counted issue slots and its drawn free values
changes before the answer is delivered. -/
def Answers (i : Instr) (s : State) (r : Req) (k : Keys) (u : State) (a : Answer) : Prop :=
  a.output.length ≤ r.desc.outCap.toNat →
    ∃ ops, exec i s = .next (delivered r k { a with ops := ops }
      (countOps ops { u with freeCtr := u.freeCtr + drawsPerCommand }))

/-- The descriptor of a launch with its code. -/
def launched (code : Nat) (l : Launch) : Desc := { l.desc with command := BitVec.ofNat 16 code }

/-- Code and launch of a management row (**R89**): what the row writes into MGT_DESC and MGT_CMD. -/
def managed (i : Instr) : Option (Nat × Launch) :=
  match i with
  | .powerStateRun l => some (0x6001, withOp 16 4 l)
  | .powerStateReady l => some (0x6001, withOp 16 3 l)
  | .powerStateSleep l => some (0x6001, withOp 16 2 l)
  | .imageStage l => some (0x6002, l)
  | .imageActivate l => some (0x6003, l)
  | .queueCreate l => some (0x6004, l)
  | .queueDelete l => some (0x6005, l)
  | .sliceResetDrain l => some (0x6006, withOp 2 0 l)
  | .sliceResetSquash l => some (0x6006, withOp 2 1 l)
  | .sliceFreeze l => some (0x6007, withOp 2 0 l)
  | .sliceThaw l => some (0x6007, withOp 2 1 l)
  | .sliceSave l => some (0x6008, l)
  | .sliceRestorePrepare l => some (0x6009, withOp 16 1 l)
  | .sliceRestore l => some (0x6009, withOp 16 2 l)
  | .meterLatchAll l => some (0x600A, l)
  | .logClearMain l => some (0x600B, withOp 4 1 l)
  | .logClearReserve l => some (0x600B, withOp 4 2 l)
  | .logClearBoth l => some (0x600B, withOp 4 3 l)
  | .wardenSwitchback l => some (0x600C, l)
  | .unlock l => some (0x600D, l)
  | .lifecycleRequestIntegrator l => some (0x600E, withOp 16 2 l)
  | .lifecycleRequestFielded l => some (0x600E, withOp 16 3 l)
  | .lifecycleRequestReturned l => some (0x600E, withOp 16 4 l)
  | .scrap l => some (0x600F, l)
  | .ownerEnrol l => some (0x6010, withOp 16 1 l)
  | .ownerEnrolRoster l => some (0x6010, withOp 16 2 l)
  | .identityAttest l => some (0x6011, l)
  | .vaultResealStage l => some (0x6012, withOp 16 1 l)
  | .vaultResealCommit l => some (0x6012, withOp 16 2 l)
  | .vaultResealAbandon l => some (0x6012, withOp 16 3 l)
  | .vaultRekey l => some (0x6013, l)
  | .custodianSessionOpen l => some (0x6014, withOp 16 1 l)
  | .custodianSessionApprove l => some (0x6014, withOp 16 2 l)
  | .custodianSessionWithdraw l => some (0x6014, withOp 16 3 l)
  | .custodianSessionClose l => some (0x6014, withOp 16 4 l)
  | .custodianSessionStatus l => some (0x6014, withOp 16 5 l)
  | .membershipInstall l => some (0x6015, l)
  | .domainCreate l => some (0x6016, withOp 16 1 l)
  | .domainSetStandby l => some (0x6016, withOp 16 2 l)
  | .domainHandover l => some (0x6016, withOp 16 3 l)
  | .engineAbort l => some (0x6017, l)
  | _ => none

/-- The request that a command of the catalogue executes (**R82**-**R88**). -/
def executes (i : Instr) : Option Nat :=
  match i with
  | .pinTranslate rid _ => some rid
  | .pinVerifyPvv rid _ => some rid
  | .pinVerifyOffset rid _ => some rid
  | .pinVerifyCompare rid _ => some rid
  | .pvvGenerate rid _ => some rid
  | .offsetGenerate rid _ => some rid
  | .cvvVerify rid _ => some rid
  | .cvvGenerate rid _ => some rid
  | .arqcVerify rid _ => some rid
  | .arqcVerifyArpc rid _ => some rid
  | .arpcGenerate rid _ => some rid
  | .scriptMac rid _ => some rid
  | .scriptEncrypt rid _ => some rid
  | .macGenerate rid _ => some rid
  | .macVerify rid _ => some rid
  | .dukptPinTranslate rid _ => some rid
  | .dukptMacVerify rid _ => some rid
  | .dukptDecrypt rid _ => some rid
  | .dukptIkExport rid _ => some rid
  | .encrypt rid _ => some rid
  | .decrypt rid _ => some rid
  | .gcmEncrypt rid _ => some rid
  | .gcmDecrypt rid _ => some rid
  | .keyImport rid _ => some rid
  | .keyExport rid _ => some rid
  | .keyGenerate rid _ => some rid
  | .keyDelete rid _ => some rid
  | .keyInfo rid _ => some rid
  | .keyComponentsCombine rid _ => some rid
  | .keyAttest rid _ => some rid
  | .publicKeyImport rid _ => some rid
  | .publicKeyExport rid _ => some rid
  | .sha256Blocks rid _ => some rid
  | .sha512Blocks rid _ => some rid
  | .keccakAbsorb rid _ => some rid
  | .keccakSqueeze rid _ => some rid
  | .hmacGenerate rid _ => some rid
  | .hmacVerify rid _ => some rid
  | .random rid _ => some rid
  | .rsaSign rid _ => some rid
  | .rsaVerify rid _ => some rid
  | .rsaDecrypt rid _ => some rid
  | .rsaEncrypt rid _ => some rid
  | .rsaKeygen rid _ => some rid
  | .ecdsaSign rid _ => some rid
  | .ecdsaVerify rid _ => some rid
  | .eddsaSign rid _ => some rid
  | .eddsaVerify rid _ => some rid
  | .ecdhDerive rid _ => some rid
  | .ecKeygen rid _ => some rid
  | .modExp rid _ => some rid
  | .modMul rid _ => some rid
  | .mlkemKeygen rid _ => some rid
  | .mlkemEncaps rid _ => some rid
  | .mlkemDecaps rid _ => some rid
  | .mldsaKeygen rid _ => some rid
  | .mldsaSign rid _ _ => some rid
  | .mldsaVerify rid _ => some rid
  | .slhdsaKeygen rid _ => some rid
  | .slhdsaSign rid _ => some rid
  | .slhdsaVerify rid _ => some rid
  | .statefulKeygen rid _ => some rid
  | .statefulSign rid _ => some rid
  | .statefulVerify rid _ => some rid
  | .statefulRemaining rid _ => some rid
  | .hqcKeygen rid _ => some rid
  | .hqcEncaps rid _ => some rid
  | .hqcDecaps rid _ => some rid
  | .mcelieceKeygen rid _ => some rid
  | .mcelieceEncaps rid _ => some rid
  | .mcelieceDecaps rid _ => some rid
  | .hybridKemKeygen rid _ => some rid
  | .hybridEncaps rid _ => some rid
  | .hybridDecaps rid _ => some rid
  | .hybridSignKeygen rid _ => some rid
  | .hybridSign rid _ _ => some rid
  | .hybridVerify rid _ => some rid
  | .echo rid _ => some rid
  | .meterLatch rid _ => some rid
  | .meterRead rid _ => some rid
  | .sliceInfo rid _ => some rid
  | _ => none

/-- The path of a launch reaches the mailbox (**R459**, **R473**). -/
def mailboxReached (l : Launch) (s : State) : Bool :=
  match l.path with | .bar0 => barOpen s | .smbus => smbusUp s && (mgtFlags s).getLsbD 1

/-- A launch reaches an idle mailbox, and `u` is the state in which its command is looked at (**R421**, **R466**). -/
structure MailboxFree (code : Nat) (l : Launch) (s u : State) : Prop where
  /-- The path is open. -/
  path : mailboxReached l s = true
  /-- The other path writes nothing in the same cycle. -/
  single : l.env.dual = none
  /-- The Warden runs. -/
  up : wardenUp s = true
  /-- No command waits to start. -/
  held : s.mgt.held = []
  /-- No command runs. -/
  running : s.mgt.running = none
  /-- Descriptor and code stand in their registers. -/
  state : u = { s with mgt := { s.mgt with desc := l.desc, cmd := BitVec.ofNat 16 code, held := [] } }

/-- A launch reaches an idle mailbox and nothing turns its command away: descriptor, input, layout and state pass. -/
structure MailboxTakes (code : Nat) (l : Launch) (s : State) (inp : Bytes) (u : State) : Prop where
  /-- It is looked at. -/
  free : MailboxFree code l s u
  /-- Its descriptor is in order (**R77**, **R466**). -/
  fields : mgtCheck l.path (launched code l) u = none
  /-- So are the fields that the image governs. -/
  image : mgtFieldBad (launched code l) u = none
  /-- Its input is read (**R467**). -/
  input : mgtInput (launched code l) l.env u = some inp
  /-- The layout of its input is in order. -/
  layout : mgtInputBad (launched code l) inp u = none
  /-- The power state and the life-cycle state accept it. -/
  accepted : mgtTurnedAway (launched code l) u = false

/-- The command ends with `y` in `v`, and the mailbox is served again (**R421**). -/
def mailboxEnds (code : Nat) (l : Launch) (y : Done) (v : State) : State := pumpN 4 (mgtEnd (launched code l) l.path y v)

/-- The command waits in `v` for an event, running as `r`. -/
def mailboxWaits (r : Running) (v : State) : State := pumpN 4 { v with mgt := { v.mgt with running := some r } }

/-- One step from `s` is `t`. -/
def Steps (s t : State) : Prop := step s = .next t

/-- A run of steps. -/
inductive Reaches : State → State → Prop where
  /-- No step. -/
  | refl (s : State) : Reaches s s
  /-- One step more. -/
  | tail {s t u : State} (h : Reaches s t) (k : Steps t u) : Reaches s u

/-- A step that stops, and why. -/
def Stops (s : State) (f : Fault) : Prop := step s = .fault f

end Sys2Proof.Machine
end

