-- ==== Sys2Proof/Certificates/Slice0/Obligations.lean ====
section
/-! DEFINITION. The statements about the module, for the provers. -/

open Sys2Proof
open Sys2Proof.Machine

/-- A PIN or card verification command that stands at its sequencer with its keys fetched, confirmed and permitted
completes with the PIN block, verdict, PVV, offset or CVV that the rules compute, and a PIN block that does not
decode gives VERIFY_FAILED. (R121, R122, R124, R125, R126, R128, R119) -/
def Obligations.PinAndCardCommandsAnswer : Prop :=
  ∀ (s u : State) (rid : Nat) (r : Req) (k : Keys), Confirmed k →
    (AtCommand 0x0101 (prePin "P0" "EB" true) s rid r k u → Answers (.pinTranslate rid none) s r k u
      (match inputPin r k with
        | none => { status := stVerify }
        | some pin => { output := pinEncode (foutOf r) (matOf k.b) r.desc.panList pin (freeBytes u.freeCtr 16) })) ∧
    (AtCommand 0x0102 (prePin "V2" "VC" false) s rid r k u → Answers (.pinVerifyPvv rid none) s r k u
      (match inputPin r k with
        | none => { status := stVerify }
        | some pin => verdict (pvv (matOf k.b) r.desc.panList pin ((bytesAt r.input (pinLen (finOf r)) 1).headD 0).toNat ==
            nibbles (bytesAt r.input (pinLen (finOf r) + 1) 2)))) ∧
    (AtCommand 0x0103 (prePin "V1" "VC" false) s rid r k u → Answers (.pinVerifyOffset rid none) s r k u
      (match inputPin r k with
        | none => { status := stVerify }
        | some pin =>
          let o := pinLen (finOf r)
          let off := (nibbles (bytesAt r.input o 6)).takeWhile (· ≤ 9)
          let nat := naturalPin (matOf k.b) (bytesAt r.input (o + 6) 16) (bytesAt r.input (o + 22) 8) pin.length
          verdict (off.length == pin.length && List.zipWith (fun a b => (a + b) % 10) nat off == pin))) ∧
    (AtCommand 0x0104 (prePin "P0" "DB" true) s rid r k u → Answers (.pinVerifyCompare rid none) s r k u
      (verdict (match inputPin r k,
            pinDecode (foutOf r) (matOf k.b) r.desc.panList (bytesAt r.input (pinLen (finOf r)) (pinLen (foutOf r))) with
        | some a, some b => a == b
        | _, _ => false))) ∧
    (AtCommand 0x0105 (prePin "V2" "GC" false) s rid r k u → Answers (.pvvGenerate rid none) s r k u
      (match inputPin r k with
        | none => { status := stVerify }
        | some pin =>
          { output := packNibbles
              (pvv (matOf k.b) r.desc.panList pin ((bytesAt r.input (pinLen (finOf r)) 1).headD 0).toNat) })) ∧
    (AtCommand 0x0106 (prePin "V1" "GC" false) s rid r k u → Answers (.offsetGenerate rid none) s r k u
      (match inputPin r k with
        | none => { status := stVerify }
        | some pin =>
          let o := pinLen (finOf r)
          let off := List.zipWith (fun p q => (p + 10 - q) % 10) pin
            (naturalPin (matOf k.b) (bytesAt r.input o 16) (bytesAt r.input (o + 16) 8) pin.length)
          { output := packNibbles (off ++ List.replicate (12 - off.length) 15) })) ∧
    (AtCommand 0x0201 (preCvv "VC") s rid r k u → Answers (.cvvVerify rid none) s r k u
      (let v := (nibbles (bytesAt r.input 4 3)).takeWhile (· ≤ 9)
       verdict (cvv (matOf k.a) r.desc.panList (nibbles (bytesAt r.input 0 2)) ((nibbles (bytesAt r.input 2 2)).take 3)
         v.length == v))) ∧
    (AtCommand 0x0202 (preCvv "GC") s rid r k u → Answers (.cvvGenerate rid none) s r k u
      (let v := cvv (matOf k.a) r.desc.panList (nibbles (bytesAt r.input 0 2)) ((nibbles (bytesAt r.input 2 2)).take 3)
         (r.desc.p % 16)
       { output := packNibbles (v ++ List.replicate (6 - v.length) 15) }))

/-- An EMV, MAC or DUKPT command that stands at its sequencer with its keys fetched, confirmed and permitted
completes with the verdict, cryptogram, MAC, text or key block that the rules compute; ARQC_VERIFY_ARPC answers
an ARPC only after the ARQC verifies. (R129, R130, R131, R133, R135, R136, R119) -/
def Obligations.EmvMacAndDukptCommandsAnswer : Prop :=
  ∀ (s u : State) (rid : Nat) (r : Req) (k : Keys), Confirmed k →
    (AtCommand 0x0301 (preEmv "E0") s rid r k u → Answers (.arqcVerify rid none) s r k u
      (verdict (emvMac (aesOf k.a) (emvKey r k) (r.input.drop 11) == bytesAt r.input 3 8))) ∧
    (AtCommand 0x0302 (preEmv "E0") s rid r k u → Answers (.arqcVerifyArpc rid none) s r k u
      (if emvMac (aesOf k.a) (emvKey r k) (r.input.drop (11 + arpcExtra r)) == bytesAt r.input 3 8 then
          { output := emvArpc (aesOf k.a) (r.desc.p / 16 % 16) (emvKey r k) (bytesAt r.input 3 8)
              (bytesAt r.input 11 (arpcExtra r)) }
        else { status := stVerify })) ∧
    (AtCommand 0x0303 (preEmv "E0") s rid r k u → Answers (.arpcGenerate rid none) s r k u
      { output := emvArpc (aesOf k.a) (r.desc.p / 16 % 16) (emvKey r k) (bytesAt r.input 3 8)
          (bytesAt r.input 11 (arpcExtra r)) }) ∧
    (AtCommand 0x0304 (preEmv "E2") s rid r k u → Answers (.scriptMac rid none) s r k u
      { output := (emvMac (aesOf k.a) (emvKey r k) (r.input.drop 3)).take (r.desc.p / 16 % 16) }) ∧
    (AtCommand 0x0305 (preEmv "E1") s rid r k u → Answers (.scriptEncrypt rid none) s r k u
      (let c : Cipher := { aes := aesOf k.a, key := emvKey r k }
       { output := cbcEnc c (List.replicate c.block 0) (macPad 2 c.block (r.input.drop 3)) })) ∧
    (AtCommand 0x0401 (preMac "GC") s rid r k u → Answers (.macGenerate rid none) s r k u
      { output := (macOf (r.desc.p % 16) (r.desc.p / 256 % 4) k.a r.input).1.take (macLenOf r) }) ∧
    (AtCommand 0x0402 (preMac "VC") s rid r k u → Answers (.macVerify rid none) s r k u
      (verdict ((macOf (r.desc.p % 16) (r.desc.p / 256 % 4) k.a (r.input.drop (macLenOf r))).1.take (macLenOf r) ==
        r.input.take (macLenOf r)))) ∧
    (AtCommand 0x0501 (fun t r k => firstFail [preDukpt t r k, needKey 2 k.b "P0" "EB" (pinAlg (foutOf r)) []]) s rid r k u → Answers (.dukptPinTranslate rid none) s r k u
      (match pinDecode (finOf r) (workingKey (dukTdeaReq r) (matOf k.a) (ksnOf r) 0) (dukPan r).1
            (bytesAt r.input (dukPan r).2 (pinLen (finOf r))) with
        | none => { status := stVerify }
        | some pin => { output := pinEncode (foutOf r) (matOf k.b) (dukPan r).1 pin (freeBytes u.freeCtr 16) })) ∧
    (AtCommand 0x0502 preDukpt s rid r k u → Answers (.dukptMacVerify rid none) s r k u
      (let wk := workingKey (dukTdeaReq r) (matOf k.a) (ksnOf r) 1
       let rest := r.input.drop (ksnLen r.desc.p)
       let m := rest.drop (macLenOf r)
       verdict ((if dukTdeaReq r then macAlg3 wk (macPad 1 8 m) else cmac { aes := true, key := wk } m).take (macLenOf r) ==
         rest.take (macLenOf r)))) ∧
    (AtCommand 0x0503 preDukpt s rid r k u → Answers (.dukptDecrypt rid none) s r k u
      (let c : Cipher := { aes := !dukTdeaReq r, key := workingKey (dukTdeaReq r) (matOf k.a) (ksnOf r) 2 }
       { output := cbcDec c (List.replicate c.block 0) (r.input.drop (ksnLen r.desc.p)) })) ∧
    (AtCommand 0x0504 preIkExport s rid r k u → Answers (.dukptIkExport rid none) s r k u
      (match k.a, k.b with
        | some a, some b => ikAnswer r a b u.freeCtr
        | _, _ => {}))

/-- ENCRYPT, DECRYPT, the GCM, digest, HMAC and RANDOM commands and ECHO, METER_READ and SLICE_INFO complete with
the bytes that their rules give; GCM_DECRYPT answers no plaintext unless the tag matches. (R159, R160, R164,
R165, R85, R323) -/
def Obligations.CipherAndDigestCommandsAnswer : Prop :=
  ∀ (s u : State) (rid : Nat) (r : Req) (k : Keys),
    (AtCommand 0x0601 (preCipher "EB") s rid r k u → Answers (.encrypt rid none) s r k u
      (let c : Cipher := { aes := aesOf k.a, key := matOf k.a }
       let gen := nbit r.desc.p 8
       let iv := if gen then freeBytes u.freeCtr c.block else (splitIv r c.block).2
       let d := (splitIv r c.block).1
       { output := (match r.desc.p % 16 with | 1 => ecbEnc c d | 2 => cbcEnc c iv d | _ => ctrRun c iv d) ++
           (if gen then iv else []) })) ∧
    (AtCommand 0x0602 (preCipher "DB") s rid r k u → Answers (.decrypt rid none) s r k u
      (let c : Cipher := { aes := aesOf k.a, key := matOf k.a }
       let d := (splitIv r c.block).1
       let iv := (splitIv r c.block).2
       { output := match r.desc.p % 16 with | 1 => ecbDec c d | 2 => cbcDec c iv d | _ => ctrRun c iv d })) ∧
    (AtCommand 0x0603 (fun _ _ k => needKey 1 k.a "D0" "EB" "A" []) s rid r k u → Answers (.gcmEncrypt rid none) s r k u
      (let c : Cipher := { aes := true, key := matOf k.a }
       let gen := nbit r.desc.p 8
       let al := leNat (r.input.take 4)
       let len := r.input.length - 4 - al - (if gen then 0 else 12)
       let iv := if gen then freeBytes u.freeCtr 12 else r.input.drop (r.input.length - 12)
       let ct := gcmText c iv (bytesAt r.input 4 len)
       { output := ct ++ gcmTag c iv (bytesAt r.input (4 + len) al) ct ++ (if gen then iv else []) })) ∧
    (AtCommand 0x0604 (fun _ _ k => needKey 1 k.a "D0" "DB" "A" []) s rid r k u → Answers (.gcmDecrypt rid none) s r k u
      (let c : Cipher := { aes := true, key := matOf k.a }
       let al := leNat (r.input.take 4)
       let len := r.input.length - 32 - al
       let ct := bytesAt r.input 4 len
       let iv := bytesAt r.input (4 + len + al) 12
       if gcmTag c iv (bytesAt r.input (4 + len) al) ct == r.input.drop (r.input.length - 16) then
         { output := gcmText c iv ct } else { status := stVerify })) ∧
    (AtCommand 0x1001 noPre s rid r k u → Answers (.sha256Blocks rid none) s r k u
      { output := Machine.sha256Blocks (r.input.take 32) (r.input.drop 32) }) ∧
    (AtCommand 0x1002 noPre s rid r k u → Answers (.sha512Blocks rid none) s r k u
      { output := Machine.sha512Blocks (r.input.take 64) (r.input.drop 64) }) ∧
    (AtCommand 0x1003 noPre s rid r k u → Answers (.keccakAbsorb rid none) s r k u
      { output := Machine.keccakAbsorb r.desc.p (r.input.take 200) (r.input.drop 200) }) ∧
    (AtCommand 0x1004 noPre s rid r k u → Answers (.keccakSqueeze rid none) s r k u
      (let x := Machine.keccakSqueeze r.desc.p ((r.desc.outCap.toNat - 200) / r.desc.p) r.input
       { output := x.2 ++ x.1 })) ∧
    (AtCommand 0x1101 (preHmac "GC") s rid r k u → Answers (.hmacGenerate rid none) s r k u
      { output := (hmac (r.desc.p % 16) (matOf k.a) r.input).take (hmacLen r) }) ∧
    (AtCommand 0x1102 (preHmac "VC") s rid r k u → Answers (.hmacVerify rid none) s r k u
      (verdict ((hmac (r.desc.p % 16) (matOf k.a) (r.input.drop (hmacLen r))).take (hmacLen r) == r.input.take (hmacLen r)))) ∧
    (AtCommand 0x4001 noPre s rid r k u → Answers (.random rid none) s r k u
      { output := freeBytes u.freeCtr r.desc.outCap.toNat }) ∧
    (AtCommand 0x5001 noPre s rid r k u → Answers (.echo rid none) s r k u
      { output := r.input }) ∧
    (AtCommand 0x5003 noPre s rid r k u → Answers (.meterRead rid none) s r k u
      { output := ((slice u r.slice).ring.take r.desc.p).reverse.flatMap RingEntry.bytes }) ∧
    (AtCommand 0x5004 noPre s rid r k u → Answers (.sliceInfo rid none) s r k u
      { output := Machine.sliceInfo u r.slice })

/-- An Oryx command that stands at its sequencer with its keys fetched and permitted completes with the signature,
verdict, plaintext, ciphertext, key pair, derived key or residue that the rules compute, or with INPUT_REJECTED
where an operand fails the checks on numbers, points and encodings. (R178, R179, R184, R185, R186, R361) -/
def Obligations.OryxCommandsAnswer : Prop :=
  ∀ (s u : State) (rid : Nat) (r : Req) (k : Keys),
    (AtCommand 0x2001 preRsaSign s rid r k u → Answers (.rsaSign rid none) s r k u
      (let w := (rsaOf r k).1.w
       let h := leNat (r.input.take 1)
       let m := beNat (if r.desc.p % 16 = 1 then emsaPkcs1 (8 * w) h (r.input.drop 1)
         else emsaPss (8 * w) h (r.input.drop 1) (freeBytes u.freeCtr (hashLen h)))
       if m = 0 ∨ (rsaOf r k).1.n ≤ m then { status := stRejected }
       else { output := beBytes (8 * w) (powMod (rsaOf r k).1.n m (beNat (matOf k.a))) })) ∧
    (AtCommand 0x2002 preRsaVerify s rid r k u → Answers (.rsaVerify rid none) s r k u
      (let key := (rsaOf r k).1
       let rest := (rsaOf r k).2
       let sig := beNat (rest.take (8 * key.w))
       let h := leNat (bytesAt rest (8 * key.w) 1)
       let dg := rest.drop (8 * key.w + 1)
       let em := beBytes (8 * key.w) (powMod key.n sig key.e)
       if !rsaKeyOk 16 key || sig == 0 || key.n ≤ sig then { status := stRejected }
       else verdict (if r.desc.p % 16 = 1 then em == emsaPkcs1 (8 * key.w) h dg else emsaPssVerify (8 * key.w) h dg em))) ∧
    (AtCommand 0x2003 preRsaDecrypt s rid r k u → Answers (.rsaDecrypt rid none) s r k u
      (let key := (rsaOf r k).1
       let em := beBytes (8 * key.w) (powMod key.n (beNat r.input) (beNat (matOf k.a)))
       if beNat r.input = 0 ∨ key.n ≤ beNat r.input then { status := stRejected }
       else if r.desc.q % 16 = 1 then { output := pkcs1Decode (8 * key.w) (beNat (matOf k.a)) r.input em }
       else match oaepDecode (8 * key.w) (r.desc.q / 16 % 16) em with
         | some m => { output := m }
         | none => { status := stRejected })) ∧
    (AtCommand 0x2004 preRsaEncrypt s rid r k u → Answers (.rsaEncrypt rid none) s r k u
      (let key := (rsaOf r k).1
       let m := (rsaOf r k).2
       let len := 8 * key.w
       let pad := (freeBytes u.freeCtr (len - 3 - m.length)).map fun b => BitVec.ofNat 8 (1 + b.toNat % 255)
       let em := if r.desc.q % 16 = 1 then [0x00, 0x02] ++ pad ++ [0x00] ++ m
         else oaepEncode len (r.desc.q / 16 % 16) m (freeBytes u.freeCtr (hashLen (r.desc.q / 16 % 16)))
       if !rsaKeyOk 16 key then { status := stRejected } else { output := beBytes len (powMod key.n (beNat em) key.e) })) ∧
    (AtCommand 0x2005 noPre s rid r k u → Answers (.rsaKeygen rid none) s r k u
      (let w := r.desc.q % 256
       let e := beNat (r.input.take 4)
       let low := 2 ^ (64 * w - 1)
       let pub := rsaBytes { w := w, e := e, n := low + (beNat (freeBytes u.freeCtr (8 * w)) % low) / 2 * 2 + 1 }
       let attrs := if r.desc.q / 256 = 1 then madeAttrs "S0" "R" "S" (64 * w) "N" (u.freeCtr + 2)
         else madeAttrs "D1" "R" "D" (64 * w) "N" (u.freeCtr + 2)
       if e % 2 = 0 ∨ e < 3 then { status := stRejected }
       else { output := pub, store := some (pairRecord attrs r.domain (freeBytes (u.freeCtr + 1) (8 * w)) pub) })) ∧
    (AtCommand 0x2006 (fun _ r k => firstFail [needPair k.a "S0" "S" "E" [1, 2, 3], curveRow r (curveCode r k)]) s rid r k u → Answers (.ecdsaSign rid none) s r k u
      (let c := curveOf (curveCode r k)
       let sig := Machine.ecdsaSign c (beNat (matOf k.a)) (beNat (freeBytes u.freeCtr (2 * c.len)) % c.n) r.input
       { output := beBytes c.len sig.1 ++ beBytes c.len sig.2 })) ∧
    (AtCommand 0x2007 preEcdsaVerify s rid r k u → Answers (.ecdsaVerify rid none) s r k u
      (let c := curveOf (curveCode r k)
       let pub := (pubOf r k (inlineCurve r)).1
       let rest := (pubOf r k (inlineCurve r)).2
       let dl := rest.length - 2 * c.len
       let x := beNat (bytesAt rest dl c.len)
       let y := beNat (bytesAt rest (dl + c.len) c.len)
       match ecDecode c pub with
       | none => { status := stRejected }
       | some q => if x = 0 ∨ y = 0 ∨ c.n ≤ x ∨ c.n ≤ y then { status := stRejected }
         else verdict (Machine.ecdsaVerify c (some q) (rest.take dl) x y))) ∧
    (AtCommand 0x2008 (fun _ r k => firstFail [needPair k.a "S0" "S" "E" [6, 7], curveRow r (curveCode r k)]) s rid r k u → Answers (.eddsaSign rid none) s r k u
      { output := edSign (edOf (curveCode r k)) (matOf k.a) r.input }) ∧
    (AtCommand 0x2009 preEddsaVerify s rid r k u → Answers (.eddsaVerify rid none) s r k u
      (let c := edOf (curveCode r k)
       let pub := (pubOf r k (curveLen (curveCode r k))).1
       let rest := (pubOf r k (curveLen (curveCode r k))).2
       let sig := rest.drop (rest.length - 2 * c.len)
       if !edKeyOk c pub || !edSigOk c sig then { status := stRejected }
       else verdict (edVerify c pub (rest.take (rest.length - 2 * c.len)) sig))) ∧
    (AtCommand 0x200A preEcdh s rid r k u → Answers (.ecdhDerive rid none) s r k u
      (let a := bytesAt r.input (r.input.length - 16) 16
       match ecdhSecret (curveCode r k) (matOf k.a) (r.input.take (r.input.length - 16)) with
       | none => { status := stRejected }
       | some z =>
         let key := z.take (leNat (bytesAt a 8 2) / 8)
         let x := { symRecord a (leNat (bytesAt a 10 2)) r.domain key with vol := true }
         if x.alg = chr "T" ∧ tdeaRepeats key then { status := stUsage, detail := 0x203 }
         else { output := x.kcv, store := some x })) ∧
    (AtCommand 0x200B preEcKeygen s rid r k u → Answers (.ecKeygen rid none) s r k u
      (let priv := curvePrivate (r.desc.q % 16) u.freeCtr
       { output := curvePublic (r.desc.q % 16) priv
         store := some (pairRecord (r.input.take 16) r.domain priv (curvePublic (r.desc.q % 16) priv)) })) ∧
    (AtCommand 0x200C noPre s rid r k u → Answers (.modExp rid none) s r k u
      (let w := leNat (bytesAt r.input 0 2)
       let x := leNat (bytesAt r.input 2 2)
       let a := beNat (bytesAt r.input 4 (8 * w))
       let e := beNat (bytesAt r.input (4 + 8 * w) (8 * x))
       let m := beNat (bytesAt r.input (4 + 8 * w + 8 * x) (8 * w))
       if modulusOk w m && 1 ≤ x && x ≤ 128 && operandOk m a && e != 0 then { output := beBytes (8 * w) (powMod m a e) }
       else { status := stRejected })) ∧
    (AtCommand 0x200D noPre s rid r k u → Answers (.modMul rid none) s r k u
      (let w := leNat (bytesAt r.input 0 2)
       let a := beNat (bytesAt r.input 4 (8 * w))
       let b := beNat (bytesAt r.input (4 + 8 * w) (8 * w))
       let m := beNat (bytesAt r.input (4 + 8 * w * 2) (8 * w))
       if modulusOk w m && operandOk m a && operandOk m b then { output := beBytes (8 * w) (a * b % m) }
       else { status := stRejected }))

/-- An ML-KEM, ML-DSA or hybrid command that stands at its sequencer with its keys fetched and permitted completes
with the key pair, ciphertext and secret, signature or verdict of its scheme; the hybrid secret combines both
shared secrets, and HYBRID_VERIFY accepts only where both signatures verify. The schemes are opaque functions of
the model (log entry 9). (R203, R204, R205, R207, R210, R226, R227, R87) -/
def Obligations.LatticeAndHybridCommandsAnswer : Prop :=
  ∀ (s u : State) (rid : Nat) (r : Req) (k : Keys),
    (AtCommand 0x3001 noPre s rid r k u → Answers (.mlkemKeygen rid none) s r k u
      (let kp := pqPair "K" (r.desc.q % 16) u.freeCtr
       { output := kp.1
         store := some (pairRecord (madeAttrs "D1" "K" "B" (r.desc.q % 16) (kemExp r) (u.freeCtr + 1)) r.domain kp.2 kp.1) })) ∧
    (AtCommand 0x3002 (fun _ r k => firstFail [needPair k.a "D1" "EB" "K" [], setRow r id (setOf r k)]) s rid r k u → Answers (.mlkemEncaps rid none) s r k u
      (let c := pqEncapsOf "K" (setOf r k) (pqPub "K" r k) u.freeCtr
       if k.a.isNone && !kemModulusOk (setOf r k) (pqPub "K" r k) then { status := stRejected }
       else secretAnswer r c.1 c.2 (u.freeCtr + 1))) ∧
    (AtCommand 0x3003 (preDecaps "K" id) s rid r k u → Answers (.mlkemDecaps rid none) s r k u
      (secretAnswer r [] (pqDecapsOf "K" (setOf r k) (matOf k.a) r.input) u.freeCtr)) ∧
    (AtCommand 0x3004 noPre s rid r k u → Answers (.mldsaKeygen rid none) s r k u
      (let kp := pqPair "L" (r.desc.q % 16) u.freeCtr
       { output := kp.1
         store := some (pairRecord (madeAttrs "S0" "L" "S" (r.desc.q % 16) "N" (u.freeCtr + 1)) r.domain kp.2 kp.1) })) ∧
    (AtCommand 0x3006 preMldsaVerify s rid r k u → Answers (.mldsaVerify rid none) s r k u
      (let sig := sigTail "L" r k
       let cm := ctxMsg (nbit r.desc.p 9) sig.2
       verdict (Config.pqVerify (famNo "L") (setOf r k) (pqPub "L" r k) cm.1 cm.2 (nbit r.desc.p 9) sig.1))) ∧
    (AtCommand 0x3801 noPre s rid r k u → Answers (.hybridKemKeygen rid none) s r k u
      (let kp := pqPair "K" 2 u.freeCtr
       let x := freeBytes (u.freeCtr + 3) 32
       let pub := kp.1 ++ xdh 4 x (xBase 4)
       { output := pub
         store := some (pairRecord (madeAttrs "D1" "Y" "B" 0 (kemExp r) (u.freeCtr + 1)) r.domain (kp.2 ++ x) pub) })) ∧
    (AtCommand 0x3802 (fun _ _ k => needPair k.a "D1" "EB" "Y" []) s rid r k u → Answers (.hybridEncaps rid none) s r k u
      (let pub := (pubOf r k 1216).1
       let pkx := pub.drop 1184
       let c := pqEncapsOf "K" 2 (pub.take 1184) u.freeCtr
       let e := freeBytes (u.freeCtr + 1) 32
       let cx := xdh 4 e (xBase 4)
       if !xOk 4 pkx || (k.a.isNone && !kemModulusOk 2 (pub.take 1184)) then { status := stRejected }
       else secretAnswer r (c.1 ++ cx) (hybridSecret c.2 (xdh 4 e pkx) c.1 cx pkx) (u.freeCtr + 2))) ∧
    (AtCommand 0x3803 (fun _ r k => firstFail [needPair k.a "D1" "DB" "Y" [], exportSecret r k]) s rid r k u → Answers (.hybridDecaps rid none) s r k u
      (let ct := r.input.take 1088
       let cx := r.input.drop 1088
       let pkx := ((k.a.getD {}).pub).drop 1184
       if !xOk 4 cx then { status := stRejected }
       else secretAnswer r [] (hybridSecret (pqDecapsOf "K" 2 ((matOf k.a).take 2400) ct) (xdh 4 ((matOf k.a).drop 2400) cx)
         ct cx pkx) u.freeCtr)) ∧
    (AtCommand 0x3804 noPre s rid r k u → Answers (.hybridSignKeygen rid none) s r k u
      (let kp := pqPair "L" 2 u.freeCtr
       let x := curvePrivate 1 (u.freeCtr + 3)
       let pub := kp.1 ++ curvePublic 1 x
       { output := pub
         store := some (pairRecord (madeAttrs "S0" "Z" "S" 0 "N" (u.freeCtr + 1)) r.domain (kp.2 ++ x) pub) })) ∧
    (AtCommand 0x3806 (fun _ _ k => needPair k.a "S0" "VS" "Z" []) s rid r k u → Answers (.hybridVerify rid none) s r k u
      (let pub := (pubOf r k 2017).1
       let rest := (pubOf r k 2017).2
       let m := rest.drop 3373
       let x := beNat (bytesAt rest 3309 32)
       let y := beNat (bytesAt rest 3341 32)
       match ecDecode p256 (pub.drop 1952) with
       | none => { status := stRejected }
       | some q => verdict
           (Config.pqVerify (famNo "L") 2 (pub.take 1952) hsigCtx m false (rest.take 3309) &&
            (x != 0 && y != 0 && x < p256.n && y < p256.n &&
              Machine.ecdsaVerify p256 (some q) (fit 64 (Config.mldsaMu 2 (pub.take 1952) hsigCtx m)) x y)))) ∧
    (∀ iters, AtCommand 0x3005 (fun _ r k => firstFail [needPair k.a "S0" "S" "L" [], setRow r id (setOf r k)]) s rid r k u →
      (r.isEnsign = true → iters < 128) → Answers (.mldsaSign rid none iters) s r k u
      (let cm := ctxMsg (nbit r.desc.p 9) r.input
       { output := pqSignOf "L" (setOf r k) (matOf k.a) cm.1 cm.2 (nbit r.desc.p 9)
           (if nbit r.desc.p 8 then u.freeCtr + 1 else 0) })) ∧
    (∀ iters, AtCommand 0x3805 (fun _ _ k => needPair k.a "S0" "S" "Z" []) s rid r k u →
      (r.isEnsign = true → iters < 128) → Answers (.hybridSign rid none iters) s r k u
      (let mu := fit 64 (Config.mldsaMu 2 (((k.a.getD {}).pub).take 1952) hsigCtx r.input)
       let sig := Machine.ecdsaSign p256 (beNat ((matOf k.a).drop 4032)) (beNat (freeBytes u.freeCtr 64) % p256.n) mu
       { output := pqSignOf "L" 2 ((matOf k.a).take 4032) hsigCtx r.input false (u.freeCtr + 1) ++
           beBytes 32 sig.1 ++ beBytes 32 sig.2 }))

/-- An SLH-DSA, stateful, HQC or Classic McEliece command that stands at its sequencer with its keys fetched and
permitted completes with the key pair, signature, verdict, ciphertext or secret of its scheme, or the indices
that remain; MCELIECE_KEYGEN answers no bytes and keeps the public key. The schemes are opaque functions of the
model (log entry 9). (R213, R214, R217, R220, R222, R223) -/
def Obligations.HashAndCodeCommandsAnswer : Prop :=
  ∀ (s u : State) (rid : Nat) (r : Req) (k : Keys),
    (AtCommand 0x3101 noPre s rid r k u → Answers (.slhdsaKeygen rid none) s r k u
      (let kp := pqPair "S" (r.desc.q % 16) u.freeCtr
       { output := kp.1
         store := some (pairRecord (madeAttrs "S0" "S" "S" (r.desc.q % 16) "N" (u.freeCtr + 1)) r.domain kp.2 kp.1) })) ∧
    (AtCommand 0x3102 (fun _ _ k => needPair k.a "S0" "S" "S" []) s rid r k u → Answers (.slhdsaSign rid none) s r k u
      (let cm := ctxMsg false r.input
       { output := pqSignOf "S" (setOf r k) (matOf k.a) cm.1 cm.2 false (if nbit r.desc.p 8 then u.freeCtr + 1 else 0) })) ∧
    (AtCommand 0x3103 preSlhVerify s rid r k u → Answers (.slhdsaVerify rid none) s r k u
      (let sig := sigTail "S" r k
       let cm := ctxMsg false sig.2
       verdict (Config.pqVerify (famNo "S") (setOf r k) (pqPub "S" r k) cm.1 cm.2 false sig.1))) ∧
    (AtCommand 0x3104 noPre s rid r k u → Answers (.statefulKeygen rid none) s r k u
      (let p := r.desc.q % 16
       let kp := pqPair "F" p u.freeCtr
       let pub := typeCodes p ++ kp.1.drop (typeCodes p).length
       { output := pub
         store := some { pairRecord (madeAttrs "S0" "F" "S" p "N" (u.freeCtr + 1)) r.domain kp.2 pub with
           typ := 4, nextIdx := 0, limit := min 4096 (totalIndices p), large := true } })) ∧
    (AtCommand 0x3106 preStatefulVerify s rid r k u → Answers (.statefulVerify rid none) s r k u
      (let sig := sigTail "F" r k
       if !typeCodesOk (setOf r k) (pqPub "F" r k) then { status := stRejected }
       else verdict (Config.pqVerify (famNo "F") (setOf r k) (pqPub "F" r k) [] sig.2 false sig.1))) ∧
    (AtCommand 0x3107 (fun _ _ k => require ((k.a.getD {}).typ == 4) (usageFail 1 3)) s rid r k u → Answers (.statefulRemaining rid none) s r k u
      (match liveRecord u r.slice r.desc.keyA.toNat with
       | some x => { output := leBytes 8 (totalIndices x.2.bits - x.2.nextIdx) }
       | none => { status := stNotFound, detail := 1 })) ∧
    (AtCommand 0x3201 noPre s rid r k u → Answers (.hqcKeygen rid none) s r k u
      (let kp := pqPair "Q" (r.desc.q % 16) u.freeCtr
       { output := kp.1
         store := some (pairRecord (madeAttrs "D1" "Q" "B" (r.desc.q % 16) (kemExp r) (u.freeCtr + 1)) r.domain kp.2 kp.1) })) ∧
    (AtCommand 0x3202 (fun _ _ k => needPair k.a "D1" "EB" "Q" []) s rid r k u → Answers (.hqcEncaps rid none) s r k u
      (let c := pqEncapsOf "Q" (setOf r k) (pqPub "Q" r k) u.freeCtr
       secretAnswer r c.1 c.2 (u.freeCtr + 1))) ∧
    (AtCommand 0x3203 (preDecaps "Q" id) s rid r k u → Answers (.hqcDecaps rid none) s r k u
      (secretAnswer r [] (pqDecapsOf "Q" (setOf r k) (matOf k.a) r.input) u.freeCtr)) ∧
    (AtCommand 0x3204 noPre s rid r k u → Answers (.mcelieceKeygen rid none) s r k u
      (let kp := pqPair "M" (r.desc.q % 16) u.freeCtr
       { output := []
         store := some (pairRecord (madeAttrs "D1" "M" "B" (r.desc.q % 16) (kemExp r) (u.freeCtr + 1)) r.domain kp.2 kp.1) })) ∧
    (AtCommand 0x3205 (fun _ _ k => needPair k.a "D1" "EB" "M" []) s rid r k u → Answers (.mcelieceEncaps rid none) s r k u
      (let c := pqEncapsOf "M" (setOf r k) (pqPub "M" r k) u.freeCtr
       secretAnswer r c.1 c.2 (u.freeCtr + 1))) ∧
    (AtCommand 0x3206 (preDecaps "M" mceCycles) s rid r k u → Answers (.mcelieceDecaps rid none) s r k u
      (secretAnswer r [] (pqDecapsOf "M" (setOf r k) (matOf k.a) r.input) u.freeCtr))

/-- KEY_GENERATE, KEY_IMPORT, KEY_EXPORT of a key that needs no approval, KEY_INFO, PUBLIC_KEY_IMPORT,
PUBLIC_KEY_EXPORT and KEY_ATTEST complete with the record, block, attributes, public key or signed statement of
their rules; KEY_IMPORT runs the checks of its steps in order before it stores the key. (R142, R143, R141, R182,
R370, R85) -/
def Obligations.KeyCommandsAnswer : Prop :=
  ∀ (s u : State) (rid : Nat) (r : Req) (k : Keys),
    (AtCommand 0x0803 (fun _ r _ => preSymmetric r.input) s rid r k u → Answers (.keyGenerate rid none) s r k u
      (let a := r.input.take 16
       let key := materialOf a (freeBytes u.freeCtr (leNat (bytesAt a 8 2) / 8))
       let x := symRecord a (entryFlags 1 a) r.domain key
       if x.alg = chr "T" ∧ tdeaRepeats key then { status := stUsage, detail := 0x203 }
       else { output := x.kcv, store := some x })) ∧
    (AtCommand 0x0801 preImport s rid r k u → Answers (.keyImport rid none) s r k u
      (match parseBlock r.input with
       | .inr off => { status := stMalformed, detail := malDetail off 10 }
       | .inl p =>
         match openBlock r.input p (matOf k.a) with
         | none => { status := stVerify }
         | some key =>
           let hash := if bytesAt r.input 5 2 == ascii "M7" then hmHash p.opts else 0
           let x := { symRecord (blockAttrs r.input key hash) (4 + 8 * b2n (nbit r.desc.p 0)) r.domain key with
             vol := nbit r.desc.p 1 }
           let kcOk := match optOf p.opts "KC" with
             | some d => !(ascii "ATH").contains x.alg || (x.alg == chr "H" && hash == 0) || d == kcData x.alg x.kcv
             | none => true
           if !kcOk then { status := stVerify }
           else match attrKind x false with
             | some kind => { status := stUsage, detail := 0x200 + kind }
             | none =>
               if x.alg = chr "T" ∧ tdeaRepeats key then { status := stUsage, detail := 0x203 }
               else if (k.a.getD {}).strength < x.strength then { status := stUsage, detail := 0x104 }
               else match badOpt p.opts with
                 | some off => { status := stMalformed, detail := malDetail off 10 }
                 | none =>
                   if x.usage = ascii "M7" ∧ hash = 0 then
                     { status := stMalformed
                       detail := malDetail ((p.opts.find? fun o => o.id == ascii "HM").map (·.off) |>.getD 12) 10 }
                   else { output := x.kcv, store := some x })) ∧
    (AtCommand 0x0805 noPre s rid r k u → Answers (.keyInfo rid none) s r k u
      (let x := k.a.getD {}
       { output := fit 16 x.attrs ++ (if x.symmetric then x.kcv else []) })) ∧
    (AtCommand 0x0807 (fun _ _ k => require (nbit (k.a.getD {}).flags 0) (usageFail 1 1)) s rid r k u → Answers (.keyAttest rid none) s r k u
      (let b := keyStatement u r (k.a.getD {})
       { output := b ++ layerSign u "MORILATIK-KYST-1" b u.freeCtr })) ∧
    (AtCommand 0x0808 prePubImport s rid r k u → Answers (.publicKeyImport rid none) s r k u
      (let x : KeyRec := { attrs := r.input.take 16 }
       if pubAccepted x.alg x.bits (r.input.drop 16) then { store := some (pubRecord r (r.input.take 16) (r.input.drop 16)) }
       else { status := stRejected })) ∧
    (AtCommand 0x0809 (fun _ _ k => require (!(k.a.getD {}).symmetric) (usageFail 1 1)) s rid r k u → Answers (.publicKeyExport rid none) s r k u
      { output := (k.a.getD {}).pub }) ∧
    (∀ a b, AtCommand 0x0802 preExport s rid r k u → k = { a := some a, b := some b } → nbit b.flags 3 = false →
      Answers (.keyExport rid none) s r k u
      (let o := fun i => (bytesAt r.input i 1).headD 0
       { output := wrapBlock a.isAes a.material
           (b.usage ++ [b.alg] ++ [optionOr (o 1) b.mode] ++ bytesAt r.input 4 2 ++ [optionOr (o 2) b.exportability])
           [o 3] (exportOpts (o 6).toNat b a) b.material (freeBytes u.freeCtr 64) }))

/-- KEY_DELETE of a present key removes its entry and cached copy and deletes its record; STATEFUL_SIGN answers with
the next index, which is used up at once; METER_LATCH closes the open interval and waits for its ring entry;
KEY_COMPONENTS_COMBINE and KEY_EXPORT of a dual-control key reserve the approvals that allow them. (R363, R218,
R219, R321, R145, R148, R150) -/
def Obligations.StoredStateCommandsAnswer : Prop :=
  ∀ (s u : State) (rid : Nat) (r : Req) (k : Keys),
    let v := { u with freeCtr := u.freeCtr + drawsPerCommand }
    (∀ i e x, AtCommand 0x0804 noPre s rid r k u → r.viaPeer = false →
      (emFind v r.slice r.desc.keyA.toNat = .bucket i e ∨ emFind v r.slice r.desc.keyA.toNat = .stash i e) →
      recordAt v e = some x →
      let d := finalDelete e.record x (uncache r.slice r.desc.keyA.toNat (emDelete r.slice r.desc.keyA.toNat v).2)
      exec (.keyDelete rid none) s = .next (delivered r k
        { wait := if d.1 || signOutstanding v r.slice r.desc.keyA.toNat then some r.desc.keyA.toNat else none } d.2)) ∧
    (∀ p line x, AtCommand 0x3105 p s rid r k u →
      p = (fun _ r k => firstFail [needPair k.a "S0" "S" "F" [],
        require (pqSigLen "F" (setOf r k) + 8 ≤ r.desc.outCap.toNat) (some (stMalformed, malDetail 0x30 7))]) →
      liveRecord v r.slice r.desc.keyA.toNat = some (line, x) → x.nextIdx < totalIndices x.bits → x.nextIdx < x.limit →
      let y := { x with nextIdx := x.nextIdx + 1 }
      let out := pqSignOf "F" x.bits (matOf k.a) [] r.input false x.nextIdx ++ leBytes 8 x.nextIdx
      out.length ≤ r.desc.outCap.toNat →
      ∃ ops, exec (.statefulSign rid none) s = .next (delivered r k { output := out, ops := ops }
        (countOps ops (askBlock y (setRecord line y (updReq r.rid (fun q => { q with index := some x.nextIdx }) v)))))) ∧
    (AtCommand 0x5002 noPre s rid r k u →
      exec (.meterLatch rid none) s = .next (delivered r k { ring := some (nextRing (slice v r.slice)) }
        (latchSlice 2 false r.slice v))) ∧
    (∀ l t, AtCommand 0x0806 preCombine s rid r k u →
      reserveApprovals (partCount r) 1 (opStatement r.desc r.slice r.input) v = .inl (l, t) →
      let a := combineParts r (l.map fun a => a.component.getD [])
      a.output.length ≤ r.desc.outCap.toNat →
      exec (.keyComponentsCombine rid none) s = .next (delivered r k a
        (countOps a.ops (updReq r.rid (fun x => { x with approvals := true }) t)))) ∧
    (∀ a b l t, AtCommand 0x0802 preExport s rid r k u → k = { a := some a, b := some b } → nbit b.flags 3 = true →
      reserveApprovals 2 0 (opStatement r.desc r.slice r.input) v = .inl (l, t) →
      (exportAnswer r a b u.freeCtr).output.length ≤ r.desc.outCap.toNat →
      exec (.keyExport rid none) s = .next (delivered r k (exportAnswer r a b u.freeCtr)
        (countOps (exportAnswer r a b u.freeCtr).ops (updReq r.rid (fun x => { x with approvals := true }) t))))

/-- A valid tail doorbell stores the new tail and enters the slice in the order of doorbells; a valid head doorbell
frees the entries before it; a fetch issues one read of at most eight descriptors and reserves a completion
entry for each; an arrival takes its descriptors in order, and a failed read stops the queue; a request that
waited for landing room is read when there is room; an unmapped PASID is recorded. (R68, R70, R73, R308, R309,
R310) -/
def Obligations.DoorbellsFetchAndArrivalComplete : Prop :=
  ∀ (s : State),
    (∀ w q, barOpen s = true → pasidForeign s w.page.toNat w.pasid = false → doorbellQueue w s = some q →
      exec (.sqTailDoorbell w) s = .next { setQueue w.page.toNat w.queue.toNat { q with tail := w.value.toNat % 65536 } s with
        rqs := { (setQueue w.page.toNat w.queue.toNat { q with tail := w.value.toNat % 65536 } s).rqs with
          order := if s.rqs.order.contains w.page.toNat then s.rqs.order else s.rqs.order ++ [w.page.toNat] } }) ∧
    (∀ w q, barOpen s = true → pasidForeign s w.page.toNat w.pasid = false → doorbellQueue w s = some q →
      (w.value.toNat % 65536 + q.depth - q.cqHead) % q.depth ≤ q.written →
      exec (.cqHeadDoorbell w) s = .next (setQueue w.page.toNat w.queue.toNat { q with cqHead := w.value.toNat % 65536 } s)) ∧
    (∀ sl n q, queueDma s = true → nextFetch s = some (sl, n) → queue? s sl n = some q →
      let k := min (min 8 q.rung) (min q.space (q.depth - q.issued))
      exec .descriptorFetch s = .next (trimOrder sl (emit (.fetch sl n q.issued k) (updSlice sl (fun x => { x with rr := (n + 1) % 16 })
        (setQueue sl n { q with issued := (q.issued + k) % q.depth, reserved := q.reserved + k, reads := q.reads ++ [k] } s))))) ∧
    (∀ sl n q k rest l, queue? s sl n = some q → q.reads = k :: rest → l.length = k →
      exec (.descriptorArrival sl n (some l)) s = .next (pauseCheck sl n (l.foldl (fun u d => takeDescriptor sl n d u)
        (setQueue sl n { q with reads := rest, head := (q.head + k) % q.depth } s)))) ∧
    (∀ sl n q, queue? s sl n = some q → q.reads ≠ [] →
      exec (.descriptorArrival sl n none) s = .next (logEvent 0x303 [BitVec.ofNat 8 sl, BitVec.ofNat 8 n]
        (updSlice sl (fun x => { x with qerr := x.qerr ||| BitVec.ofNat 16 (2 ^ n) })
          (setQueue sl n { q with
            stopped := true, reads := [], issued := q.head, reserved := q.reserved - q.reads.foldl (· + ·) 0 } s)))) ∧
    (∀ r, s.rqs.live.find? (fun r => r.phase == .waitRoom) = some r → queueDma s = true → ensignFits s r = true →
      exec .landingRoomFreed s = .next ((if needsRead r.desc then emit (.read r.rid) else id)
        (updReq r.rid (fun x => { x with phase := .reading }) s))) ∧
    (∀ page pasid posted, barOpen s = true → pasidForeign s page.toNat (some pasid) = true →
      exec (.pasidUnmapped page pasid posted) s = .next ((if posted then id else emit (.pcie 2))
        (logEvent 0x301 (leBytes 4 pasid.toNat ++ [BitVec.ofNat 8 page.toNat]) { s with mgt := { s.mgt with
          pasidSeen := true, pasidPage := page.toNat, pasidPasid := pasid.toNat, pasidCount := satAdd 32 s.mgt.pasidCount 1 } })))

/-- A doorbell write with a foreign PASID changes only the PASID fault registers and the logbook, and one of a wrong
width, queue, index or in a resetting slice changes only the logbook. (R68, R308) -/
def Obligations.BadDoorbellsAreIgnoredAndLogged : Prop :=
  ∀ (s : State) (w : DbWrite), barOpen s = true →
    (pasidForeign s w.page.toNat w.pasid = true →
      exec (.sqTailDoorbell w) s = .next (pasidRefuse w.page.toNat (w.pasid.getD 0).toNat s) ∧
      exec (.cqHeadDoorbell w) s = .next (pasidRefuse w.page.toNat (w.pasid.getD 0).toNat s)) ∧
    (pasidForeign s w.page.toNat w.pasid = false → doorbellQueue w s = none →
      exec (.sqTailDoorbell w) s = .next (logEvent 0x302 (w.page :: leBytes 2 (4 * w.queue.toNat) ++ leBytes 4 w.value.toNat) s) ∧
      exec (.cqHeadDoorbell w) s =
        .next (logEvent 0x302 (w.page :: leBytes 2 (0x100 + 4 * w.queue.toNat) ++ leBytes 4 w.value.toNat) s))

/-- A request whose input arrives lands: a failed check ends it with its status, and admission then accepts,
forwards or refuses it; a free sequencer takes the next request, or dispatches a held one; the forwarding
microcode sends a REQUEST to the owner; the buckets of enabled tenants refill. (R71, R77, R105, R110, R111,
R309, R293, R98) -/
def Obligations.LandingAndAdmissionComplete : Prop :=
  ∀ (s : State),
    (∀ rid inp r, findReq s rid = some r → r.phase = .reading →
      let i := if r.desc.inline then r.desc.inlineBytes else if needsRead r.desc then fit r.desc.inLen.toNat inp else []
      let q := { r with input := i, landAt := s.mtime }
      let t := updReq rid (fun _ => q) s
      (∀ st d, descCheck q.viaFabric q.viaPeer q.desc i = some (st, d) →
        exec (.requestLand rid (some inp)) s = .next (endReq rid st d t)) ∧
      (descCheck q.viaFabric q.viaPeer q.desc i = none →
        let u := if armed t && !q.desc.fwd && q.desc.panSet && q.desc.namesKey && permits t q.slice (clsOf q.desc) then
          noteTrie (trieSearch t.lku q.desc.panList).bad t else t
        (∀ st d, admitTest t q.desc q.slice q.viaTenant = .refuse st d →
          exec (.requestLand rid (some inp)) s = .next (refuseReq q st d u)) ∧
        (∀ dom, admitTest t q.desc q.slice q.viaTenant = .accept dom →
          exec (.requestLand rid (some inp)) s = .next (acceptReq q dom u)) ∧
        (∀ dom owner, admitTest t q.desc q.slice q.viaTenant = .forward dom owner →
          exec (.requestLand rid (some inp)) s = .next (forwardReq q dom owner u)))) ∧
    (∀ l r, seqFree s l = true → nextWork s l = some r → exec (.sequencerFree l) s = .next (assignSeq l r s)) ∧
    (∀ l r n, seqFree s l = true → seqShared s l = true → (waitingSeq s).any Req.isEnsign = false →
      dispatchPick s (s.rqs.live.filter fun r => r.phase == .held).length (s.rqs.live.filter fun r => r.phase == .held) = some r →
      (needsRead r.desc = true → queueDma s = true) → r.origin = .host n →
      exec (.nonEnsignDispatch l) s = .next (pauseCheck r.slice n ((if needsRead r.desc then emit (.read r.rid) else id)
        (updReq r.rid (fun x => { x with phase := .reading, seqr := some l }) s)))) ∧
    (∀ rid r i, findReq s rid = some r → r.phase = .fwdQueued → r.seqr.isSome = true → fwdInUse s < 65536 →
      sessionTo s r.owner = some i →
      let t := dropWork r.work (parkAfter rid { s with fab := { s.fab with
        nextFwd := if s.fab.nextFwd + 1 = 2 ^ 32 then 1 else s.fab.nextFwd + 1, fwdSent := satAdd 64 s.fab.fwdSent 1 } })
      exec (.requestForward rid) s = .next (sendMsg i r.isEnsign
        { typ := 1, bytes := 64 + r.input.length, what := .request i (fwdDesc r s.fab.nextFwd) r.input }
        (updReq rid (fun x => { x with phase := .forwarded, seqr := none, work := [], fwdTag := s.fab.nextFwd }) t))) ∧
    (∀ c, s.img.cfg = some c →
      exec .tokenRefill s = .next (c.tenants.foldl (fun t e => updSlice e.1 (refill e.2) t) s))

/-- At a boundary an ENSIGN operation that waits takes the unit; an idle unit stops its clock; a passed known-answer
test clears its marks, and a failed test or check retires the unit, into whose place a spare switches; a lane
takes a fresh mask seed; a unit that completes queues its completion task, which a free shared sequencer
releases; waits for blinding bytes and randomness end when an instance serves again. (R111, R156, R166, R167,
R173, R188, R194, R244, R438, R103) -/
def Obligations.EngineEventsComplete : Prop :=
  ∀ (s : State),
    (∀ p l r, s.pwr.state = .run → (tget? s.eng.units (256 * p + l)).isSome = true → (unitOf s p l).present = true →
      (unitOf s p l).parked = false → p ≠ 1 → (unitOf s p l).ctx0 = none → (unitOf s p l).testFirst = false →
      unitKind s p l ≠ 2 → ensignWaits s p = some r →
      exec (.operationBoundary p l) s = .next (updUnit p l (fun x => { x with ctx0 := some r.rid, clock := true }) s)) ∧
    (∀ p l, (tget? s.eng.units (256 * p + l)).isSome = true → unitIdle s p l = true →
      exec (.unitClockStop p l) s = .next (updUnit p l (fun x => { x with clock := false }) s)) ∧
    (∀ p l, s.pwr.state = .run → 2 ≤ p → p < 5 → (tget? s.eng.units (256 * p + l)).isSome = true →
      (unitOf s p l).present = true → (unitOf s p l).ctx0 = none →
      ((unitOf s p l).testFirst = true ∨ ensignWaits s p = none ∨ unitKind s p l = 2) →
      exec (.knownAnswerTest p l true) s = .next (updUnit p l (fun x => { x with kat := false, testFirst := false }) s) ∧
      exec (.knownAnswerTest p l false) s = .next (retireUnit p l 3 s)) ∧
    (∀ p l c, s.pwr.state = .run → (tget? s.eng.units (256 * p + l)).isSome = true →
      exec (.unitCheckFailure p l c) s = .next (retireUnit p l c s)) ∧
    (∀ p l n rest, s.wdn.lost = false → (tget? s.eng.units (256 * p + l)).isSome = true → (unitOf s p l).present = false →
      sparesLeft s p = n :: rest →
      exec (.spareSwitchIn p l) s = .next (applyThrottle (updUnit p l (fun _ => { phys := n })
        { s with eng := { s.eng with sparesUsed := tupd s.eng.sparesUsed p [] (· ++ [n]) } }))) ∧
    (∀ p l, s.pwr.state = .run → s.tmp.locked = false → s.wdn.lost = false → (maskLanes s).contains (p, l) = true →
      exec (.maskReseed p l) s = .next (reseedLane p l s)) ∧
    (∀ p l u rid r, tget? s.eng.units (256 * p + l) = some u → u.ctx1 = some rid → findReq s rid = some r →
      r.phase = .detached →
      exec (.coreCompletionInterrupt p l) s = .next { updReq rid (fun x => { x with phase := .releaseQueued }) s with
        eng := { s.eng with tasks := s.eng.tasks ++ [rid] } }) ∧
    (∀ l rid rest r x, seqFree s l = true → seqShared s l = true → s.eng.tasks = rid :: rest → findReq s rid = some r →
      r.result = some x →
      exec (.releaseStep l) s = .next (conclude r
        { status := x.status, detail := x.detail, output := x.output, store := x.store }
        { s with eng := { s.eng with tasks := rest } })) ∧
    (∀ r, s.rqs.live.find? (fun r => r.phase == .blindWait) = some r → blockedInst s 3 = none →
      exec .blindWaitResume s = .next (requeue r.rid s)) ∧
    (∀ r, s.rqs.live.find? (fun r => r.phase == .rngWait) = some r → (rrInst s 2).isSome = true →
      exec .rngWaitResume s = .next (requeue r.rid s)) ∧
    (∀ x rest, x < 1520 → rest.all (· < 1520) = true → s.adm.throttle = 0 →
      exec (.junctionTempSample (x :: rest)) s = .next { s with
        tmp := { s.tmp with temps := (x :: rest ++ s.tmp.temps.drop (rest.length + 1)).take 4 }
        adm := { s.adm with coolSince := some (s.adm.coolSince.getD s.mtime) } })

/-- A health window judges its cell and credits the block, not counting a failed window; a balancing period moves
the trim by one; 768 credited bits close a seed block; a due instance is marked and then reseeded with one seed;
the Warden instantiates its own instances where the module is locked or RETURNED; the checkpoint retires failing
cells and then checks the source. (R236, R237, R240, R242, R243, R245) -/
def Obligations.EntropyEventsComplete : Prop :=
  ∀ (s : State),
    (∀ cell w, cellsRun s = true → (tget? s.ent.cells cell).isSome = true → (tgetD s.ent.cells cell {}).healthy = true →
      w.length = 1024 → s.ent.capture = false → s.ent.sourceFail = false →
      let j := judgeWindow s.mtime w (tgetD s.ent.cells cell {})
      let n := condBits s.ent.cond w
      exec (.healthWindowEnd cell w) s = .next { s with ent := { s.ent with
        cells := tset s.ent.cells cell j.1, blockBits := s.ent.blockBits + n
        blockCredit := s.ent.blockCredit + (if j.2 then 0 else n), credit := satAdd 65 s.ent.credit (if j.2 then 0 else n) } }) ∧
    (∀ cell ones, cellsRun s = true → (tget? s.ent.cells cell).isSome = true → (tgetD s.ent.cells cell {}).healthy = true →
      ones < 1966 → s.ent.capture = false → (tgetD s.ent.cells cell {}).trim < 62 →
      exec (.balancingPeriodEnd cell ones) s = .next { s with ent := { s.ent with
        cells := tset s.ent.cells cell { tgetD s.ent.cells cell {} with
          trim := (tgetD s.ent.cells cell {}).trim + 1, edge := 0 } } }) ∧
    (s.ent.sourceFail = false → 768 ≤ s.ent.blockCredit → s.ent.seeds < 32 →
      exec .seedBlockClose s = .next { s with ent := { s.ent with
        seeds := s.ent.seeds + 1, blockCredit := s.ent.blockCredit - 768, blockBits := s.ent.blockCredit - 768 } }) ∧
    (cellsRun s = true → s.wdn.lost = false →
      exec .entCheckpoint s = .next (let t := (List.range 64).foldl retireCell s
        if t.ent.startupDone || t.ent.sourceFail then sourceCheck t else t)) ∧
    (∀ i, i < 16 → (drbgOf s i).inst = true → (s.ent.interval ≤ (drbgOf s i).calls ∨ (drbgOf s i).reseedAt + 1000000000 ≤ s.mtime) →
      exec (.reseedDue i) s = .next (updDrbg i (fun d => { d with due := true }) s)) ∧
    (∀ i, i < 16 → (drbgOf s i).inst = true → (drbgOf s i).due = true → 0 < s.ent.seeds → s.ent.sourceFail = false →
      let t := updDrbg i (fun d => { d with due := false, calls := 0, reseedAt := s.mtime, seed := s.freeCtr })
        { s with ent := { s.ent with seeds := s.ent.seeds - 1 }, freeCtr := s.freeCtr + 1 }
      exec (.drbgReseed i) s = .next { t with ent := { t.ent with reseeds := satAdd 64 t.ent.reseeds 1 } }) ∧
    ((s.tmp.locked = true ∨ s.lcs.state = .returned) → s.ent.startupDone = true → s.ent.sourceFail = false →
      exec .drbgWardenReinstantiate s =
        .next (instantiateAll ((consumerInsts s 4).filter fun i => !(drbgOf s i).inst) s))

/-- With BAR0 open and the unit not busy, each lookup command runs its operation on its table with the operand
registers, and the unit then shows the result, the code and DONE, and raises LOOKUP where asked; a batch runs
its records; the stash retry moves stashed entries; freed nodes leave the list of deferred frees; a scrub
corrects a single bit and marks a word with more. (R253, R254, R265, R266, R269, R270, R272, R257, R267) -/
def Obligations.LookupCommandsComplete : Prop :=
  ∀ (s : State) (index : BitVec 16) (irq : Bool),
    (barOpen s = true → s.lku.busy = false →
      let x := fun op table => lkuOp op table index.toNat (wordsBytes s.lku.data) { s with lku := { s.lku with done := false } }
      exec (.lkuTrieInsert index irq) s = .next (lkuEnd irq (x 1 0).1 (x 1 0).2.1 (x 1 0).2.2) ∧
      exec (.lkuTrieDelete index irq) s = .next (lkuEnd irq (x 2 0).1 (x 2 0).2.1 (x 2 0).2.2) ∧
      exec (.lkuTrieReplace index irq) s = .next (lkuEnd irq (x 4 0).1 (x 4 0).2.1 (x 4 0).2.2) ∧
      exec (.lkuTrieRead index irq) s = .next (lkuEnd irq (x 3 0).1 (x 3 0).2.1 (x 3 0).2.2) ∧
      exec (.lkuTrieSearch index irq) s = .next (lkuEnd irq (x 5 0).1 (x 5 0).2.1 (x 5 0).2.2) ∧
      exec (.lkuEmInsert index irq) s = .next (lkuEnd irq (x 1 1).1 (x 1 1).2.1 (x 1 1).2.2) ∧
      exec (.lkuEmDelete index irq) s = .next (lkuEnd irq (x 2 1).1 (x 2 1).2.1 (x 2 1).2.2) ∧
      exec (.lkuEmReplace index irq) s = .next (lkuEnd irq (x 4 1).1 (x 4 1).2.1 (x 4 1).2.2) ∧
      exec (.lkuEmRead index irq) s = .next (lkuEnd irq (x 3 1).1 (x 3 1).2.1 (x 3 1).2.2) ∧
      exec (.lkuDomainRead index irq) s = .next (lkuEnd irq (x 3 2).1 (x 3 2).2.1 (x 3 2).2.2) ∧
      exec (.lkuPeerRead index irq) s = .next (lkuEnd irq (x 3 3).1 (x 3 3).2.1 (x 3 3).2.2) ∧
      exec (.lkuStashRead index irq) s = .next (lkuEnd irq (x 3 4).1 (x 3 4).2.1 (x 3 4).2.2)) ∧
    (∀ records, barOpen s = true → exec (.lkuBatch irq records) s = .next (lkuBatchRun irq records s)) ∧
    exec .stashRetry s = .next (stashLevel (stashMove s.lku.stash s)) ∧
    exec .trieNodeFree s = .next { s with lku := { s.lku with freeing := s.lku.freeing.drop 1 } } ∧
    (∀ node word, node < 49152 → word < 128 →
      exec (.trieScrub node word 1) s = .next { s with lku := { s.lku with scrubCorr := satAdd 16 s.lku.scrubCorr 1 } } ∧
      ∀ bits, 2 ≤ bits → exec (.trieScrub node word bits) s = .next (noteTrie [128 * node + word] { s with lku := { s.lku with
        badWords := if s.lku.badWords.contains (128 * node + word) then s.lku.badWords
          else (128 * node + word) :: s.lku.badWords } }))

/-- A write to the domain, peer or stash table, or a table write that the life cycle or power state does not allow,
gives DENIED and changes nothing; a search finds the longest prefix of the PAN; a read of the domain, peer or
stash table gives an entry or RANGE and changes nothing. (R269, R270, R254, R264) -/
def Obligations.LookupOperationsGiveTheirResults : Prop :=
  ∀ (s : State) (index : Nat) (b : Bytes),
    (∀ op table, (op = 1 ∨ op = 2 ∨ op = 4) → table ≤ 4 → (2 ≤ table ∨ lkuWritable s = false) →
      lkuOp op table index b s = (7, none, s)) ∧
    (∀ op table, (op = 0 ∨ 5 < op ∨ 4 < table) → lkuOp op table index b s = (5, none, s)) ∧
    (∀ table, 2 ≤ table → table ≤ 4 → (lkuOp 3 table index b s).2.2 = s) ∧
    (∀ table, table ≠ 0 → table ≤ 4 → lkuOp 5 table index b s = (5, none, s))

/-- A card inserted shows as present; one removed, overloaded, silent or past its session time loses its session; an
approval past its window is dropped unless a command has reserved it; the scrubber moves on one line and counts
a pass; a copied row enters the remap table; the store commits its pending changes in order and its compaction
keeps its contents. (R367, R147, R485, R486, R341, R347, R360) -/
def Obligations.CardAndMemoryEventsComplete : Prop :=
  ∀ (s : State),
    (∀ p, p < 2 →
      exec (.cardInserted p) s = .next (updPort p (fun c => { c with present := true }) s) ∧
      exec (.cardRemoved p) s = .next (updPort p (fun c => { closeCard c with present := false, active := false }) s) ∧
      exec (.cardOvercurrent p) s = .next (updPort p (fun c => { closeCard c with active := false }) s) ∧
      exec (.cardTimeout p) s = .next (updPort p closeCard s) ∧
      ((cardPort s p).custodian.isSome = true → (cardPort s p).openedAt + 900000000000 ≤ s.mtime →
        exec (.cardSessionExpiry p) s = .next (updPort p closeCard s))) ∧
    (∀ n, exec (.approvalWindowExpiry n) s = .next { s with cust := { s.cust with
      approvals := s.cust.approvals.filter fun a => !(a.number == n && a.expiry ≤ s.mtime && !a.reserved) } }) ∧
    (s.pwr.state = .run → s.mem.trained = true → s.mem.selfRefresh = false → s.mem.badLines.contains s.mem.scrub = false →
      exec (.scrubRead 0) s = .next { s with mem := { s.mem with
        scrub := if s.mem.scrub + 1 = 2 ^ 29 then 0 else s.mem.scrub + 1
        passes := if s.mem.scrub + 1 = 2 ^ 29 then (s.mem.passes + 1) % 2 ^ 32 else s.mem.passes } }) ∧
    (∀ row rest, s.mem.remapCopy = row :: rest →
      exec .rowRemapCopyDone s = .next { s with mem := { s.mem with remapCopy := rest, remap := s.mem.remap ++ [row] } }) ∧
    ((s.pwr.state = .ready ∨ s.pwr.state = .run) →
      exec .keyStoreCommit s = .next (finishCommitted (s.kvt.storePending.foldl (fun u o => commitOp o u)
        { s with kvt := { s.kvt with storePending := [] } }))) ∧
    exec .keyStoreCompaction s = .next s

/-- A management row launches its code with its descriptor; a fifth launch is ignored and sets OVERRUN; a command
whose descriptor, input or input layout is wrong completes with the first failure, and one that the power state
or the life-cycle state does not accept completes with REFUSED_STATE. (R466, R467, R89, R468, R421, R51, R381) -/
def Obligations.ManagementCommandsAreCheckedInOrder : Prop :=
  ∀ (s u : State) (i : Instr) (code : Nat) (l : Launch), managed i = some (code, l) →
    (exec i s = .next (pump (hostLaunch code l s))) ∧
    (mailboxReached l s = true → l.env.dual = none → wardenUp s = true → 3 ≤ s.mgt.held.length → s.mgt.running.isSome = true →
      exec i s = .next (pump (mgtInvalid 8 4 true { s with mgt := { s.mgt with
        desc := l.desc, cmd := BitVec.ofNat 16 code, overrun := true } }))) ∧
    (MailboxFree code l s u →
      (∀ st d, mgtCheck l.path (launched code l) u = some (st, d) →
        exec i s = .next (mailboxEnds code l { st := st, detail := d } u)) ∧
      (mgtCheck l.path (launched code l) u = none →
        (∀ st d, mgtFieldBad (launched code l) u = some (st, d) →
          exec i s = .next (mailboxEnds code l { st := st, detail := d } u)) ∧
        (mgtFieldBad (launched code l) u = none →
          (mgtInput (launched code l) l.env u = none →
            exec i s = .next (mailboxEnds code l { st := stMalformed, detail := malDetail 0x18 0x0B } u)) ∧
          (∀ inp, mgtInput (launched code l) l.env u = some inp →
            (∀ st d, mgtInputBad (launched code l) inp u = some (st, d) →
              exec i s = .next (mailboxEnds code l { st := st, detail := d } u)) ∧
            (mgtInputBad (launched code l) inp u = none → mgtTurnedAway (launched code l) u = true →
              ∃ v, (mgtRefuse (launched code l) u).2 = v ∧
                exec i s = .next (mailboxEnds code l (refusedState v) v))))))

/-- POWER_STATE for the state in force completes at once; RUN from READY enters RUN where nothing holds it; READY
from RUN begins the drain, which ends in READY once no request executes; SLEEP from READY closes the host path
where the management path may wake the module, and READY from SLEEP through the SMBus starts the source and
trains the link. (R435, R436, R437, R442, R241) -/
def Obligations.PowerStateCommandsComplete : Prop :=
  ∀ (s u : State) (l : Launch) (inp : Bytes),
    (MailboxTakes 0x6001 (withOp 16 4 l) s inp u → u.pwr.state = .ready → (refreshHold u).pwr.runHold = 0 →
      exec (.powerStateRun l) s = .next (mailboxEnds 0x6001 (withOp 16 4 l) {} (enterRun (refreshHold u)))) ∧
    (MailboxTakes 0x6001 (withOp 16 4 l) s inp u → u.pwr.state = .run → exec (.powerStateRun l) s = .next (mailboxEnds 0x6001 (withOp 16 4 l) {} u)) ∧
    (MailboxTakes 0x6001 (withOp 16 3 l) s inp u → u.pwr.state = .run → exec (.powerStateReady l) s = .next (pumpN 4 (beginDrain l.path u))) ∧
    (MailboxTakes 0x6001 (withOp 16 3 l) s inp u → u.pwr.state = .sleep → l.path = .smbus →
      exec (.powerStateReady l) s = .next (mailboxEnds 0x6001 (withOp 16 3 l) {} (leaveSleep l.env u))) ∧
    (MailboxTakes 0x6001 (withOp 16 2 l) s inp u → u.pwr.state = .ready → (mgtFlags u).getLsbD 0 = true → (mgtFlags u).getLsbD 2 = true →
      exec (.powerStateSleep l) s = .next (mailboxEnds 0x6001 (withOp 16 2 l) {} (enterSleep u))) ∧
    (s.rqs.readyDrain.isSome = true → s.rqs.live.all executed = true →
      exec .readyDrainDone s = .next (pump (completes drains
        (moveTo .ready (stopClocks (setSelfRefresh true { s with rqs := { s.rqs with readyDrain := none } }))))))

/-- A chunk that reads back is appended to the inactive slot, the chunk at offset 0 erasing it first, and the last
chunk marks the slot staged with sequence number 0; IMAGE_ACTIVATE of a staged image that passes every check
latches the meters, re-seals the vault seed, commits the record and applies the image. (R57, R58, R59, R61, R30) -/
def Obligations.ImageCommandsComplete : Prop :=
  ∀ (s u : State) (l : Launch) (inp : Bytes),
    (MailboxTakes 0x6002 l s inp u → l.env.readBack = true →
      let b := !u.img.slotActive
      let y : Slot := if l.desc.keyA.toNat = 0 then {} else slotOf u b
      let t : State := if l.desc.keyA.toNat = 0 then { u with img := { u.img with staged := false } } else u
      let v := setSlot b { y with content := y.content ++ inp } t
      (nbit l.desc.p 0 = false → exec (.imageStage l) s = .next (mailboxEnds 0x6002 l {}
        { v with img := { v.img with
            staging := some { next := l.desc.keyA.toNat + inp.length, total := l.desc.keyB.toNat } } })) ∧
      (nbit l.desc.p 0 = true → exec (.imageStage l) s = .next (mailboxEnds 0x6002 l {}
        (raise 1 (setSlot b { (slotOf v b) with seqNo := 0, len := l.desc.keyB.toNat, crcOk := true, seedFor := none }
          { v with img := { v.img with staging := none, staged := true } }))))) ∧
    (∀ c t, MailboxTakes 0x6003 l s inp u →
      checkImage (acceptCtx u) { flashOk := l.env.flashOk, sig := l.env.sig } (slotOf u (!u.img.slotActive)) = .inr c →
      resealStaged (!u.img.slotActive) (latchAll 5 u) = some t →
      exec (.imageActivate l) s = .next (mailboxEnds 0x6003 l {} (recharge (commitImage (!u.img.slotActive) c t))))

/-- QUEUE_CREATE makes an empty queue of the slice's depth and QUEUE_DELETE removes an idle one; SLICE_RESET stops
intake and drains or squashes, SLICE_FREEZE stops intake, and their ends make the slice ACTIVE or FROZEN, set
RESET_DONE and complete the command; SLICE_THAW makes a frozen slice ACTIVE; the drain ceiling ends what still
runs. (R67, R312, R313, R314, R436) -/
def Obligations.QueueAndResetCommandsComplete : Prop :=
  ∀ (s u : State) (l : Launch) (inp : Bytes),
    let sl := l.desc.slice.toNat
    (MailboxTakes 0x6004 l s inp u → u.pcie.pasidEnable = true → queue? u sl (l.desc.p % 16) = none →
      exec (.queueCreate l) s = .next (mailboxEnds 0x6004 l {} (setQueue sl (l.desc.p % 16)
        { depth := 2 ^ (tenant u sl).depthLog2, pasid := l.desc.keyA.toNat, sqBase := l.desc.inAddr.toNat
          cqBase := l.desc.outAddr.toNat } u))) ∧
    (∀ q, MailboxTakes 0x6005 l s inp u → queue? u sl (l.desc.p % 16) = some q → q.reads = [] →
      u.rqs.live.any (fun r => r.slice == sl && r.origin == .host (l.desc.p % 16)) = false →
      exec (.queueDelete l) s = .next (mailboxEnds 0x6005 l {} (trimOrder sl (dropQueue sl (l.desc.p % 16) u)))) ∧
    (MailboxTakes 0x6006 (withOp 2 0 l) s inp u → enabled u sl = true →
      ((slice u sl).state = .active ∨ (slice u sl).state = .frozen ∨ (slice u sl).state = .saved) →
      exec (.sliceResetDrain l) s = .next (mailboxWaits (.sliceReset sl l.path) (dropScopeApprovals sl (checkpoint
        (updSlice sl (fun y => { y with state := .resetting, squash := false, drainFrom := u.mtime }) u))))) ∧
    (MailboxTakes 0x6006 (withOp 2 1 l) s inp u → enabled u sl = true →
      ((slice u sl).state = .active ∨ (slice u sl).state = .frozen ∨ (slice u sl).state = .saved) →
      exec (.sliceResetSquash l) s = .next (mailboxWaits (.sliceReset sl l.path) (squashSlice sl (fun _ => true)
        (dropScopeApprovals sl (checkpoint
          (updSlice sl (fun y => { y with state := .resetting, squash := true, drainFrom := u.mtime }) u)))))) ∧
    (∀ n, (slice s n).state = .resetting → (slice s n).squash = false → readsDone s n = true →
      s.rqs.live.any (fun r => r.slice == n) = false →
      exec (.sliceResetDone n) s = .next (pump (completes (resets n)
        (raise 6 (checkpoint (updSlice n (fun x => { x with state := .active, resetDone := true, squash := false })
          (dropQueues n (releaseLanding n s)))))))) ∧
    (MailboxTakes 0x6007 (withOp 2 0 l) s inp u → enabled u sl = true → (slice u sl).state = .active →
      exec (.sliceFreeze l) s = .next (mailboxWaits (.sliceFreeze sl l.path)
        (checkpoint (updSlice sl (fun y => { y with state := .freezing, drainFrom := u.mtime }) u)))) ∧
    (∀ n, (slice s n).state = .freezing → readsDone s n = true → responsesDone s n = true →
      s.rqs.live.any (fun r => r.slice == n && !r.viaPeer) = false →
      exec (.sliceFreezeDone n) s = .next (pump (completes (freezes n)
        (raise 6 (checkpoint (updSlice n (fun x => { x with state := .frozen, resetDone := true, roster := rosterOf s n })
          ((tenantSessions s n).foldl (fun u i => closeSession i (some 0) u) s))))))) ∧
    (MailboxTakes 0x6007 (withOp 2 1 l) s inp u → enabled u sl = true → (slice u sl).state = .frozen →
      exec (.sliceThaw l) s = .next (mailboxEnds 0x6007 (withOp 2 1 l) {}
        (checkpoint (updSlice sl (fun y => { y with state := .active, roster := [] }) u)))) ∧
    (∀ n, ((slice s n).state = .resetting ∨ (slice s n).state = .freezing) → (slice s n).drainFrom + drainNs s ≤ s.mtime →
      exec (.drainCeilingExpiry (some n)) s =
        .next (squashSlice n (fun r => !r.isEnsign && !((slice s n).state == .freezing && r.viaPeer)) s)) ∧
    (∀ t, s.rqs.readyDrain = some t → t + drainNs s ≤ s.mtime →
      exec (.drainCeilingExpiry none) s = .next (endLive (fun r => !r.isEnsign && squashable r) stAborted s))

/-- SLICE_RESTORE PREPARE gives out a signed offer and keeps its keys for 600 s; SLICE_SAVE of a frozen slice closes
its interval, encrypts queues and roster for a valid offer of an alive peer and leaves the slice SAVED without
queues; SLICE_RESTORE of a blob for the offer restores them; an expired offer and expired places are forgotten.
(R315, R316, R317, R318, R322) -/
def Obligations.MigrationCommandsComplete : Prop :=
  ∀ (s u : State) (l : Launch) (inp : Bytes),
    let sl := l.desc.slice.toNat
    (∀ t, MailboxTakes 0x6009 (withOp 16 1 l) s inp u → enabled u sl = true → u.kvt.identity = true →
      wardenCalls 1 u = some t →
      let o : Offer := { id := leNat (freeBytes (t.freeCtr + 2) 8), expiry := u.mtime + 600000000000, keys := t.freeCtr }
      let body := offerBody sl (selfNode u) o
      exec (.sliceRestorePrepare l) s = .next (mailboxEnds 0x6009 (withOp 16 1 l)
        { out := body ++ identitySign u "MORILATIK-MIG-1" body (t.freeCtr + 3) }
        (updSlice sl (fun x => { x with offer := some o }) { t with freeCtr := t.freeCtr + 4 }))) ∧
    (∀ t, MailboxTakes 0x6008 l s inp u → (slice u sl).state = .frozen → (tenant u sl).flags.getLsbD 5 = true →
      (peerOf u (fld inp 8 2)).state = 1 → (peerOf u (fld inp 8 2)).session.isSome = true → signed l.env.sig = true →
      u.mtime < fld inp 24 8 → wardenCalls 1 u = some t →
      let e := saveEntry u sl
      let (ct, ssM) := pqEncapsOf "K" 2 (bytesAt inp 32 1184) t.freeCtr
      let x := freeBytes (t.freeCtr + 1) 32
      let c : Cipher := { aes := true, key := migrationKey ssM (xdh 4 x (bytesAt inp 1216 32)) inp }
      let body := blobPayload u sl e
      let head := ascii "SBLB" ++ leBytes 2 1 ++ [l.desc.slice, 0] ++ leBytes 2 (selfNode u) ++ leBytes 2 (fld inp 8 2) ++
        leBytes 4 body.length ++ bytesAt inp 16 8 ++ leBytes 8 u.mtime ++ List.replicate 16 0 ++ ct ++ xdh 4 x (xBase 4)
      let iv := freeBytes (t.freeCtr + 2) 12
      let enc := gcmText c iv body
      exec (.sliceSave l) s = .next (mailboxEnds 0x6008 l { out := head ++ iv ++ enc ++ gcmTag c iv head enc }
        (checkpoint (dropQueues sl (updSlice sl (fun y => { (queueRing e y) with
          meter := { start := u.mtime }, state := .saved, roster := [] }) { t with freeCtr := t.freeCtr + 3 }))))) ∧
    (∀ o b, MailboxTakes 0x6009 (withOp 16 2 l) s inp u → (slice u sl).offer = some o → fld inp 10 2 = selfNode u →
      fld inp 16 8 = o.id → u.mtime < o.expiry → openBlob u sl o inp = some b →
      let q := fld b 0 1
      let r := fld b 1 1
      let qs := (List.range q).map fun i => queueOfRecord (bytesAt b (8 + 32 * i) 32)
      let roster := (List.range r).map fun i => (bytesAt b (8 + 32 * q + 40 * i) 32, fld b (8 + 32 * q + 40 * i + 32) 8)
      b.length = 328 + 32 * q + 40 * r → q ≤ 16 → r ≤ 64 → fld inp 6 1 = sl → restorable u sl qs = true →
      exec (.sliceRestore l) s = .next (mailboxEnds 0x6009 (withOp 16 2 l) {}
        (applyBlob sl (fld inp 8 2) qs roster (ringOfBytes (bytesAt b (b.length - 320) 320)) u))) ∧
    (∀ n o, (slice s n).offer = some o → o.expiry ≤ s.mtime →
      exec (.offerExpiry n) s = .next (updSlice n (fun x => { x with offer := none }) s)) ∧
    (∀ n, exec (.rosterReservationExpiry n) s =
      .next (updSlice n (fun x => { x with reservedPlaces := x.reservedPlaces.filter fun p => s.mtime < p.2 }) s))

/-- METER_LATCH_ALL and a passed minute close every open interval, and the oldest closed one enters the ring under
the next sequence; LOG_CLEAR with the next sequence numbers and two approvals of its statement empties the
logbooks it names and uses the approvals up; staged events are written out; LOG_SEL selects a record, and the
fetch shows it. (R321, R322, R427, R424, R431, R145, R425) -/
def Obligations.MeterAndLogCommandsComplete : Prop :=
  ∀ (s u : State) (l : Launch) (inp : Bytes),
    (MailboxTakes 0x600A l s inp u → exec (.meterLatchAll l) s = .next (mailboxEnds 0x600A l {} (latchAll 2 u))) ∧
    ((s.pwr.state = .ready ∨ s.pwr.state = .run) → s.mgt.mtrLast / 60000000000 < s.mtime / 60000000000 →
      exec .minuteLatch s = .next { latchAll 1 s with mgt := { (latchAll 1 s).mgt with mtrLast := s.mtime } }) ∧
    (∀ n e rest, (slice s n).latching = e :: rest →
      let q := ((slice s n).ringSeq + 1) % 2 ^ 32
      exec (.ringEntryWritten n) s = .next (finishLatches n (updSlice n (fun x => { x with
        latching := rest, ringSeq := q, ring := ({ e with seqNo := q } :: x.ring).take 64 }) s))) ∧
    (∀ n i k a t, ((n = 1 ∧ i = .logClearMain l) ∨ (n = 2 ∧ i = .logClearReserve l) ∨ (n = 3 ∧ i = .logClearBoth l)) →
      k = withOp 4 n l → MailboxTakes 0x600B k s inp u → fld inp 0 4 = u.log.next → fld inp 4 4 = u.log.rsvNext →
      reserveApprovals 2 0 (opStatement (launched 0x600B k) 0xFFFF inp) u = .inl (a, t) →
      let v := if n = 2 then t else clearMain t
      exec i s = .next (mailboxEnds 0x600B k {} (settleApprovals true (opStatement (launched 0x600B k) 0xFFFF inp)
        (if n = 1 then v else clearReserve v)))) ∧
    (wardenUp s = true → s.log.size ≠ 0 → exec .logStagingFlush s = .next (flushLog s)) ∧
    (∀ v, barOpen s = true → exec (.logSel .bar0 v) s = .next (pump { s with log := { s.log with
      selRsv := v.getLsbD 31, selSeq := v.toNat % 2 ^ 24, selBusy := true } })) ∧
    (s.log.selBusy = true → wardenUp s = true →
      let t := flushLog s
      exec .logSelFetchDone s = .next { t with log := { t.log with
        selBusy := false
        window := (if t.log.selRsv then t.log.rsv else t.log.main).find? fun r => r.seqNo == t.log.selSeq } })

/-- A life-cycle request that passes every row of its table, and a SCRAP, with the capacitor full runs its
transition at once: intent, middle step and copies are burned, and with every copy reading the target's code
word the new state governs and the command completes with OK; without the charge it waits, goes on when the
capacitor is full, and after 1 s ends with REFUSED_STATE. (R382, R384, R385, R386, R388, R443) -/
def Obligations.LifecycleCommandsComplete : Prop :=
  ∀ (s u : State) (l : Launch) (inp : Bytes),
    (MailboxTakes 0x600E (withOp 16 2 l) s inp u → u.pwr.state = .ready → u.tmp.locked = false → u.lcs.waiting = none →
      u.lcs.state = .maker → u.ent.startupDone = true → l.desc.p / 16 = 0 → l.desc.inLen = 0 → capFull u = true →
      exec (.lifecycleRequestIntegrator l) s = .next (pumpN 4 (completeTransition 2 0x600E l.path l.env.readBack
        { u with lcs := { u.lcs with xtarget := 2 } }))) ∧
    (∀ n i, ((n = 3 ∧ i = .lifecycleRequestFielded l) ∨ (n = 4 ∧ i = .lifecycleRequestReturned l)) →
      MailboxTakes 0x600E (withOp 16 n l) s inp u → requestBad (launched 0x600E (withOp 16 n l)) inp = none →
      u.pwr.state = .ready → u.tmp.locked = false → u.lcs.waiting = none → u.lcs.state.code = n - 1 →
      u.kvt.ownerFpr.isSome = true → bytesAt inp 8 32 = u.kvt.idFpr → signed l.env.sig = true → l.desc.p / 16 = 0 →
      (capFull u = true → exec i s = .next (pumpN 4 (completeTransition n 0x600E l.path l.env.readBack
        { u with lcs := { u.lcs with xtarget := n } }))) ∧
      (capFull u = false → exec i s = .next (mailboxWaits (.transition 0x600E l.path) { u with lcs := { u.lcs with
        xtarget := n
        waiting := some { target := n, code := 0x600E, path := l.path, since := u.mtime, readBack := l.env.readBack } } }))) ∧
    (MailboxTakes 0x600F l s inp u → capFull u = true →
      exec (.scrap l) s = .next (pumpN 4 (completeTransition 5 0x600F l.path l.env.readBack
        { u with lcs := { u.lcs with xtarget := 5 } }))) ∧
    (∀ target ds t, copiesAre (burnTransition target ds true t) target = true →
      endTransition target (burnTransition target ds true t) =
        ({}, enterState target (xstatus 0 target (burnTransition target ds true t)))) ∧
    (∀ w, s.lcs.waiting = some w → capFull s = false → w.since + 1000000000 ≤ s.mtime →
      let t := logEvent 0xA05 [BitVec.ofNat 8 w.target] (xstatus 4 w.target s)
      exec .lcsEnergyWait s = .next (pump (mgtDone w.code w.path stState (stateDetail t) 0 t))) ∧
    (s.pwr.vinValid = true →
      let t : State := { s with pwr := { s.pwr with cap := max s.pwr.cap 4400 } }
      (s.lcs.waiting = none → exec .capFullReached s = .next (pump t)) ∧
      (∀ w, s.lcs.waiting = some w → s.tmp.locked = false →
        exec .capFullReached s = .next (pump (completeTransition w.target w.code w.path w.readBack t))))

/-- OWNER_ENROL installs the owner root or a roster of a higher serial; IDENTITY_ATTEST answers with the signed
identity statement; VAULT_RESEAL stages firmware, seals the seed for it, or replaces the seed; VAULT_REKEY
writes its journal, and its ranges advance until the new seed governs. (R365, R366, R369, R371, R372, R373,
R374) -/
def Obligations.OwnerAndVaultCommandsComplete : Prop :=
  ∀ (s u : State) (l : Launch) (inp : Bytes),
    (MailboxTakes 0x6010 (withOp 16 1 l) s inp u → u.lcs.state = .integrator → u.kvt.ownerFpr = none → signed l.env.sig = true →
      exec (.ownerEnrol l) s = .next (mailboxEnds 0x6010 (withOp 16 1 l) {}
        { u with kvt := { u.kvt with ownerFpr := some (sha256 (inp.take 2689)) } })) ∧
    (MailboxTakes 0x6010 (withOp 16 2 l) s inp u → u.kvt.ownerFpr.isSome = true →
      (u.lcs.state = .integrator ∨ u.lcs.state = .fielded) → signed l.env.sig = true → boundHere u (bytesAt inp 16 32) = true →
      u.kvt.rosterSerial < fld inp 8 8 →
      exec (.ownerEnrolRoster l) s = .next (mailboxEnds 0x6010 (withOp 16 2 l) {} (dropApprovals { u with kvt := { u.kvt with
        roster := (List.range (rosterCount inp)).map fun i => custodianOf (bytesAt inp (48 + 72 * i) 72)
        rosterSerial := fld inp 8 8 } }))) ∧
    (∀ t, MailboxTakes 0x6011 l s inp u → u.kvt.identity = true → u.kvt.signsNothing = false → wardenCalls 1 u = some t →
      let v : State := { t with freeCtr := t.freeCtr + 1 }
      exec (.identityAttest l) s = .next (mailboxEnds 0x6011 l
        { out := identityStatement v inp ++ identitySign v "MORILATIK-IDST-1" (identityStatement v inp) t.freeCtr } v)) ∧
    (MailboxTakes 0x6012 (withOp 16 1 l) s inp u →
      let old := if fld inp 0 4 = 0 then [] else u.kvt.fwBytes
      exec (.vaultResealStage l) s = .next (mailboxEnds 0x6012 (withOp 16 1 l) {} { u with kvt := { u.kvt with
        fwBytes := fit (fld inp 0 4) old ++ inp.drop 4 ++ old.drop (fld inp 0 4 + (inp.drop 4).length) } })) ∧
    (∀ ver mW mU v, MailboxTakes 0x6012 (withOp 16 2 l) s inp u → Config.bundleOf u.kvt.fwBytes = (ver, mW, mU) →
      u.kvt.fwBytes ≠ [] → signed l.env.bundle = true → signed l.env.sig = true → boundHere u (bytesAt inp 8 32) = true →
      bytesAt inp 40 48 = fit 48 mW → bytesAt inp 88 48 = fit 48 mU → u.kvt.fw.version ≤ ver → u.kvt.vs = some v →
      exec (.vaultResealCommit l) s = .next (mailboxEnds 0x6012 (withOp 16 2 l) {} { u with kvt := { u.kvt with
        fwNext := some { version := ver, mW := fit 48 mW, mU := fit 48 mU }
        reseal := some (measureOf (fit 48 mW) (fit 48 mU) (imageMeasure u), v) } })) ∧
    (∀ t, MailboxTakes 0x6012 (withOp 16 3 l) s inp u → signed l.env.sig = true → boundHere u (bytesAt inp 8 32) = true →
      bytesAt inp 40 48 = fit 48 u.kvt.fw.mW → bytesAt inp 88 48 = fit 48 u.kvt.fw.mU → wardenCalls 1 u = some t →
      exec (.vaultResealAbandon l) s = .next (mailboxEnds 0x6012 (withOp 16 3 l) {}
        (refreshHold (newSeed t.freeCtr (endRekey stAborted { t with freeCtr := t.freeCtr + 1 }))))) ∧
    (∀ t, MailboxTakes 0x6013 l s inp u → u.kvt.vs.isSome = true → u.kvt.rekey = none → wardenCalls 1 u = some t →
      let v : State := { t with freeCtr := t.freeCtr + 1 }
      exec (.vaultRekey l) s = .next (pumpN 4 (checkpoint { v with kvt := { v.kvt with
        rekey := some { seed := t.freeCtr, sealedFor := measureNow v, line := 0, path := some l.path }, rekeyLine := 0 } }))) ∧
    (∀ r, s.kvt.rekey = some r → s.tmp.locked = false → (s.pwr.state = .ready ∨ s.pwr.state = .run) →
      let line := (r.line / 262144 + 1) * 262144
      (line < 2 ^ 29 → exec .rekeyRangeDone s = .next (pump { s with kvt := { s.kvt with
        rekey := some { r with line := line }, rekeyLine := line } })) ∧
      (2 ^ 29 ≤ line → exec .rekeyRangeDone s = .next (pump (rekeyDone r stOk (finishRekey r.seed s)))))

/-- OPEN of a present card of a rostered custodian answers with its ID and roles; APPROVE keeps one more approval
and answers with its number; WITHDRAW removes an approval that nothing has reserved; CLOSE ends the card
session; STATUS lists the approvals; UNLOCK with the right lock number, no condition present and the approvals
it needs unlocks the module. (R147, R367, R368, R145, R408, R409) -/
def Obligations.CustodianCommandsComplete : Prop :=
  ∀ (s u : State) (l : Launch) (inp : Bytes),
    (∀ t r, MailboxTakes 0x6014 (withOp 16 1 l) s inp u →
      let p := portNo (launched 0x6014 (withOp 16 1 l))
      (cardPort u p).present = true → (cardPort u p).custodian = none → wardenCalls 1 u = some t →
      l.env.card.removed = false → l.env.card.answers = true → l.env.card.sigOk = true → l.env.card.verified = 1 →
      rosterEntry t l.env.card.custodian.toNat = some r →
      exec (.custodianSessionOpen l) s = .next (mailboxEnds 0x6014 (withOp 16 1 l)
        { out := leBytes 2 l.env.card.custodian.toNat ++ [r.roles] }
        (updPort p (fun x => { x with
            active := true, custodian := some l.env.card.custodian.toNat, roles := r.roles, openedAt := t.mtime, key := t.freeCtr })
          { t with freeCtr := t.freeCtr + 1 }))) ∧
    (∀ id, MailboxTakes 0x6014 (withOp 16 2 l) s inp u →
      let p := portNo (launched 0x6014 (withOp 16 2 l))
      let c := cardPort u p
      let wants := nbit (fld inp 66 2) 0
      let a : Approval := {
        number := u.cust.nextNumber, statement := inp.take 64, custodian := id, roles := c.roles, port := p
        expiry := u.mtime + 1000000000 * fld inp 64 2, component := if wants then l.env.card.component else none }
      c.custodian = some id → c.roles.getLsbD (b2n wants) = true → (addApproval a u.cust.approvals).length ≤ 16 →
      l.env.card.removed = false → l.env.card.answers = true → l.env.card.sigOk = true →
      (wants = true → l.env.card.component.isSome = true) →
      exec (.custodianSessionApprove l) s = .next (mailboxEnds 0x6014 (withOp 16 2 l) { out := leBytes 2 a.number }
        { u with cust := { u.cust with
            approvals := addApproval a u.cust.approvals, nextNumber := u.cust.nextNumber % 65535 + 1 } })) ∧
    (∀ a, MailboxTakes 0x6014 (withOp 16 3 l) s inp u → u.cust.approvals.find? (fun x => x.number == fld inp 0 2) = some a →
      a.reserved = false →
      exec (.custodianSessionWithdraw l) s = .next (mailboxEnds 0x6014 (withOp 16 3 l) {}
        (setApprovals (u.cust.approvals.filter fun x => x.number != a.number) u))) ∧
    (MailboxTakes 0x6014 (withOp 16 4 l) s inp u →
      exec (.custodianSessionClose l) s = .next (mailboxEnds 0x6014 (withOp 16 4 l) {}
        (updPort (portNo (launched 0x6014 (withOp 16 4 l))) closeCard u))) ∧
    (MailboxTakes 0x6014 (withOp 16 5 l) s inp u →
      exec (.custodianSessionStatus l) s = .next (mailboxEnds 0x6014 (withOp 16 5 l)
        { out := u.cust.approvals.flatMap (approvalBytes u.mtime) } u)) ∧
    (∀ a t, MailboxTakes 0x600D l s inp u →
      let v : State := { u with tmp := { u.tmp with active := l.env.tmpActive } }
      let st := opStatement (launched 0x600D l) 0xFFFF inp
      u.tmp.locked = true → u.lcs.state ≠ .scrapped → u.lcs.state ≠ .invalid → l.env.tmpActive = 0 → u.tmp.erased = false →
      fld inp 0 8 = u.tmp.lockSeq → reserveApprovals (unlockApprovals v) 0 st v = .inl (a, t) →
      let t2 : State := { t with tmp := { t.tmp with
        latched := 0, locked := false, erased := false, seedKilled := false, killRunning := false } }
      let t3 := if t2.ent.startupDone && !t2.ent.sourceFail then
        reseedMasks (instantiateAll (consumerInsts t2 1 ++ consumerInsts t2 2 ++ consumerInsts t2 3) t2) else t2
      exec (.unlock l) s = .next (mailboxEnds 0x600D l {} (settleApprovals true st
        (refreshHold (logEvent 0xB02 (leBytes 4 t.tmp.lockSeq ++ [0]) t3)))))

/-- MEMBERSHIP_INSTALL writes certificate and seeds and rekeys every session; DOMAIN_CREATE claims a domain with a
fresh key set, SET_STANDBY claims it anew with the standby, HANDOVER sends the final delta and waits;
ENGINE_ABORT ends what the unit works on; WARDEN_SWITCHBACK hands over to the standby core. (R304, R296, R301,
R302, R195, R416, R417) -/
def Obligations.MembershipAndWardenCommandsComplete : Prop :=
  ∀ (s u : State) (l : Launch) (inp : Bytes),
    (∀ i, MailboxTakes 0x6015 l s inp u → u.img.cfg = some i → signed l.env.sig = true →
      let c := certOfBytes (inp.take 6832)
      u.kvt.ownerFpr = some c.ownerFpr → c.fpr = u.kvt.idFpr → c.cluster ≠ 0 → c.cluster = clusterId u → u.fab.cert = none →
      let t := nodeSources i { u with fab := { u.fab with
        cert := some c, seedAddrs := (List.range (fld inp 6832 1)).map fun i => bytesAt inp (6840 + 16 * i) 16 } }
      exec (.membershipInstall l) s = .next (mailboxEnds 0x6015 l {}
        ((t.fab.sessions.map fun e => e.2.fpr).foldl (fun v f => startHello f v) t))) ∧
    (MailboxTakes 0x6016 (withOp 16 1 l) s inp u → signed l.env.sig = true → u.kvt.ownerFpr.isSome = true →
      BitVec.ofNat 64 (fld inp 8 8) = clusterId u → bytesAt inp 24 32 = u.kvt.idFpr → ownsDomains u = true →
      let n := fld inp 16 2
      (domainOf u n).pennant < fld inp 20 4 →
      ((domainOf u n).state = 1 → exec (.domainCreate l) s = .next (mailboxEnds 0x6016 (withOp 16 1 l) {}
        (ownClaim n 1 (fld inp 20 4) (fld inp 18 2) u))) ∧
      (∀ t, (domainOf u n).state ≠ 1 → wardenCalls 1 u = some t →
        exec (.domainCreate l) s = .next (mailboxEnds 0x6016 (withOp 16 1 l) {} (persistDomain n
          (ownClaim n 1 (fld inp 20 4) (fld inp 18 2) { t with
            freeCtr := t.freeCtr + 1, kvt := { t.kvt with dks := tset t.kvt.dks n t.freeCtr }
            fab := { t.fab with own := tset t.fab.own n {}, sby := terase t.fab.sby n } }))))) ∧
    (let n := l.desc.domain.toNat
     MailboxTakes 0x6016 (withOp 16 2 l) s inp u → ownsDomains u = true → (domainOf u n).state = 1 →
      (domainOf u n).pennant ≠ 0xFFFFFFFF →
      (fld inp 0 2 = 0xFFFF ∨ ((peerOf u (fld inp 0 2)).state = 1 ∧ (peerOf u (fld inp 0 2)).mayStandby = true)) →
      exec (.domainSetStandby l) s = .next (mailboxEnds 0x6016 (withOp 16 2 l) {}
        (ownClaim n 4 ((domainOf u n).pennant + 1) (fld inp 0 2) u))) ∧
    (let n := l.desc.domain.toNat
     MailboxTakes 0x6016 (withOp 16 3 l) s inp u → ownsDomains u = true → (domainOf u n).state = 1 →
      (domainOf u n).pennant ≠ 0xFFFFFFFF → (domainOf u n).sby = true → (tgetD u.fab.own n {}).stored ≠ 0 →
      exec (.domainHandover l) s = .next (mailboxWaits (.handover n l.path) (askClaim n (sendDelta n
        { u with fab := { u.fab with own := tupd u.fab.own n {} fun o => { o with handover := true, asked := false } } })))) ∧
    (MailboxTakes 0x6017 l s inp u →
      exec (.engineAbort l) s = .next (mailboxEnds 0x6017 l {} (abortUnit (l.desc.p / 256) (l.desc.p % 256) u))) ∧
    (MailboxTakes 0x600C l s inp u → u.wdn.standby = true → journalRuns u = false → u.tmp.locked = false →
      exec (.wardenSwitchback l) s = .next (mailboxEnds 0x600C l {} (failOver 6 u)))

/-- A write through an open path changes its register by access type and serves the mailbox, and a misaligned or
forbidden one is ignored and logged; the low word of a 64-bit register latches its high word for the next read
through the same path; a disallowed access reads zero and is logged; ENT_RAW_CTRL and ENT_RAW_DATA work in the
capture states alone; TMP_FUSE_CMD starts a burn where every condition holds; unmasking a vector sends what it
holds; a refused PCIe request answers Unsupported Request. (R471, R11, R13, R247, R405, R455, R473, R464) -/
def Obligations.RegisterEventsComplete : Prop :=
  ∀ (s : State),
    (∀ p off v env, pathOpen p s = true → off % 4 = 0 →
      (p = .bar0 ∨ ((mgtFlags s).getLsbD 1 = true ∧ smbusWritable off = true)) →
      exec (.registerWrite p off v env) s = .next (pump (regWrite p off v env s))) ∧
    (∀ p off v env, pathOpen p s = true →
      (off % 4 ≠ 0 ∨ (p = .smbus ∧ ((mgtFlags s).getLsbD 1 = false ∨ smbusWritable off = false))) →
      exec (.registerWrite p off v env) s = .next (mgtInvalid off 4 true s)) ∧
    (∀ p off, pathOpen p s = true → wideLow.contains off = true →
      exec (.reg64LowRead p off) s = .next (answer p (regWord off s) (setLatch p (some (off, regWord (off + 4) s)) s)) ∧
      (∀ t, exec (.reg64LowRead p off) s = .next t → (readReg p (off + 4) t).1 = regWord (off + 4) s)) ∧
    (∀ p off width wr, pathOpen p s = true → accessOk off width = false →
      exec (.registerAccessInvalid p off width wr) s = .next (if wr then mgtInvalid off width wr s
        else answer p 0 (mgtInvalid off width wr s))) ∧
    (∀ v, barOpen s = true → captureState s = false →
      exec (.entRawCtrl .bar0 v) s = .next (pump (logEvent 0x705 [BitVec.ofNat 8 s.lcs.state.code] s))) ∧
    (∀ v, barOpen s = true → captureState s = true → exec (.entRawCtrl .bar0 v) s = .next (pump (rawCtrl v s))) ∧
    (∀ p w rest, pathOpen p s = true → captureState s = true → s.ent.buffer = w :: rest →
      exec (.entRawData p) s = .next (answer p w { s with ent := { s.ent with buffer := rest } })) ∧
    (∀ p, pathOpen p s = true → (captureState s = false ∨ s.ent.buffer = []) →
      exec (.entRawData p) s = .next (answer p 0 s)) ∧
    (∀ source : BitVec 8, barOpen s = true → s.tmp.fuseBusy = none → s.lcs.state = .integrator → s.pwr.state = .ready →
      s.tmp.locked = false → source ≠ 0 → source.toNat ≤ 7 → burnEnergy 2 ≤ s.pwr.cap →
      exec (.tmpFuseCmd 0xD15A source) s = .next (pump { s with tmp := { s.tmp with fuseBusy := some source.toNat } })) ∧
    (∀ v, barOpen s = true → exec (.pwrCellFaultClear .bar0 v) s = .next (pump (cellFaultWrite v s))) ∧
    (∀ v, barOpen s = true → v < 2048 → s.pcie.unmasked.contains v = false →
      exec (.msixUnmask v) s = .next (flushMsix { s with pcie := { s.pcie with unmasked := v :: s.pcie.unmasked } })) ∧
    (∀ bar, s.pcie.link = true → ideBlocks s = true → (bar = 0 ∨ bar = 2 ∨ bar = 4) →
      exec (.pcieRequestRefused bar false) s = .next (emit (.pcie 1) s) ∧
      exec (.pcieRequestRefused bar true) s = .next s)

/-- With the fuse-burn stage at the core's pennant, a burn that reads back blows exactly the two fuses of its
source, clears BUSY and leaves result 0; no other fuse changes, and a burn that fails its read-back leaves
result 5; the named other parts of the state do not change. (R405, R392) -/
def Obligations.FuseBurnBlowsBothFuses : Prop :=
  ∀ (s : State) (c : Nat), s.tmp.fuseBusy = some c → 1 ≤ c → c ≤ 7 →
    tgetD s.wdn.stage 1 0 ≤ s.wdn.pennant → ∀ ok : Bool,
    ∃ t, exec (.fuseBurnDone ok) s = .next t ∧ t.tmp.fuseBusy = none ∧ t.tmp.fuseResult = (if ok then 0 else 5) ∧
      (ok = true → ∀ i, t.lcs.fuse.getLsbD i =
        (s.lcs.fuse.getLsbD i || decide (i = 5504 + 2 * (c - 1) ∨ i = 5504 + 2 * (c - 1) + 1))) ∧
      (∀ i, i ≠ 5504 + 2 * (c - 1) → i ≠ 5504 + 2 * (c - 1) + 1 → t.lcs.fuse.getLsbD i = s.lcs.fuse.getLsbD i) ∧
      t.pending = s.pending ∧ t.mem = s.mem ∧ t.kvt = s.kvt ∧ t.pwr = s.pwr ∧ t.rqs = s.rqs ∧ t.lku = s.lku ∧ t.fab = s.fab ∧
      t.img = s.img ∧ t.ent = s.ent ∧ t.eng = s.eng

/-- A configuration request before step 7 of a start gets Retry, later success and the header dword that is fixed;
each PCIe reset resets the host path, PERST_N and a link loss drop the link too; releasing PERST_N trains it;
D3hot, D0, Bus Master, PASID Enable and credits do what they say; the SPDM responder answers with the IDE flag,
and the stream becomes Secure after its keys. (R460, R463, R464, R465, R475, R476, R94) -/
def Obligations.PcieEventsComplete : Prop :=
  ∀ (s : State),
    (∀ off w, s.pcie.perst = false → s.pwr.state = .starting → s.pwr.startRun = false →
      exec (.configRequest off w) s = .next (emit (.pcie 3) s)) ∧
    (s.pcie.perst = false → s.pcie.link = true → (s.pwr.state = .starting → s.pwr.startRun = true) →
      exec (.configRequest 0x00 none) s = .next (emit (.pcie 0) (emit (.value 0x72601D2B) s)) ∧
      exec (.configRequest 0x08 none) s = .next (emit (.pcie 0) (emit (.value 0x10800001) s)) ∧
      exec (.configRequest 0x2C none) s = .next (emit (.pcie 0) (emit (.value 0x00001D2B) s)) ∧
      (∀ off, exec (.configRequest off (some true)) s =
        .next (emit (.pcie 0) (flushWaiting { s with pcie := { s.pcie with pasidEnable := true } }))) ∧
      (∀ off, exec (.configRequest off (some false)) s = .next (emit (.pcie 0) (clearPasid s)))) ∧
    ((s.pwr.state = .ready ∨ s.pwr.state = .run ∨ s.pwr.state = .starting) →
      exec (.pcieReset .perst) s = .next { dropLink (hostReset s) with
        pcie := { (dropLink (hostReset s)).pcie with perst := true } }) ∧
    ((s.pwr.state = .off ∨ s.pwr.state = .reserve ∨ s.pwr.state = .sleep) → exec (.pcieReset .perst) s = .next s) ∧
    (s.pcie.link = true →
      exec (.pcieReset .linkDown) s = .next (dropLink (hostReset s)) ∧
      exec (.pcieReset .hotReset) s = .next (hostReset s) ∧ exec (.pcieReset .flr) s = .next (hostReset s) ∧
      exec .d3hotEntry s = .next { s with pcie := { s.pcie with d3hot := true } } ∧
      exec .busMasterDisable s = .next { s with pcie := { s.pcie with busMaster := false } } ∧
      exec .busMasterEnable s = .next (resumeDma { s with pcie := { s.pcie with busMaster := true } }) ∧
      exec .postedWriteCreditReturn s = .next (resumeDma { s with pcie := { s.pcie with credits := true } })) ∧
    (s.pcie.d3hot = true → exec .d0Return s = .next (hostReset s)) ∧
    (s.pcie.link = true → s.pcie.pasidEnable = true →
      (s.rqs.queues = [] → exec .pasidEnableClear s = .next { s with pcie := { s.pcie with pasidEnable := false } }) ∧
      (s.rqs.queues ≠ [] → exec .pasidEnableClear s = .next (hostReset s))) ∧
    (linkTrains s = true →
      let t : State := { s with pcie := { s.pcie with perst := false } }
      exec .perstNRelease s = .next (resumeDma (trainLink t))) ∧
    (s.pcie.link = true → (mgtFlags s).getLsbD 3 = true →
      (∀ secured keyProg, exec (.spdmMessage secured keyProg) s = .next (emit .doe { s with pcie := { s.pcie with
        spdm := s.pcie.spdm || (secured && s.kvt.identity && !s.kvt.signsNothing)
        keyed := s.pcie.keyed || (secured && keyProg && s.pcie.spdm) } })) ∧
      (s.pcie.keyed = true → exec .ideStreamSecure s = .next (resumeDma { s with pcie := { s.pcie with secure := true } }))) ∧
    exec .ideStreamInsecure s = .next { s with pcie := { s.pcie with secure := false } }

/-- After the effect of a PCIe reset no queue is left, no request that came through a host queue is live, Bus Master
Enable, PASID Enable and D3hot are clear, every vector is masked with nothing pending, the stream is not Secure,
and the MGT_ registers read their reset values with no launch of BAR0 held. (R475, R65) -/
def Obligations.HostResetClosesTheHostPath : Prop :=
  ∀ (s : State), s.pcie.link = true →
    ∃ t, exec (.pcieReset .flr) s = .next t ∧ t.rqs.queues = [] ∧ t.rqs.order = [] ∧
      t.pcie.busMaster = false ∧ t.pcie.pasidEnable = false ∧ t.pcie.d3hot = false ∧ t.pcie.secure = false ∧
      t.pcie.unmasked = [] ∧ t.pcie.pba = [] ∧ t.mgt.desc = {} ∧ t.mgt.status = 0 ∧ t.mgt.done = false ∧ t.mgt.irq = 0 ∧
      t.mgt.irqEnable = 0 ∧ t.mgt.buf = [] ∧ (∀ h ∈ t.mgt.held, h.launch.path = .smbus) ∧
      (∀ r ∈ t.rqs.live, viaHost r = false) ∧ t.pending = s.pending ∧ t.mtime = s.mtime ∧ t.lcs = s.lcs ∧ t.img = s.img

/-- With the port answering, each SMBus command does its read, write, address, telemetry or power transfer, moves
the address on, and NACKs a wrong PEC; an unknown command is NACKed; MOD_RST_N held low for 10 us starts the
module anew. (R472, R473, R474, R498, R475) -/
def Obligations.SidebandCommandsComplete : Prop :=
  ∀ (s : State), (smbusUp s = true →
      (∀ pec, exec (.smbusTelemetry pec) s = .next (emit (.smbus (telemetry s)) s)) ∧
      (∀ target, (mgtFlags s).getLsbD 2 = true → exec (.smbusPower target true) s =
        .next (pump (launch 0x6001 { path := .smbus, desc := { command := 0x6001, p0 := target.setWidth 16 } } s))) ∧
      (∀ target pec, (pec = false ∨ (mgtFlags s).getLsbD 2 = false) → exec (.smbusPower target pec) s = .next (emit .nack s)) ∧
      (∀ a, exec (.smbusSetAddr a true) s = .next { s with mgt := { s.mgt with smbAddr := a.toNat } } ∧
        exec (.smbusSetAddr a false) s = .next (emit .nack s)) ∧
      (exec .smbusRead s = .next (smbusAdvance 4
        (emit (.smbus (leBytes 4 (smbusWord s.mgt.smbAddr s).1.toNat)) (smbusWord s.mgt.smbAddr s).2))) ∧
      (∀ v env, exec (.smbusWrite v true env) s = .next (smbusAdvance 4 (writeReg .smbus s.mgt.smbAddr v env s)) ∧
        exec (.smbusWrite v false env) s = .next (emit .nack s)) ∧
      (exec .smbusReadBurst s = .next (smbusAdvance 32
        (emit (.smbus (smbusWords 8 s.mgt.smbAddr s).1) (smbusWords 8 s.mgt.smbAddr s).2))) ∧
      (∀ l env, l.length = 8 → s.mgt.smbAddr % 4 = 0 → (mgtFlags s).getLsbD 1 = true →
        (∀ k, k < 8 → smbusWritable (s.mgt.smbAddr + 4 * k) = true) →
        exec (.smbusWriteBurst l true env) s = .next (smbusAdvance 32 (pump (smbusPut env l s.mgt.smbAddr s)))) ∧
      (∀ l env k, l.length = 8 → k < 8 → (s.mgt.smbAddr % 4 ≠ 0 ∨ (mgtFlags s).getLsbD 1 = false ∨
          smbusWritable (s.mgt.smbAddr + 4 * k) = false) →
        exec (.smbusWriteBurst l true env) s = .next (smbusAdvance 32 (mgtInvalid s.mgt.smbAddr 32 true s))) ∧
      (∀ b, exec (.smbusUnknownCommand b) s = .next (emit .nack s))) ∧
    (∀ low taken env, 1000 ≤ low → (10000 ≤ low ∨ taken = true) → s.pwr.lockout = false → onVin s = true →
      s.pwr.startRun = true → s.log.size ≠ 0 →
      exec (.modRstN low taken env) s = .next (start 3 s.pwr.state.code env (flushLog
        (s.fab.prov.foldl (fun u p => reverseProv p u) (finishBurn s)))))

/-- With the port powered, EXTEST, HIGHZ, CLAMP, EXTEST_PULSE and EXTEST_TRAIN select themselves outside RUN and
BYPASS in RUN; SAMPLE/PRELOAD, BYPASS, IDCODE and LCS_READ work always, and TRST_N selects IDCODE. (R491, R492,
R493, R391) -/
def Obligations.BoundaryScanCompletes : Prop :=
  ∀ (s : State), tapUp s = true →
    (s.pwr.state ≠ .run →
      exec .extest s = .next { s with ir := 0x00 } ∧ exec .highz s = .next { s with ir := 0x03 } ∧
      exec .clamp s = .next { s with ir := 0x04 } ∧ exec .extestPulse s = .next { s with ir := 0x05 } ∧
      exec .extestTrain s = .next { s with ir := 0x06 }) ∧
    (s.pwr.state = .run → ∀ i, (i = .extest ∨ i = .highz ∨ i = .clamp ∨ i = .extestPulse ∨ i = .extestTrain) →
      exec i s = .next (emit (.jtag 1 0) { s with ir := 0xFF })) ∧
    exec .samplePreload s = .next { s with ir := 0x01 } ∧
    exec .idcode s = .next (emit (.jtag 32 0x1726054B) { s with ir := 0x02 }) ∧
    exec .bypass s = .next (emit (.jtag 1 0) { s with ir := 0xFF }) ∧
    exec .tapReset s = .next { s with ir := 0x02 } ∧
    exec .lcsRead s = .next (emit (.jtag 32 (lcsWord s)) { s with ir := 0x20 })

/-- In RETURNED the challenge gives the fingerprint and a fresh nonce, elsewhere zeros; an authorisation that passes
every check opens its scope and another one is counted and logged, and both use the nonce up; DBG_STATUS tells
the scope; the debug master of MAKER and INTEGRATOR reads and writes the debug area alone, and what is written
is read back. (R389, R390, R391, R331, R339) -/
def Obligations.DebugCommandsComplete : Prop :=
  ∀ (s : State), tapUp s = true →
    (debugIr s = true →
      (∀ t, s.lcs.state = .returned → wardenCalls 1 { s with ir := 0x21 } = some t →
        exec .dbgChallenge s = .next (emit (.jtag 512 (leNat (fit 32 s.kvt.idFpr ++ freeBytes t.freeCtr 32)))
          { t with freeCtr := t.freeCtr + 1, lcs := { t.lcs with dbgNonce := some t.freeCtr } })) ∧
      (s.lcs.state ≠ .returned → exec .dbgChallenge s = .next (emit (.jtag 512 0) { s with ir := 0x21 })) ∧
      (∀ auth sig, authOk auth sig s = true →
        let t := openScope (BitVec.ofNat 2 (fld auth 6 1)) { s with ir := 0x22 }
        exec (.dbgAuth auth sig) s = .next { t with lcs := { t.lcs with dbgNonce := none } }) ∧
      (∀ auth sig, authOk auth sig s = false →
        let t := refuseAuth { s with ir := 0x22 }
        exec (.dbgAuth auth sig) s = .next { t with lcs := { t.lcs with dbgNonce := none } }) ∧
      exec .dbgStatus s = .next (emit (.jtag 8 (wordOf [(4, s.lcs.dbgStatus), (0, s.lcs.scope.toNat)])) { s with ir := 0x23 })) ∧
    (debugMaster s = true → ∀ addr len, debugFails addr len = none →
      (badWordIn addr len { s with ir := 0x30 } = none →
        exec (.dbgMem addr len none) s =
          .next (emit (.jtag (8 * len) (leNat (cellsRead s.mem.cells addr len))) { s with ir := 0x30 })) ∧
      (cellsWf s.mem.cells = true → ∀ b, ∃ t, exec (.dbgMem addr len (some b)) s = .next t ∧ cellsRead t.mem.cells addr len = fit len b ∧
        (∀ a, (a < addr ∨ addr + len ≤ a) → cellGet t.mem.cells a = cellGet s.mem.cells a) ∧
        t.mem.colours = s.mem.colours ∧ t.kvt = s.kvt ∧ t.lcs = s.lcs ∧ t.pending = s.pending ∧ t.ir = 0x30)) ∧
    (debugMaster s = true → ∀ addr len a, debugFails addr len = some a →
      exec (.dbgMem addr len none) s = .next (emit (.jtag (8 * len) 0) (debugDenied a { s with ir := 0x30 })) ∧
      ∀ b, exec (.dbgMem addr len (some b)) s = .next (debugDenied a { s with ir := 0x30 }))

/-- VIN_VALID starts the module from OFF, from RESERVE, or again from a start that lacked charge; a lockout within
the absolute maximum ratings loses VIN; the sequence ends in RESERVE; an exhausted reserve erases, kills the
seeds and switches OFF; the stored domains that reload, or the 3.0 s bound, end a start that waits; the
capacitor reaches its floor. (R433, R440, R441, R443, R445, R446, R362, R407) -/
def Obligations.SupplyEventsComplete : Prop :=
  ∀ (s : State),
    (∀ env, s.pwr.lockout = false → s.pwr.state = .off → exec (.vinValid env) s = .next (start 1 0 env s)) ∧
    (∀ env, s.pwr.lockout = false → s.pwr.state = .reserve → exec (.vinValid env) s = .next (start 2 1 env s)) ∧
    (∀ env, s.pwr.lockout = false → s.pwr.state = .starting → s.pwr.startRun = false → s.pwr.cause = 1 →
      exec (.vinValid env) s = .next (start 1 0 env s)) ∧
    (∀ d, s.fab.reserveLocal.contains d = true → wardenUp s = true → s.kvt.vs.isSome = true →
      let t := reloadDomain d s
      (waitsToEnd t = false ∨ t.fab.reserveLocal ≠ [] → exec (.domainReloadLocal d) s = .next t) ∧
      (waitsToEnd t = true → t.fab.reserveLocal = [] → exec (.domainReloadLocal d) s = .next (endStart t))) ∧
    (waitsToEnd s = true → exec .startEndTimeout s = .next (endStart s)) ∧
    (∀ mv cellMv temp, (mv < 8500 ∨ 62000 < mv) → mv ≤ 65000 → cellMv ≤ 4500 → temp ≤ 125 → s.pwr.state ≠ .off →
      s.pwr.state ≠ .reserve → s.pwr.lockout = false →
      exec (.vinLockout mv cellMv temp) s =
        .next (loseVin (decide (62000 < mv)) { s with pwr := { s.pwr with vinMv := mv, cellMv := cellMv } })) ∧
    (∀ mv cellMv temp, 8500 ≤ mv → mv ≤ 62000 → cellMv ≤ 4500 → temp ≤ 125 →
      exec (.vinLockout mv cellMv temp) s = .next s) ∧
    (s.pwr.lockout = true →
      let t := finishBurn s
      let u := logReserve 0xE01 [BitVec.ofNat 8 t.pwr.state.code, 1] t
      exec .reserveEntry s = .next { u with frac := 0, pwr := { u.pwr with
        state := .reserve, lockout := false, startRun := false } }) ∧
    (∀ mv, s.pwr.state = .reserve → mv < cutoffMv s →
      let t := killSeeds (exhaustReserve mv s)
      exec (.reserveExhaustion mv) s = .next { t with
        tmp := { t.tmp with killRunning := false, seedKilled := true }
        log := { t.log with rsv := [], rsvUsed := 0, rsvFull := false, rsvNext := 0, rsvDropped := 0 }
        wdn := { t.wdn with ckptValid := false }
        pwr := { t.pwr with state := .off, cellMv := mv, cap := 0, qest := if 1500 ≤ mv then t.pwr.sinceDone else t.pwr.qest } }) ∧
    (s.pwr.vinValid = true →
      exec .capFloorReached s = .next { s with pwr := { s.pwr with cap := max s.pwr.cap 1600 } })

/-- A supply above 65.0 V, a cell above 4.5 V or a junction above 125 degrees ends the model in its one fault, since
the module is specified no further there; every other command answers a next state from every state. (R433,
R483) -/
def Obligations.OnlyAnExcessRatingStops : Prop :=
  (∀ (s : State) (mv cellMv : Nat) (temp : Int), (65000 < mv ∨ 4500 < cellMv ∨ 125 < temp) →
      exec (.vinLockout mv cellMv temp) s = .fault .beyondAbsoluteMaximum) ∧
    (∀ (s : State) (i : Instr), (∀ mv cellMv temp, i = .vinLockout mv cellMv temp → mv ≤ 65000 ∧ cellMv ≤ 4500 ∧ temp ≤ 125) →
      ∃ t, exec i s = .next t)

/-- A temperature reading in range updates the cell temperature and the current, outside the charge window it leaves
charging, and a thermistor beyond its limits is a cell fault; readings of voltage and current move the phases;
ten calm minutes give a step back; time-outs and faults stop charging and a recheck clears what has gone; the
coulomb counter integrates within Q_est, and the daily term lowers Q_est. (R448, R449, R450, R451, R453, R454,
R455) -/
def Obligations.ChargerEventsComplete : Prop :=
  ∀ (s : State) (p : Profile), s.pwr.profile = some p → s.pwr.state ≠ .off →
    (∀ ohms temp c, ntcFault p ohms = some c → exec (.cellTempReading ohms temp) s = .next (recharge (setFault c s))) ∧
    (∀ ohms temp, ntcFault p ohms = none → s.pwr.phase = 2 → inWindow p temp = true → s.pwr.ccTemp + 80 < temp → s.pwr.steps < 3 →
      (s.pwr.steps = 0 ∨ s.pwr.stepAt + 120000000000 ≤ s.mtime) →
      exec (.cellTempReading ohms temp) s = .next { s with pwr := setCurrent { s.pwr with
        cellTemp := temp, steps := s.pwr.steps + 1, stepAt := s.mtime } }) ∧
    (∀ ohms temp, ntcFault p ohms = none → (s.pwr.phase = 1 ∨ s.pwr.phase = 2 ∨ s.pwr.phase = 3) → inWindow p temp = false →
      exec (.cellTempReading ohms temp) s = .next (recharge { s with pwr := { s.pwr with cellTemp := temp } })) ∧
    (s.pwr.phase = 2 → 0 < s.pwr.steps → s.pwr.cellTemp < s.pwr.ccTemp + 48 → s.pwr.stepAt + 600000000000 ≤ s.mtime →
      exec .chargeStepRestore s = .next { s with pwr := setCurrent { s.pwr with steps := s.pwr.steps - 1, stepAt := s.mtime } }) ∧
    (∀ mv ua, s.pwr.vinValid = true →
      let w := { s.pwr with cellMv := mv % 65536, cellUa := ua }
      exec (.chargerPhaseChange mv ua) s = .next { s with pwr := enterPhase s.mtime (phaseNext p w) w }) ∧
    (s.pwr.phase = 1 → exec .prechargeTimeout s = .next (recharge (setFault 4 s))) ∧
    ((s.pwr.phase = 2 ∨ s.pwr.phase = 3) → exec .chargeTimeout s = .next (recharge (setFault 5 s))) ∧
    (∀ c, 2 ≤ c → c ≤ 6 → exec (.cellFault c) s = .next (recharge (setFault c s))) ∧
    (exec (.cellFault 1) s = .next (recharge (setFault 1 { s with pwr := { s.pwr with absent := true } }))) ∧
    (∀ mv ohms, s.pwr.fault.toNat % 8 ≠ 0 → s.pwr.absent = false → mv < 65536 →
      exec (.cellFaultRecheck mv ohms) s = .next (recharge (clearFaults
        ((if 1500 ≤ mv then 1 else 0) + (if ntcFault p ohms = some 2 then 0 else 2) + (if ntcFault p ohms = some 3 then 0 else 4))
        { s with pwr := { s.pwr with cellMv := mv } }))) ∧
    (∀ mv, s.pwr.absent = true → 1500 ≤ mv → mv < 65536 →
      exec (.cellInserted mv) s = .next { s with pwr := freshGauge p { s.pwr with cellMv := mv } }) ∧
    (∀ ua, ∃ t, exec (.coulombCounterTick ua) s = .next t ∧ t.pwr.cellUa = ua ∧ t.pwr.remain ≤ s.pwr.qest ∧
      (s.pwr.cycleAcc + (-ua).toNat < s.pwr.qest / 10 → t.pwr.remain = min ((s.pwr.remain : Int) + ua).toNat s.pwr.qest ∧
        t.pwr.qest = s.pwr.qest ∧ t.pwr.cycleAcc = s.pwr.cycleAcc + (-ua).toNat)) ∧
    (∀ temp, exec (.qestDailyUpdate temp) s =
      .next (fade (arrhenius (p.rated * (if p.chemistry = 1 then 144 else 72)) temp) s))

/-- A confirmed alarm locks the module, erases where its response says so, and ends the running command; the seed
kill forgets every wrapped seed; a core failure hands over to a standby that passes its tests, or loses the
Warden; the failed core becomes the standby or is retired; the checkpoint makes the burns that waited for it.
(R395, R396, R397, R398, R414, R415, R416, R417, R418) -/
def Obligations.TamperAndWardenEventsComplete : Prop :=
  ∀ (s : State),
    (∀ n d, n < 11 → s.pwr.state ≠ .off → sourceDead n d s = false → ¬ (s.pwr.state = .reserve ∧ n = 9) →
      exec (.tamperAlarm n d) s = .next (pump (if !s.tmp.locked && (confirmAlarm n d s).tmp.locked then
        lockCommand (confirmAlarm n d s) else confirmAlarm n d s))) ∧
    (∀ n d, n < 11 → s.pwr.state ≠ .off → sourceDead n d s = false → ¬ (s.pwr.state = .reserve ∧ n = 9) →
      (confirmAlarm n d s).tmp.locked = true ∧ (confirmAlarm n d s).tmp.latched.getLsbD n = true ∧
      (responseErases n s = true → (confirmAlarm n d s).tmp.erased = true) ∧
      (s.tmp.locked = false → (confirmAlarm n d s).tmp.lockSeq = (s.tmp.lockSeq + 1) % 2 ^ 32)) ∧
    (s.tmp.killRunning = true → exec .seedKillDone s = .next { killSeeds s with
      tmp := { s.tmp with killRunning := false, seedKilled := true } }) ∧
    (∀ c, 1 ≤ c → c ≤ 5 → wardenUp s = true →
      (s.wdn.standby = true → exec (.wardenCoreFailure c true true) s = .next (pump (abortCommand (failOver c s)))) ∧
      (s.wdn.standby = false → ∀ ok ok2, exec (.wardenCoreFailure c ok ok2) s = .next (pump (loseWarden c s))) ∧
      (s.wdn.standby = true → ∀ ok, exec (.wardenCoreFailure c ok false) s = .next (pump (loseWarden 4 (replaceCore c s)))) ∧
      (s.wdn.standby = true → exec (.wardenCoreFailure c false true) s = .next (pump (loseWarden 5 (replaceCore c s))))) ∧
    (∀ b, s.wdn.failing = some b →
      exec (.failedCoreSelfTest true) s = .next { s with wdn := { s.wdn with failing := none, standby := true } } ∧
      exec (.failedCoreSelfTest false) s = .next (retireCore b { s with wdn := { s.wdn with failing := none } })) ∧
    (wardenUp s = true → exec .wardenCheckpoint s = .next (checkpoint (burnSpares (burnRetired s))))

/-- A link change and a PAUSE frame set an enabled port, an address resolution for its own address is answered and a
foreign frame counted; a PTP sample writes the offset, one beyond 1 us unlocks MTIME and forgets every delay,
and a lock sets the event, steps MTIME forward at the first one and closes the sessions outside their validity;
beacons go out on each port, and one of a new lower module starts a handshake. (R276, R277, R285, R288, R292) -/
def Obligations.PortAndTimeEventsComplete : Prop :=
  ∀ (s : State),
    (∀ p up, p < 2 → portMode s p ≠ 0 → wardenRuns s = true →
      exec (.portLinkChange p up) s = .next (setPort p { (portOf s p) with
        link := up, pcs := up, paused := up && (portOf s p).paused } s)) ∧
    (∀ p, p < 2 → portUp s p = true →
      (∀ on, exec (.pauseFrame p on) s = .next (setPort p { (portOf s p) with paused := on } s)) ∧
      exec (.addressResolution p true) s = .next (emit (.address p) s) ∧
      exec (.addressResolution p false) s = .next s ∧
      exec (.foreignFrame p) s = .next (countDrop s)) ∧
    (wardenRuns s = true → standalone s = false →
      (∀ off, (s.fab.ptpLocked = false ∨ off.natAbs ≤ 1000) →
        exec (.ptpMessage off) s = .next { s with fab := { s.fab with
          ptpOffset := max (-2147483648) (min 2147483647 off) } }) ∧
      (∀ off, s.fab.ptpLocked = true → 1000 < off.natAbs → ∃ t, exec (.ptpMessage off) s = .next t ∧
        t.fab.ptpLocked = false ∧ t.fab.lockedAt = none ∧
        (∀ e ∈ t.lku.peers, e.2.delay0 = 0xFFFFFFFF ∧ e.2.delay1 = 0xFFFFFFFF) ∧ t.mtime = s.mtime ∧ t.rqs = s.rqs ∧ t.kvt = s.kvt) ∧
      (∀ off, s.fab.ptpLocked = false → s.fab.ptpStepped = true →
        exec (.ptpLock off) s = .next (fabEvent 6 { s with fab := { s.fab with
          ptpLocked := true, lockedAt := some s.mtime, ptpOffset := max (-2147483648) (min 2147483647 off), ptpStepped := true } })) ∧
      (∀ off, s.fab.ptpLocked = false → s.fab.ptpStepped = false →
        let m := (s.mtime + (-off).toNat) % 2 ^ 64
        let t := fabEvent 6 { s with mtime := m, fab := { s.fab with
          ptpLocked := true, lockedAt := some m, ptpOffset := max (-2147483648) (min 2147483647 off), ptpStepped := true } }
        exec (.ptpLock off) s = .next ((t.fab.sessions.filter fun e => outsideValidity t e.2.notBefore e.2.notAfter).foldl
          (fun u e => rejectHandshake 5 e.2.fpr (closeSession e.1 (some 5) u)) t))) ∧
    (fabricUp s = true →
      exec .beaconPeriod s = .next (([0, 1].filter (portUp s)).foldl (fun t _ => emit (.clear 0 0) t) s)) ∧
    (∀ fpr n fl, fabricUp s = true → s.fab.sessions.any (fun e => !e.2.tenant && e.2.fpr == fpr) = false →
      s.fab.hs.any (fun x => x.fpr == fpr) = false → beNat s.kvt.idFpr < beNat fpr →
      exec (.beacon (clusterId s) fpr n fl) s = .next (startHello fpr s))

/-- A frame without a session, with a bad tag or a repeated SEQUENCE is dropped and counted; an ACK-only burgee is
noted; a fresh REQUEST lands as a request of its peer or tenant and joins the live requests; a RESPONSE ends the
forwarded request that it answers, and without one it is acknowledged and discarded; incomplete segments are
forgotten. (R279, R280, R90, R92, R293, R287) -/
def Obligations.MessagesOfASessionComplete : Prop :=
  ∀ (s : State) (h : FrameHead),
    (fabricUp s = true → (session? s h.session = none ∨ ∃ x, session? s h.session = some x ∧ (h.tagOk = false ∨ replayed x h.sequence = true)) →
      (∀ d i, exec (.requestMessage h d i) s = .next (authDrop s)) ∧ (∀ b, exec (.responseMessage h b) s = .next (authDrop s)) ∧
      exec (.ackOnlyBurgee h) s = .next (authDrop s) ∧ (∀ n, exec (.sessionClose h n) s = .next (authDrop s))) ∧
    (∀ x, fabricUp s = true → session? s h.session = some x → h.tagOk = true → replayed x h.sequence = false →
      exec (.ackOnlyBurgee h) s = .next (ackUpTo h.session h.ack (updSession h.session (noteSeq h.sequence) s)) ∧
      (∀ n, exec (.sessionClose h n) s = .next
        (closeSession h.session none (ackUpTo h.session h.ack (updSession h.session (noteSeq h.sequence) s))))) ∧
    (∀ x t d i, recvMsg h s = .inr (x, t) →
      let sl := if x.tenant then x.slice else d.slice.toNat
      let r : Req := {
        rid := t.rqs.nextRid, desc := { d with slice := BitVec.ofNat 8 sl }, slice := sl, heldAt := t.mtime, phase := .reading
        origin := if x.tenant then .tenant h.session h.message else .peer h.session h.message
        input := fit d.inLen.toNat i }
      exec (.requestMessage h d i) s =
        .next (landReq r.rid (fit d.inLen.toNat i) (addReq r (if x.tenant then t else noteDelay h x t)))) ∧
    (∀ x t b r, recvMsg h s = .inr (x, t) → x.tenant = false →
      t.rqs.live.find? (fun r => r.phase == .forwarded && r.fwdTag == b.tag.toNat && some r.owner == x.node) = some r →
      exec (.responseMessage h b) s = .next (wakeForward (finish r.rid
        { status := b.status.toNat, detail := b.detail.toNat, output := b.output, forwarded := true, node := r.owner
          skipped := b.skipped }
        (updReq r.rid (fun y => { y with retried := if b.retried ∧ b.status.toNat ≠ stOk then some (0, 0) else none }) t)))) ∧
    (∀ x t b, recvMsg h s = .inr (x, t) → x.tenant = false →
      t.rqs.live.find? (fun r => r.phase == .forwarded && r.fwdTag == b.tag.toNat && some r.owner == x.node) = none →
      exec (.responseMessage h b) s = .next t) ∧
    (∀ i m, exec (.reassemblyTimeout i m) s =
      .next (updSession i (fun x => { x with partials := x.partials.filter (· != m) }) s))

/-- A HELLO that passes every check is answered with ACCEPT, one that fails is rejected, logged and counted; a good
ACCEPT opens the session with FINISH, a good FINISH opens it and sends a burgee; unacknowledged messages go out
again after their time, and after 1 s close the session; an ACK is sent after its delay; handshakes without an
answer in 100 ms start anew or end; a session is rekeyed after 24 h. (R280, R282, R283, R284, R285, R286) -/
def Obligations.SessionEventsComplete : Prop :=
  ∀ (s : State),
    (∀ h t, fabricUp s = true → s.fab.hs.any (fun x => !x.initiator && x.hid == h.hid) = false →
      s.fab.hs.find? (fun x => x.initiator && x.fpr == h.cert.fpr) = none → s.fab.hs.length < 64 →
      (∀ r, handshakeFault h h.cert (h.certSig.mldsa && h.certSig.ecdsa) false s = some r → r ≠ 8 →
        exec (.sessionHello h) s = .next (rejectHandshake r h.cert.fpr s)) ∧
      (handshakeFault h h.cert (h.certSig.mldsa && h.certSig.ecdsa) false s = none → wardenCalls 1 s = some t →
        exec (.sessionHello h) s = .next (emit (.clear 2 h.hid) { t with fab := { t.fab with
          hs := t.fab.hs ++ [{ hid := h.hid, fpr := h.cert.fpr, index := t.fab.nextIndex, peer := sessionOf h h.cert, time := t.mtime }]
          nextIndex := t.fab.nextIndex + 1 } }))) ∧
    (∀ h x, fabricUp s = true → s.fab.hs.find? (fun x => x.initiator && x.hid == h.hid) = some x →
      handshakeFault h h.cert (h.certSig.mldsa && h.certSig.ecdsa) true (dropHs h.hid s) = none →
      exec (.sessionAccept h) s = .next (openSession x.index { (sessionOf h h.cert) with confirmed := false }
        (emit (.clear 3 h.hid) (dropHs h.hid s)))) ∧
    (∀ h x, fabricUp s = true → s.fab.hs.find? (fun x => !x.initiator && x.hid == h.hid) = some x →
      handshakeFault h { h.cert with
          formatOk := true, role := if x.peer.tenant then 2 else 1, cluster := clusterId s, node := x.peer.node.getD 0xFFFF
          slice := x.peer.slice, notBefore := x.peer.notBefore, notAfter := x.peer.notAfter
          ownerFpr := s.kvt.ownerFpr.getD [], fpr := x.peer.fpr } s.kvt.ownerFpr.isSome true (dropHs h.hid s) = none →
      exec (.sessionFinish h) s = .next (if x.peer.tenant then openSession x.index x.peer (dropHs h.hid s)
        else sendBurgee x.index (openSession x.index x.peer (dropHs h.hid s)))) ∧
    (∀ i id x m, fabricUp s = true → session? s i = some x → x.unacked.find? (fun m => m.id == id) = some m →
      m.txAt + (if m.ensign then 50000 else 1000000) ≤ s.mtime →
      exec (.retransmitTimer i id) s = .next (emit (.message i m.typ id []) { s with fab := { s.fab with
        sessions := tset s.fab.sessions i { x with
          txSeq := x.txSeq + frames m.bytes
          unacked := x.unacked.map fun q => if q.id = id then { q with txAt := s.mtime } else q }
        retx := satAdd 32 s.fab.retx 1 } })) ∧
    (∀ i x, session? s i = some x →
      (x.unacked.any (fun m => m.sentAt + 1000000000 ≤ s.mtime) = true →
        exec (.staleSession i) s = .next (dropSession i s)) ∧
      (fabricUp s = true → x.ackDue = true →
        exec (.ackDelayExpiry i) s = .next (updSession i (fun y => { y with ackDue := false, txSeq := y.txSeq + 1 })
          (emit (.message i 3 0 [if x.tenant then 0xFFFF else announced s, 8, x.rxAcked]) s))) ∧
      (x.confirmed = false → x.openedAt + 100000000 ≤ s.mtime →
        exec (.sessionConfirmTimeout i) s = .next (startHello x.fpr (dropSession i s))) ∧
      (x.tenant = false → x.openedAt + 86400000000000 ≤ s.mtime → exec (.sessionRekey i) s = .next (startHello x.fpr s))) ∧
    (∀ hid x, s.fab.hs.find? (fun x => x.initiator && x.hid == hid) = some x → x.time + 100000000 ≤ s.mtime →
      exec (.helloResend hid) s = .next (startHello x.fpr (dropHs hid s))) ∧
    (∀ hid x, s.fab.hs.find? (fun x => !x.initiator && x.hid == hid) = some x → x.time + 100000000 ≤ s.mtime →
      exec (.finishTimeout hid) s = .next (dropHs hid s))

/-- A fresh CLAIM of an owner is learned and its standby written; a snapshot of a domain that this module stands by
for is stored, acknowledged where it is a delta or an end, or rejected for want of room, and installed one at a
time; RESYNC messages bring a full snapshot, commit what was stored, report a full standby, or hand the domain
over. (R260, R297, R298, R299, R301, R302, R218) -/
def Obligations.DomainMessagesComplete : Prop :=
  ∀ (s : State) (h : FrameHead) (x : Session) (t : State) (n : Nat), recvMsg h s = .inr (x, t) → x.tenant = false → x.node = some n →
    (∀ d reason p k sequence, (domainOf t d).pennant < p →
      let v := writeStandby d k (learnPeer d n p n t)
      (some k ≠ v.fab.nodeId →
        exec (.claimMessage h d reason p n k sequence) s = .next (pump { v with fab := { v.fab with sby := terase v.fab.sby d } })) ∧
      (some k = v.fab.nodeId → (tgetD v.fab.sby d {}).haveSet = false →
        exec (.claimMessage h d reason p n k sequence) s = .next (pump (startResync d v)))) ∧
    (∀ d kind p sequence l, (domainOf t d).state = 2 → (domainOf t d).owner = n → (domainOf t d).sby = true →
      t.fab.nodeId = some (domainOf t d).standby → (domainOf t d).pennant ≤ p → (kind = 1 ∨ kind = 3 ∨ kind = 4) →
      (tgetD t.fab.sby d {}).haveSet = true →
      let b := tgetD t.fab.sby d {}
      let items := l.filter fun i : SnapItem => !(i.handle == 0 && i.slice == 0)
      (snapshotFits t l = false → exec (.snapshotMessage h d kind p sequence (some l)) s = .next (sendResync h.session d 3 sequence t)) ∧
      (snapshotFits t l = true →
        (kind = 3 → exec (.snapshotMessage h d kind p sequence (some l)) s = .next { t with fab := { t.fab with
          sby := tset t.fab.sby d { b with haveSet := true, pending := b.pending ++ [(sequence, items)] } } }) ∧
        ((kind = 1 ∨ kind = 4) → exec (.snapshotMessage h d kind p sequence (some l)) s = .next (sendResync h.session d 2 sequence
          { t with fab := { t.fab with
            sby := tset t.fab.sby d { b with haveSet := true, pending := b.pending ++ [(sequence, items)], stored := sequence } } })))) ∧
    (∀ d, fabricUp s = true → (domainOf s d).state = 2 → exec (.snapshotInstall d) s = .next (installStored d 1 s)) ∧
    (∀ d p, (domainOf t d).state = 1 → (domainOf t d).sby = true → (domainOf t d).standby = n →
      exec (.resyncRequest h d p) s = .next (sendFull d t) ∧
      (∀ q, let o := tgetD t.fab.own d {}
        let hit := fun (l : Nat × Nat × Nat × Nat) => l.1 != 0 && l.1 ≤ q
        let u : State := { t with fab := { t.fab with own := tset t.fab.own d { o with
          stored := max o.stored q, rejected := false, limits := o.limits.filter fun l => !hit l } } }
        exec (.resyncStored h d p q) s = .next (askClaim d ((o.limits.filter hit).foldl
          (fun w l => storeLimit l.2.1 l.2.2.1 l.2.2.2 (useLimit l.2.1 l.2.2.1 l.2.2.2 w)) u))) ∧
      (let v := fabEvent 7 (logEvent 0x505 (leBytes 2 d ++ leBytes 2 n)
          { t with fab := { t.fab with own := tupd t.fab.own d {} fun o => { o with rejected := true } } })
       exec (.resyncReject h d p) s = .next (pump (if (tgetD v.fab.own d {}).handover then abandonHandover d v else v)))) ∧
    (∀ d p, (domainOf t d).state = 2 → (domainOf t d).owner = n → mayTake t d = true →
      exec (.resyncHandover h d p) s = .next (takeDomain d 3 n t))

/-- A burgee of a peer updates its entry and is learned from; each period sends a burgee on every peer session and a
delta for each own domain; a missed period counts, and the third loses the peer; a path without a burgee for 30
ms is unmarked; a node ID is taken from flash or tried, and confirmed after 30 ms. (R289, R290, R291, R292,
R260, R287) -/
def Obligations.LivenessEventsComplete : Prop :=
  ∀ (s : State),
    (∀ h b x t, recvFrame h s = .inr (x, t) → x.tenant = false → b.flags.getLsbD 3 = false → b.flags.getLsbD 4 = false →
      b.node ≠ 0xFFFE → some b.node ≠ t.fab.nodeId →
      exec (.sessionBurgee h b) s = .next (pump (peerBurgee h b x b.node (contestNode b x.fpr t)))) ∧
    (∀ h b x t, recvFrame h s = .inr (x, t) → x.tenant = true → b.flags.getLsbD 3 = false →
      exec (.sessionBurgee h b) s = .next (pump (closeSession h.session (some 1) t))) ∧
    (fabricUp s = true →
      let t := (peerSessions s).foldl (fun u i => sendBurgee i u) s
      let u := (t.fab.own.map (·.1)).foldl (fun v d => askClaim d (sendDelta d v)) t
      exec .burgeePeriod s = .next { u with fab := { u.fab with burgees := u.fab.burgees + 1 } }) ∧
    (∀ n, (peerOf s n).state = 1 → wardenRuns s = true → (peerOf s n).last + 10000000 * ((peerOf s n).missed + 1) ≤ s.mtime →
      ((peerOf s n).missed < 2 →
        exec (.burgeeMissed n) s = .next (pump (updPeer n (fun x => { x with missed := x.missed + 1 }) s))) ∧
      (2 ≤ (peerOf s n).missed → exec (.burgeeMissed n) s = .next (pump (losePeer n s)))) ∧
    (∀ n, (peerOf s n).path0 = true → (peerOf s n).last0 + 30000000 ≤ s.mtime →
      exec (.pathUnmark n 0) s = .next (updPeer n (fun x => { x with path0 := false }) s)) ∧
    (∀ n, (peerOf s n).path1 = true → (peerOf s n).last1 + 30000000 ≤ s.mtime →
      exec (.pathUnmark n 1) s = .next (updPeer n (fun x => { x with path1 := false }) s)) ∧
    (fabricUp s = true → s.fab.nodeId = none → s.fab.tentative = none →
      s.fab.sessions.any (fun e => !e.2.tenant && e.2.openedAt + 100000000 ≤ s.mtime) = true →
      (∀ n, s.fab.nodeFlash = some n → (peerOf s n).state ≠ 1 →
        exec .nodeIdAssign s = .next { s with fab := { s.fab with nodeId := some n, nodeSource := 3 } }) ∧
      (s.fab.nodeFlash = none →
        exec .nodeIdAssign s = .next { s with fab := { s.fab with tentative := some (lowestNode s), tentativeAt := s.mtime } })) ∧
    (∀ n, s.fab.tentative = some n → fabricUp s = true → s.fab.tentativeAt + 30000000 ≤ s.mtime →
      exec .nodeIdConfirm s = .next { s with fab := { s.fab with
        nodeId := some n, nodeSource := 3, nodeFlash := some n, tentative := none } })

/-- A step with command c at the front of the queue is exec of c on the state with the queue's rest. The queue is
the model's own (log entry 1). (R4, R459) -/
def Obligations.StepRunsTheFrontCommand : Prop :=
  ∀ (s : State) (c : Instr) (rest : List Instr),
    step { s with pending := c :: rest } = exec c { s with pending := rest } ∧
    (s.pending = c :: rest → step s = exec c { s with pending := rest })

/-- On an empty queue a step keeps everything but MTIME and its fraction: MTIME gains one nanosecond, in RESERVE
what the always-on counter gains, and nothing in OFF. That an empty queue is a tick is the model's choice (log
entry 2). (R447) -/
def Obligations.EmptyQueueLetsTimePass : Prop :=
  ∀ (s : State), s.pending = [] → step s = .next (idle s) ∧
    idle s = { s with mtime := (idle s).mtime, frac := (idle s).frac } ∧
    (s.pwr.state = .off → idle s = s) ∧
    (s.pwr.state ≠ .off → s.pwr.state ≠ .reserve → idle s = { s with mtime := (s.mtime + 1) % 2 ^ 64 }) ∧
    (s.pwr.state = .reserve → s.frac < 128 → (idle s).frac < 128 ∧
      (s.mtime + (s.frac + 3906250) / 128 < 2 ^ 64 →
        128 * (idle s).mtime + (idle s).frac = 128 * s.mtime + s.frac + 3906250))

/-- At reset no command waits, MTIME is 0, the power state is STARTING with no step of a start run, the link is
down, no image is loaded, no request, queue, session or key exists, MGT_ registers are at their reset values,
the SMBus port is at 0x5A, the TAP selects IDCODE and both memories are canonical. The values that the spec does
not give are the model's choice (log entry 3). (R440, R458, R469, R472, R493, R311, R350, R413) -/
def Obligations.ResetState : Prop :=
  let s := State.reset
  s.pending = [] ∧ s.mtime = 0 ∧ s.pwr.state = .starting ∧ s.pwr.startRun = false ∧ s.pcie.link = false ∧
    s.pcie.busMaster = false ∧ s.pcie.pasidEnable = false ∧ s.img.cfg = none ∧ s.rqs.live = [] ∧ s.rqs.queues = [] ∧
    s.fab.sessions = [] ∧ s.kvt.records = [] ∧ s.kvt.vs = none ∧ s.lku.em = [] ∧ s.mgt.desc = {} ∧ s.mgt.cmd = 0 ∧
    s.mgt.status = 0 ∧ s.mgt.irq = 0 ∧ s.mgt.irqEnable = 0 ∧ s.mgt.held = [] ∧ s.mgt.running = none ∧ s.mgt.smbPort = 0x5A ∧
    s.ir = 0x02 ∧ s.lcs.scope = 0 ∧ s.wdn.pennant = 1 ∧ s.log.staging = [] ∧ s.cust.approvals = [] ∧ Inv s

/-- From every state whose internal space and management buffer are listed in rising address order without zero
bytes, every step that answers a next state gives such a state again. (R327, R337, R469, R313) -/
def Obligations.StepKeepsMemoryCanonical : Prop :=
  ∀ (s t : State), Inv s → Steps s t → Inv t

/-- However many steps are taken from whatever state, every fuse that was blown is still blown: in particular no
life-cycle copy, intent record, rollback level, unit retirement, spare column or tamper disable is ever undone.
(R392, R382, R54, R196, R333, R405) -/
def Obligations.FusesNeverReturnToZero : Prop :=
  ∀ (s t : State), Reaches s t → FusesKept s.lcs.fuse t.lcs.fuse

/-- Whatever command runs, the commands that wait behind it stay waiting in their order. The queue is the model's
own (log entry 1). (R459, R421) -/
def Obligations.CommandsLeaveTheQueue : Prop :=
  ∀ (s t : State) (i : Instr), exec i s = .next t → t.pending = s.pending

/-- A command of the catalogue, however it ends, leaves MTIME, the image and its slots, life cycle and fuses, tamper
state, Warden, supply and charger, the JTAG instruction, the management buffer and the launches in the mailbox
as they were, and every byte of the internal space as it was or released to zero. (R72, R95, R337) -/
def Obligations.FrameOfRequestCommands : Prop :=
  ∀ (s t : State) (i : Instr) (rid : Nat), executes i = some rid → exec i s = .next t →
    t.mtime = s.mtime ∧ t.frac = s.frac ∧ t.img = s.img ∧ t.lcs = s.lcs ∧ t.tmp = s.tmp ∧ t.wdn = s.wdn ∧ t.pwr = s.pwr ∧ t.ir = s.ir ∧
    t.mgt.buf = s.mgt.buf ∧ t.mgt.held = s.mgt.held ∧ t.mgt.running = s.mgt.running ∧ t.mgt.desc = s.mgt.desc ∧
    (s.mem.wf = true → ∀ a, cellGet t.mem.cells a = cellGet s.mem.cells a ∨ cellGet t.mem.cells a = 0)

/-- A command of the lookup unit leaves requests, slices, admission, engines, entropy, memory, the key vault, the
fabric, life cycle, tamper state, Warden, supply, image, custody, MTIME, the JTAG instruction and the management
buffer as they were. (R253, R269, R272) -/
def Obligations.FrameOfLookupCommands : Prop :=
  ∀ (s t : State) (i : Instr),
    (∃ x irq, i = .lkuTrieInsert x irq ∨ i = .lkuTrieDelete x irq ∨ i = .lkuTrieReplace x irq ∨ i = .lkuTrieRead x irq ∨
      i = .lkuTrieSearch x irq ∨ i = .lkuEmInsert x irq ∨ i = .lkuEmDelete x irq ∨ i = .lkuEmReplace x irq ∨ i = .lkuEmRead x irq ∨
      i = .lkuDomainRead x irq ∨ i = .lkuPeerRead x irq ∨ i = .lkuStashRead x irq) →
    exec i s = .next t →
    t.mtime = s.mtime ∧ t.img = s.img ∧ t.rqs = s.rqs ∧ t.slices = s.slices ∧ t.adm = s.adm ∧ t.eng = s.eng ∧ t.ent = s.ent ∧
    t.mem = s.mem ∧ t.kvt = s.kvt ∧ t.fab = s.fab ∧ t.lcs = s.lcs ∧ t.tmp = s.tmp ∧ t.wdn = s.wdn ∧ t.pwr = s.pwr ∧ t.cust = s.cust ∧
    t.ir = s.ir ∧ t.mgt.buf = s.mgt.buf ∧ t.pending = s.pending

/-- The events of cell, charger and gauge leave requests, slices, admission, engines, entropy, lookup, memory, keys,
fabric, life cycle, tamper state, Warden, image, custody, MTIME and the JTAG instruction as they were, and
within the supply the power state, the supply voltage, the capacitor, the profile and the start cause. (R449,
R453, R455) -/
def Obligations.FrameOfChargerEvents : Prop :=
  ∀ (s t : State) (i : Instr),
    ((∃ ohms temp, i = .cellTempReading ohms temp) ∨ i = .chargeStepRestore ∨ (∃ mv ua, i = .chargerPhaseChange mv ua) ∨
      i = .prechargeTimeout ∨ i = .chargeTimeout ∨ (∃ c, i = .cellFault c) ∨ (∃ mv ohms, i = .cellFaultRecheck mv ohms) ∨
      (∃ mv, i = .cellInserted mv) ∨ (∃ ua, i = .coulombCounterTick ua) ∨ (∃ temp, i = .qestDailyUpdate temp)) →
    exec i s = .next t →
    t.mtime = s.mtime ∧ t.img = s.img ∧ t.rqs = s.rqs ∧ t.slices = s.slices ∧ t.adm = s.adm ∧ t.eng = s.eng ∧ t.ent = s.ent ∧
    t.lku = s.lku ∧ t.mem = s.mem ∧ t.kvt = s.kvt ∧ t.fab = s.fab ∧ t.lcs = s.lcs ∧ t.tmp = s.tmp ∧ t.wdn = s.wdn ∧ t.cust = s.cust ∧
    t.ir = s.ir ∧ t.mgt.buf = s.mgt.buf ∧ t.pwr.state = s.pwr.state ∧ t.pwr.vinMv = s.pwr.vinMv ∧ t.pwr.cap = s.pwr.cap ∧
    t.pwr.profile = s.pwr.profile ∧ t.pwr.cause = s.pwr.cause ∧ t.pwr.vinValid = s.pwr.vinValid

/-- The events of the entropy source and the DRBGs leave requests, slices, admission, engines, lookup, memory, keys,
fabric, life cycle, tamper state, Warden, image, supply, custody, MTIME, the JTAG instruction and the management
buffer as they were. (R237, R240, R245) -/
def Obligations.FrameOfEntropyEvents : Prop :=
  ∀ (s t : State) (i : Instr),
    ((∃ c w, i = .healthWindowEnd c w) ∨ (∃ c n, i = .balancingPeriodEnd c n) ∨ i = .seedBlockClose ∨ i = .entCheckpoint ∨
      (∃ n, i = .reseedDue n) ∨ (∃ n, i = .drbgReseed n) ∨ i = .drbgWardenReinstantiate) →
    exec i s = .next t →
    t.mtime = s.mtime ∧ t.img = s.img ∧ t.rqs = s.rqs ∧ t.slices = s.slices ∧ t.adm = s.adm ∧ t.eng = s.eng ∧ t.lku = s.lku ∧
    t.mem = s.mem ∧ t.kvt = s.kvt ∧ t.fab = s.fab ∧ t.lcs = s.lcs ∧ t.tmp = s.tmp ∧ t.wdn = s.wdn ∧ t.pwr = s.pwr ∧ t.cust = s.cust ∧
    t.ir = s.ir ∧ t.mgt.buf = s.mgt.buf ∧ t.pending = s.pending

/-- A finished request of an existing queue writes its output, where its status is OK or OK_RETRIED, then its record
at the tail of the completion queue with the queue's phase, advances the tail, inverting the phase at the wrap,
gives the reserved entry back and leaves the live requests; while DMA is not possible nothing is written. (R72,
R73, R78, R80, R94) -/
def Obligations.HostCompletionIsWrittenInOrder : Prop :=
  ∀ (s : State) (r : Req) (n : Nat) (x : Result) (q : Queue), findReq s r.rid = some r → r.origin = .host n → r.result = some x →
    queue? s r.slice n = some q →
    (queueDma s = false → tryWrite r.rid s = s) ∧
    (queueDma s = true → ∃ t c, tryWrite r.rid s = t ∧ findReq t r.rid = none ∧
      c.tag = r.desc.tag.toNat ∧ c.status = x.status ∧ c.phase = q.phase ∧ c.detail = x.detail ∧ c.outLen = x.written.length ∧
      c.sqId = n ∧ c.sqHead = q.head ∧ c.timestamp = s.mtime % 2 ^ 40 ∧
      (x.written = [] → r.desc.noIrq = true → t.out = .completion r.slice n q.cqTail c :: s.out) ∧
      (x.written ≠ [] → r.desc.noIrq = true → t.out = .completion r.slice n q.cqTail c ::
        .write (some q.pasid) r.desc.outAddr.toNat x.written :: s.out) ∧
      queue? t r.slice n = some { q with
        cqTail := if q.cqTail + 1 = q.depth then 0 else q.cqTail + 1
        phase := if q.cqTail + 1 = q.depth then !q.phase else q.phase, reserved := q.reserved - 1 })

/-- With Bus Master Enable clear, in D3hot or without a link, no descriptor is fetched, a finished request of a host
queue waits without a completion, and an MSI-X message is held in the PBA. (R465, R94, R70) -/
def Obligations.NoDmaNoFetch : Prop :=
  ∀ (s : State), (s.pcie.busMaster = false ∨ s.pcie.d3hot = true ∨ s.pcie.link = false ∨ s.pcie.credits = false) →
    exec .descriptorFetch s = .next s ∧
    (∀ r n x, findReq s r.rid = some r → r.origin = .host n → r.result = some x → tryWrite r.rid s = s) ∧
    (∀ v, (sendMsix v s).out = s.out ∧ (sendMsix v s).pcie.pba.contains v = true)

/-- Wherever the port is powered, IDCODE reads 0x1726_054B, which is version 1, part 0x7260, manufacturer field
0x2A5 and bit 0 set, in every module and state alike. (R492) -/
def Obligations.IdcodeReads : Prop :=
  ∀ (s : State), tapUp s = true →
    exec .idcode s = .next { s with ir := 0x02, out := .jtag 32 0x1726054B :: s.out } ∧
    0x1726054B / 2 ^ 28 = 1 ∧ 0x1726054B / 2 ^ 12 % 2 ^ 16 = 0x7260 ∧ 0x1726054B / 2 % 2 ^ 11 = 0x2A5 ∧ 0x1726054B % 2 = 1

/-- PIN_VERIFY_COMPARE decodes the PIN block under KEY_A and the reference block under KEY_B; equal numbers of
digits and equal digits give OK, and a mismatch or a decode failure on either side gives VERIFY_FAILED. (R126) -/
def Obligations.PinVerifyCompareVerdict : Prop :=
  ∀ (s u : State) (rid : Nat) (r : Req) (k : Keys), AtCommand 0x0104 (prePin "P0" "DB" true) s rid r k u → Confirmed k →
    let block := pinDecode (finOf r) (matOf k.a) r.desc.panList (r.input.take (pinLen (finOf r)))
    let reference := pinDecode (foutOf r) (matOf k.b) r.desc.panList (bytesAt r.input (pinLen (finOf r)) (pinLen (foutOf r)))
    (∀ p q, block = some p → reference = some q → p.length = q.length → p = q →
      Answers (.pinVerifyCompare rid none) s r k u { status := stOk }) ∧
    (∀ p q, block = some p → reference = some q → p ≠ q →
      Answers (.pinVerifyCompare rid none) s r k u { status := stVerify }) ∧
    ((block = none ∨ reference = none) → Answers (.pinVerifyCompare rid none) s r k u { status := stVerify })

/-- An event whose type and payload equal those of the last record written makes no new record: the record's count
grows by one, holds at 65,535, and its last-occurrence time is rewritten either way; after any other record in
between the event makes a new record. (R423) -/
def Obligations.RepeatedEventsShareOneRecord : Prop :=
  ∀ (core : Bool) (e : LogEvent) (r : LogRec) (rest : List LogRec) (l : Log) (now : Nat), l.full = false → l.main = r :: rest →
    r.replayed = false →
    (r.typ = e.typ → r.payload = padWords e.payload →
      logWrite core false e 1 now l = { l with main := { r with count := min 65535 (r.count + 1), last := now } :: rest } ∧
      (r.count = 65535 → (logWrite core false e 1 now l).main = { r with last := now } :: rest)) ∧
    ((r.typ ≠ e.typ ∨ r.payload ≠ padWords e.payload) → l.used + recBytes e.payload + 64 ≤ l.size →
      ∃ x, (logWrite core false e 1 now l).main = x :: r :: rest ∧ x.typ = e.typ ∧ x.payload = padWords e.payload ∧
        x.seqNo = l.next ∧ x.count = 1 ∧ x.last = now)

/-- The check value is the leftmost 3 bytes of the TDEA encryption of zeros, the leftmost 5 bytes of AES-CMAC of 16
zero bytes, or the leftmost 5 bytes of HMAC of 16 zero bytes under the key's hash, and KEY_INFO answers with the
16 attribute bytes and that check value, so that OUT_LEN is 16 more than its length. (R141) -/
def Obligations.CheckValuesOfKeys : Prop :=
  (∀ x : KeyRec, x.alg = chr "T" → x.kcv = (tdeaEnc x.material (List.replicate 8 0)).take 3) ∧
    (∀ x : KeyRec, x.alg = chr "A" → x.kcv = (cmac { aes := true, key := x.material } (List.replicate 16 0)).take 5) ∧
    (∀ x : KeyRec, x.alg = chr "H" → x.kcv = (hmac x.hash x.material (List.replicate 16 0)).take 5) ∧
    (∀ (s u : State) (rid : Nat) (r : Req) (k : Keys) (x : KeyRec), AtCommand 0x0805 noPre s rid r k u → k.a = some x →
      x.symmetric = true →
      Answers (.keyInfo rid none) s r k u { output := fit 16 x.attrs ++ x.kcv } ∧ (fit 16 x.attrs ++ x.kcv).length = 16 + x.kcv.length)

/-- A start ends in RUN exactly when an image is loaded, the vault seed is unsealed, the module is not locked, the
life-cycle state is INTEGRATOR or FIELDED and the source has passed its start-up tests; otherwise it ends in
READY with a bit of RUN_HOLD for each failing condition. (R442, R436) -/
def Obligations.StartEndsInRunOrReady : Prop :=
  ∀ (s : State), waitsToEnd s = true → ∃ t, exec .startEndTimeout s = .next t ∧
    (t.pwr.state = .run ↔ s.img.cfg.isSome = true ∧ s.kvt.vs.isSome = true ∧ s.tmp.locked = false ∧
      (s.lcs.state = .integrator ∨ s.lcs.state = .fielded) ∧ s.ent.startupDone = true) ∧
    (t.pwr.state ≠ .run → t.pwr.state = .ready) ∧
    (t.pwr.runHold.getLsbD 4 = !s.img.cfg.isSome) ∧ (t.pwr.runHold.getLsbD 3 = !s.kvt.vs.isSome) ∧
    (t.pwr.runHold.getLsbD 2 = s.tmp.locked) ∧
    (t.pwr.runHold.getLsbD 1 = !(s.lcs.state == .integrator || s.lcs.state == .fielded)) ∧
    (t.pwr.runHold.getLsbD 0 = !s.ent.startupDone)
end

