-- ==== Sys2Proof/Laws/Memory.lean ====
section
/-! SUPPORT. The addressed memories: every operation keeps the canonical form, and a read after a write. -/

namespace Sys2Proof.Machine

/-- The canonical form in two parts: addresses rise, and no entry is 0. -/
theorem cellsWf_iff : ∀ l : List Host.Cell, cellsWf l = true ↔ l.Pairwise (fun a b => a.1 < b.1) ∧ ∀ c ∈ l, c.2 ≠ 0
  | [] => by simp [cellsWf]
  | [(x, b)] => by simp [cellsWf]
  | (x, b) :: (y, c) :: r => by
    have ih := cellsWf_iff ((y, c) :: r)
    simp only [cellsWf, Bool.and_eq_true, bne_iff_ne, decide_eq_true_eq, ih]
    constructor
    · rintro ⟨⟨h0, h1⟩, h2, h3⟩
      refine ⟨List.pairwise_cons.2 ⟨?_, h2⟩, ?_⟩
      · intro a ha
        rcases List.mem_cons.1 ha with e | e
        · subst e; exact h1
        · exact lt_trans h1 ((List.pairwise_cons.1 h2).1 a e)
      · intro a ha
        rcases List.mem_cons.1 ha with e | e
        · subst e; exact h0
        · exact h3 a e
    · rintro ⟨h, k⟩
      have p := List.pairwise_cons.1 h
      exact ⟨⟨k _ List.mem_cons_self, p.1 _ List.mem_cons_self⟩, p.2, fun a ha => k a (List.mem_cons_of_mem _ ha)⟩

/-- A byte written elsewhere reads as before, and the byte written reads as written. -/
theorem cellGet_cellSet : ∀ (l : List Host.Cell) (a : Nat) (b : Byte) (x : Nat), cellsWf l = true →
    cellGet (cellSet l a b) x = if x = a then b else cellGet l x := by
  intro l
  induction l with
  | nil =>
    intro a b x _
    by_cases hb : b = 0 <;> by_cases hx : x = a <;> simp_all [cellSet, cellGet]
    intro e; exact absurd e.symm hx
  | cons e r ih =>
    intro a b x hw
    obtain ⟨y, c⟩ := e
    have hw' := (cellsWf_iff _).1 hw
    have hp := List.pairwise_cons.1 hw'.1
    have hr : cellsWf r = true := (cellsWf_iff r).2 ⟨hp.2, fun d hd => hw'.2 d (List.mem_cons_of_mem _ hd)⟩
    have above : ∀ (m : List Host.Cell) (z : Nat), (∀ d ∈ m, z < d.1) → cellGet m z = 0 := by
      intro m z
      induction m with
      | nil => intro _; rfl
      | cons d m im =>
        intro h
        have := h d List.mem_cons_self
        simp only [cellGet]
        rw [if_neg (by omega)]
        exact im fun q hq => h q (List.mem_cons_of_mem _ hq)
    simp only [cellSet]
    split
    · rename_i hlt
      split
      · rename_i hb
        by_cases hx : x = a
        · subst hx
          rw [if_pos rfl, hb]
          refine above _ _ ?_
          intro d hd
          rcases List.mem_cons.1 hd with e | e
          · subst e; exact hlt
          · exact lt_trans hlt (hp.1 d e)
        · rw [if_neg hx]
      · simp only [cellGet]
        by_cases hx : x = a
        · subst hx; simp
        · rw [if_neg (fun e => hx e.symm), if_neg hx]
    · split
      · rename_i hnl heq
        subst heq
        have ha : cellGet r a = 0 := above _ _ hp.1
        split
        · rename_i hb
          by_cases hx : x = a
          · subst hx; rw [if_pos rfl, hb]; exact ha
          · rw [if_neg hx]; simp only [cellGet]; rw [if_neg (fun e => hx e.symm)]
        · simp only [cellGet]
          by_cases hx : x = a
          · subst hx; simp
          · rw [if_neg (fun e => hx e.symm), if_neg hx, if_neg (fun e => hx e.symm)]
      · rename_i hnl hne
        simp only [cellGet]
        by_cases hy : y = x
        · subst hy; rw [if_pos rfl, if_neg (fun e => hne e.symm), if_pos rfl]
        · rw [if_neg hy, if_neg hy]; exact ih a b x hr

theorem cellSet_mem : ∀ (l : List Host.Cell) (a : Nat) (b : Byte) (c : Host.Cell), c ∈ cellSet l a b → c ∈ l ∨ (c = (a, b) ∧ b ≠ 0) := by
  intro l
  induction l with
  | nil => intro a b c h; by_cases hb : b = 0 <;> simp_all [cellSet]
  | cons e r ih =>
    intro a b c h
    obtain ⟨y, d⟩ := e
    simp only [cellSet] at h
    split at h
    · split at h
      · exact .inl h
      · rcases List.mem_cons.1 h with e | e
        · exact .inr ⟨e, ‹_›⟩
        · exact .inl e
    · split at h
      · split at h
        · exact .inl (List.mem_cons_of_mem _ h)
        · rcases List.mem_cons.1 h with e | e
          · exact .inr ⟨e, ‹_›⟩
          · exact .inl (List.mem_cons_of_mem _ e)
      · rcases List.mem_cons.1 h with e | e
        · exact .inl (e ▸ List.mem_cons_self)
        · rcases ih a b c e with k | k
          · exact .inl (List.mem_cons_of_mem _ k)
          · exact .inr k

theorem cellSet_wf : ∀ (l : List Host.Cell) (a : Nat) (b : Byte), cellsWf l = true → cellsWf (cellSet l a b) = true := by
  intro l a b h
  rw [cellsWf_iff] at h ⊢
  refine ⟨?_, fun c hc => ?_⟩
  · revert h
    induction l with
    | nil => intro _; simp only [cellSet]; split <;> simp
    | cons e r ih =>
      intro h
      obtain ⟨y, d⟩ := e
      have hp := List.pairwise_cons.1 h.1
      have hr := ih ⟨hp.2, fun q hq => h.2 q (List.mem_cons_of_mem _ hq)⟩
      simp only [cellSet]
      split
      · rename_i hlt
        split
        · exact h.1
        · refine List.pairwise_cons.2 ⟨fun q hq => ?_, h.1⟩
          rcases List.mem_cons.1 hq with e | e
          · subst e; exact hlt
          · exact lt_trans hlt (hp.1 q e)
      · split
        · rename_i heq
          subst heq
          split
          · exact hp.2
          · exact List.pairwise_cons.2 ⟨hp.1, hp.2⟩
        · refine List.pairwise_cons.2 ⟨fun q hq => ?_, hr⟩
          rcases cellSet_mem _ _ _ _ hq with k | k
          · exact hp.1 q k
          · rw [k.1]; simp only; omega
  · rcases cellSet_mem _ _ _ _ hc with k | k
    · exact h.2 c k
    · rw [k.1]; exact k.2

theorem cellsWrite_wf : ∀ (v : Bytes) (l : List Host.Cell) (a : Nat), cellsWf l = true → cellsWf (cellsWrite l a v) = true
  | [], _, _, h => h
  | b :: v, l, a, h => cellsWrite_wf v (cellSet l a b) (a + 1) (cellSet_wf l a b h)

theorem cells_filter_wf (p : Host.Cell → Bool) (l : List Host.Cell) (h : cellsWf l = true) : cellsWf (l.filter p) = true := by
  rw [cellsWf_iff] at h ⊢
  exact ⟨h.1.sublist List.filter_sublist, fun c hc => h.2 c (List.mem_filter.1 hc).1⟩

theorem cellsClear_wf (l : List Host.Cell) (a n : Nat) (h : cellsWf l = true) : cellsWf (cellsClear l a n) = true :=
  cells_filter_wf _ l h

/-- Bytes outside a write read as before (**R327**, **R469**). -/
theorem cellGet_cellsWrite_outside : ∀ (v : Bytes) (l : List Host.Cell) (a x : Nat), cellsWf l = true →
    (x < a ∨ a + v.length ≤ x) → cellGet (cellsWrite l a v) x = cellGet l x
  | [], _, _, _, _, _ => rfl
  | b :: v, l, a, x, h, k => by
    simp only [List.length_cons] at k
    rw [cellsWrite, cellGet_cellsWrite_outside v _ _ _ (cellSet_wf l a b h) (by omega), cellGet_cellSet l a b x h]
    rw [if_neg (by omega)]

/-- A byte string written reads back (**R327**, **R469**). -/
theorem cellsRead_cellsWrite : ∀ (v : Bytes) (l : List Host.Cell) (a : Nat), cellsWf l = true →
    cellsRead (cellsWrite l a v) a v.length = v
  | [], _, _, _ => rfl
  | b :: v, l, a, h => by
    have hw := cellSet_wf l a b h
    simp only [List.length_cons, cellsRead, cellsWrite]
    rw [cellGet_cellsWrite_outside v _ (a + 1) a hw (by omega), cellGet_cellSet l a b a h, if_pos rfl,
      cellsRead_cellsWrite v _ (a + 1) hw]

theorem releaseLines_wf (m : Mem) (line n : Nat) (h : m.wf = true) : (releaseLines m line n).wf = true :=
  cellsClear_wf _ _ _ h

/-- A release leaves zero data in its lines (**R337**). -/
theorem cellGet_cellsClear : ∀ (l : List Host.Cell) (a n x : Nat), a ≤ x → x < a + n → cellGet (cellsClear l a n) x = 0 := by
  intro l a n x h k
  induction l with
  | nil => rfl
  | cons e r ih =>
    obtain ⟨y, c⟩ := e
    simp only [cellsClear, List.filter_cons]
    split
    · rename_i hc
      simp only [cellGet]
      rw [if_neg]
      · exact ih
      · rintro rfl
        simp at hc
        omega
    · exact ih

end Sys2Proof.Machine
end

