-- ==== Sys2Proof/Laws/Keeps.lean ====
section
/-! SUPPORT. What every operation keeps: the queue, the canonical form of both memories, and every blown fuse. -/

namespace Sys2Proof.Machine

/-- From `s` to `t` the queue is the same, both memories keep their canonical form, and no fuse returns to 0. -/
structure Keeps (s t : State) : Prop where
  /-- The queue. -/
  pending : t.pending = s.pending
  /-- No blown fuse returns to 0. -/
  fuses : s.lcs.fuse &&& t.lcs.fuse = s.lcs.fuse
  /-- The internal space stays canonical. -/
  cells : cellsWf s.mem.cells = true → cellsWf t.mem.cells = true
  /-- The management buffer stays canonical. -/
  buf : cellsWf s.mgt.buf = true → cellsWf t.mgt.buf = true

theorem Keeps.refl (s : State) : Keeps s s := ⟨rfl, BitVec.and_self, id, id⟩

theorem Keeps.trans {s t u : State} (h : Keeps s t) (k : Keeps t u) : Keeps s u where
  pending := k.pending.trans h.pending
  fuses := by
    have a := h.fuses
    have b := k.fuses
    rw [← a, BitVec.and_assoc, b]
  cells := fun x => k.cells (h.cells x)
  buf := fun x => k.buf (h.buf x)

/-- A state written out field by field that agrees with `t` in the four places. -/
theorem Keeps.upd {s t : State} {p mt fr im rq sl ad en et lk me kv fa lc tm wd lo pw mg pc cu ir ou fc}
    (h : Keeps s t) (a : p = t.pending) (b : lc.fuse = t.lcs.fuse) (c : me.cells = t.mem.cells) (d : mg.buf = t.mgt.buf) :
    Keeps s (State.mk p mt fr im rq sl ad en et lk me kv fa lc tm wd lo pw mg pc cu ir ou fc) :=
  ⟨a.trans h.pending, (congrArg (s.lcs.fuse &&& ·) b).trans h.fuses, fun x => (congrArg cellsWf c).trans (h.cells x),
    fun x => (congrArg cellsWf d).trans (h.buf x)⟩

/-- `Keeps` of a state by its queue, fuses and memories. -/
structure KeepsAt (s : State) (p : List Instr) (f : BitVec 16384) (c b : List Host.Cell) : Prop where
  /-- The queue. -/
  pending : p = s.pending
  /-- The fuses. -/
  fuses : s.lcs.fuse &&& f = s.lcs.fuse
  /-- The internal space. -/
  cells : cellsWf s.mem.cells = true → cellsWf c = true
  /-- The management buffer. -/
  buf : cellsWf s.mgt.buf = true → cellsWf b = true

/-- A state written out field by field is kept by four of its fields. -/
theorem Keeps.fields {s : State} {p mt fr im rq sl ad en et lk me kv fa lc tm wd lo pw mg pc cu ir ou fc} :
    Keeps s (State.mk p mt fr im rq sl ad en et lk me kv fa lc tm wd lo pw mg pc cu ir ou fc) =
      KeepsAt s p lc.fuse me.cells mg.buf :=
  propext ⟨fun h => ⟨h.1, h.2, h.3, h.4⟩, fun h => ⟨h.1, h.2, h.3, h.4⟩⟩

theorem KeepsAt.of {s t : State} {p f c b} (h : Keeps s t) (hp : p = t.pending) (hf : f = t.lcs.fuse) (hc : c = t.mem.cells)
    (hb : b = t.mgt.buf) : KeepsAt s p f c b := by
  subst hp hf hc hb
  exact ⟨h.1, h.2, h.3, h.4⟩

theorem KeepsAt.blow {s : State} {p f c b} (i v : Nat) (h : KeepsAt s p f c b) : KeepsAt s p (fuseBlow f i v) c b := by
  refine ⟨h.1, ?_, h.3, h.4⟩
  have e := h.2
  unfold fuseBlow
  ext k hk
  have := congrArg (·.getLsbD k) e
  simp only [BitVec.getLsbD_and] at this
  simp only [BitVec.getElem_eq_testBit_toNat, BitVec.testBit_toNat, BitVec.getLsbD_and, BitVec.getLsbD_or]
  cases hs : s.lcs.fuse.getLsbD k <;> simp_all

theorem KeepsAt.blowAll {s : State} {p c b} : ∀ (l : List Nat) (f), KeepsAt s p f c b →
    KeepsAt s p (l.foldl (fun f i => fuseBlow f i 1) f) c b
  | [], _, h => h
  | i :: l, _, h => KeepsAt.blowAll l _ (h.blow i 1)

theorem KeepsAt.write {s : State} {p f c b} (a : Nat) (v : Bytes) (h : KeepsAt s p f c b) :
    KeepsAt s p f (cellsWrite c a v) b := ⟨h.1, h.2, fun x => cellsWrite_wf _ _ _ (h.3 x), h.4⟩

theorem KeepsAt.filter {s : State} {p f c b} (q : Host.Cell → Bool) (h : KeepsAt s p f c b) :
    KeepsAt s p f (c.filter q) b := ⟨h.1, h.2, fun x => cells_filter_wf _ _ (h.3 x), h.4⟩

theorem KeepsAt.release {s : State} {p f b} {m : Mem} (l n : Nat) (h : KeepsAt s p f m.cells b) :
    KeepsAt s p f (releaseLines m l n).cells b := ⟨h.1, h.2, fun x => cellsClear_wf _ _ _ (h.3 x), h.4⟩

theorem KeepsAt.releaseAll {s : State} {p f b} : ∀ (l : List Nat) (m : Mem), KeepsAt s p f m.cells b →
    KeepsAt s p f (l.foldl (fun m l => releaseLines m l 1) m).cells b
  | [], _, h => h
  | i :: l, m, h => KeepsAt.releaseAll l (releaseLines m i 1) (h.release i 1)

theorem KeepsAt.noCells {s : State} {p f c b} (h : KeepsAt s p f c b) : KeepsAt s p f [] b := ⟨h.1, h.2, fun _ => rfl, h.4⟩

theorem KeepsAt.noBuf {s : State} {p f c b} (h : KeepsAt s p f c b) : KeepsAt s p f c [] := ⟨h.1, h.2, h.3, fun _ => rfl⟩

theorem KeepsAt.ofMgtReset {s : State} {p f c b} {m : Mgt} (h : KeepsAt s p f c b) : KeepsAt s p f c (mgtReset m).buf := h.noBuf

theorem KeepsAt.bufWrite {s : State} {p f c b} (a : Nat) (v : Bytes) (h : KeepsAt s p f c b) :
    KeepsAt s p f c (cellsWrite b a v) := ⟨h.1, h.2, h.3, fun x => cellsWrite_wf _ _ _ (h.4 x)⟩

/-- Every next state of an outcome. -/
structure KeepsRes (s : State) (o : Res) : Prop where
  /-- Each of them. -/
  all : ∀ t, o = .next t → Keeps s t

theorem KeepsRes.next {s t : State} (h : Keeps s t) : KeepsRes s (.next t) := by
  refine ⟨fun u e => ?_⟩
  cases e
  exact h

theorem KeepsRes.fault {s : State} {f : Fault} : KeepsRes s (.fault f) := by
  refine ⟨fun u e => ?_⟩
  cases e

theorem Keeps.ofPair {α : Type} {s0 t : State} {p : α × State} {x : α} (e : p = (x, t)) (h : Keeps s0 p.2) : Keeps s0 t := by
  subst e
  exact h

theorem Keeps.ofTriple {α β : Type} {s0 t : State} {p : α × β × State} {x : α} {y : β} (e : p = (x, y, t))
    (h : Keeps s0 p.2.2) : Keeps s0 t := by
  subst e
  exact h

/-- The state of an optional one. -/
structure KeepsOpt (s : State) (o : Option State) : Prop where
  /-- It. -/
  all : ∀ t, o = some t → Keeps s t

theorem KeepsOpt.none {s : State} : KeepsOpt s none := by
  refine ⟨fun t e => ?_⟩
  cases e

theorem KeepsOpt.some {s t : State} (h : Keeps s t) : KeepsOpt s (some t) := by
  refine ⟨fun u e => ?_⟩
  cases e
  exact h

theorem KeepsOpt.map {α : Type} {s : State} {f : α → State} {o : Option α} (h : ∀ i, Keeps s (f i)) : KeepsOpt s (o.map f) := by
  cases o with
  | none => exact .none
  | some i => exact .some (h i)

theorem Keeps.ofGetD {s0 s : State} {o : Option State} (k : KeepsOpt s0 o) (h : Keeps s0 s) : Keeps s0 (o.getD s) := by
  cases o with
  | none => exact h
  | some t => exact k.all t rfl

theorem Keeps.ofSome {s0 t : State} {o : Option State} (e : o = .some t) (h : KeepsOpt s0 o) : Keeps s0 t := h.all t e

theorem Keeps.foldl {α : Type} {s0 : State} {f : State → α → State} (hf : ∀ t a, Keeps s0 t → Keeps s0 (f t a)) :
    ∀ (l : List α) (s : State), Keeps s0 s → Keeps s0 (l.foldl f s)
  | [], _, h => h
  | a :: l, s, h => Keeps.foldl hf l (f s a) (hf s a h)

end Sys2Proof.Machine
end

