-- ==== Sys2Proof/Laws/KeepsA.lean ====
section
/-! SUPPORT. What the shared operations keep. -/

namespace Sys2Proof.Machine

-- Ops -------------------------------------------------------------------------------------------------

theorem draw_k {s0 : State} (s : State) (h : Keeps s0 s) :
    Keeps s0 (draw s).2 := by
  unfold draw
  repeat' first
    | (with_reducible assumption)
    | (refine KeepsAt.of ?_ rfl rfl rfl rfl) | (simp only [Keeps.fields])

theorem emit_k {s0 : State} (a0) (s : State) (h : Keeps s0 s) :
    Keeps s0 (emit a0 s) := by
  unfold emit
  repeat' first
    | (with_reducible assumption)
    | (refine KeepsAt.of ?_ rfl rfl rfl rfl) | (simp only [Keeps.fields])

theorem logEvent_k {s0 : State} (a0) (a1) (s : State) (h : Keeps s0 s) :
    Keeps s0 (logEvent a0 a1 s) := by
  unfold logEvent
  repeat' first
    | (with_reducible assumption)
    | (refine KeepsAt.of ?_ rfl rfl rfl rfl) | (simp only [Keeps.fields]) | split

theorem logReserve_k {s0 : State} (a0) (a1) (s : State) (h : Keeps s0 s) :
    Keeps s0 (logReserve a0 a1 s) := by
  unfold logReserve
  repeat' first
    | (with_reducible assumption)
    | (refine KeepsAt.of ?_ rfl rfl rfl rfl) | (simp only [Keeps.fields]) | (dsimp only) | split

theorem updSlice_k {s0 : State} (a0) (a1) (s : State) (h : Keeps s0 s) :
    Keeps s0 (updSlice a0 a1 s) := by
  unfold updSlice
  repeat' first
    | (with_reducible assumption)
    | (refine KeepsAt.of ?_ rfl rfl rfl rfl) | (simp only [Keeps.fields])

theorem setQueue_k {s0 : State} (a0) (a1) (a2) (s : State) (h : Keeps s0 s) :
    Keeps s0 (setQueue a0 a1 a2 s) := by
  unfold setQueue
  repeat' first
    | (with_reducible assumption)
    | (refine KeepsAt.of ?_ rfl rfl rfl rfl) | (simp only [Keeps.fields])

theorem updReq_k {s0 : State} (a0) (a1) (s : State) (h : Keeps s0 s) :
    Keeps s0 (updReq a0 a1 s) := by
  unfold updReq
  repeat' first
    | (with_reducible assumption)
    | (refine KeepsAt.of ?_ rfl rfl rfl rfl) | (simp only [Keeps.fields])

theorem dropReq_k {s0 : State} (a0) (s : State) (h : Keeps s0 s) :
    Keeps s0 (dropReq a0 s) := by
  unfold dropReq
  repeat' first
    | (with_reducible assumption)
    | (refine KeepsAt.of ?_ rfl rfl rfl rfl) | (simp only [Keeps.fields])

theorem sendMsix_k {s0 : State} (a0) (s : State) (h : Keeps s0 s) :
    Keeps s0 (sendMsix a0 s) := by
  unfold sendMsix
  repeat' first
    | (with_reducible first
        | assumption | apply emit_k)
    | (refine KeepsAt.of ?_ rfl rfl rfl rfl) | (simp only [Keeps.fields]) | split

theorem raise_k {s0 : State} (a0) (s : State) (h : Keeps s0 s) :
    Keeps s0 (raise a0 s) := by
  unfold raise
  repeat' first
    | (with_reducible first
        | assumption | apply sendMsix_k)
    | (refine KeepsAt.of ?_ rfl rfl rfl rfl) | (simp only [Keeps.fields]) | (dsimp only) | split

theorem noteFull_k {s0 : State} (o) (s : State) (h : Keeps s0 s) : Keeps s0 (noteFull o s) := by
  unfold noteFull
  split
  · exact raise_k _ _ h
  · exact h

theorem flushLog_k {s0 : State} (s : State) (h : Keeps s0 s) :
    Keeps s0 (flushLog s) := by
  unfold flushLog
  repeat' first
    | (with_reducible first
        | assumption | apply noteFull_k)
    | (refine KeepsAt.of ?_ rfl rfl rfl rfl) | (simp only [Keeps.fields])

theorem fabEvent_k {s0 : State} (a0) (s : State) (h : Keeps s0 s) :
    Keeps s0 (fabEvent a0 s) := by
  unfold fabEvent
  repeat' first
    | (with_reducible first
        | assumption | apply raise_k)
    | (refine KeepsAt.of ?_ rfl rfl rfl rfl) | (simp only [Keeps.fields]) | split

theorem refreshHold_k {s0 : State} (s : State) (h : Keeps s0 s) :
    Keeps s0 (refreshHold s) := by
  unfold refreshHold
  repeat' first
    | (with_reducible first
        | assumption | apply raise_k)
    | (refine KeepsAt.of ?_ rfl rfl rfl rfl) | (simp only [Keeps.fields]) | (dsimp only) | split

theorem setPState_k {s0 : State} (a0) (s : State) (h : Keeps s0 s) :
    Keeps s0 (setPState a0 s) := by
  unfold setPState
  repeat' first
    | (with_reducible first
        | assumption | apply logEvent_k)
    | (refine KeepsAt.of ?_ rfl rfl rfl rfl) | (simp only [Keeps.fields])

theorem checkpoint_k {s0 : State} (s : State) (h : Keeps s0 s) :
    Keeps s0 (checkpoint s) := by
  unfold checkpoint
  repeat' first
    | (with_reducible assumption)
    | (refine KeepsAt.of ?_ rfl rfl rfl rfl) | (simp only [Keeps.fields])

theorem stageWrite_k {s0 : State} (a b) (s : State) (f : State → State) (hf : ∀ t, Keeps s0 t → Keeps s0 (f t))
    (h : Keeps s0 s) : Keeps s0 (stageWrite a b s f) := by
  unfold stageWrite
  split
  · exact logEvent_k _ _ _ h
  · exact hf _ (h.upd rfl rfl rfl rfl)

end Sys2Proof.Machine
end

