-- ==== Sys2Proof/Laws/KeepsB.lean ====
section
/-! SUPPORT. What the tables, the entropy source, lookup, custody, memory and sending keep. -/

namespace Sys2Proof.Machine

-- Tables ----------------------------------------------------------------------------------------------

theorem setDomain_k {s0 : State} (a0) (a1) (s : State) (h : Keeps s0 s) :
    Keeps s0 (setDomain a0 a1 s) := by
  unfold setDomain
  repeat' first
    | (with_reducible assumption)
    | (refine KeepsAt.of ?_ rfl rfl rfl rfl) | (simp only [Keeps.fields])

theorem updPeer_k {s0 : State} (a0) (a1) (s : State) (h : Keeps s0 s) :
    Keeps s0 (updPeer a0 a1 s) := by
  unfold updPeer
  repeat' first
    | (with_reducible assumption)
    | (refine KeepsAt.of ?_ rfl rfl rfl rfl) | (simp only [Keeps.fields])

theorem learn_k {s0 : State} (a0) (a1) (a2) (a3) (s : State) (h : Keeps s0 s) :
    Keeps s0 (learn a0 a1 a2 a3 s) := by
  unfold learn
  repeat' first
    | (with_reducible first
        | assumption | apply logEvent_k | apply setDomain_k)
    | (refine KeepsAt.of ?_ rfl rfl rfl rfl) | (simp only [Keeps.fields]) | (dsimp only) | split

theorem stashLevel_k {s0 : State} (s : State) (h : Keeps s0 s) :
    Keeps s0 (stashLevel s) := by
  unfold stashLevel
  repeat' first
    | (with_reducible first
        | assumption | apply logEvent_k)
    | (refine KeepsAt.of ?_ rfl rfl rfl rfl) | (simp only [Keeps.fields]) | (dsimp only) | split

theorem tableFull_k {s0 : State} (a0) (a1) (s : State) (h : Keeps s0 s) :
    Keeps s0 (tableFull a0 a1 s) := by
  unfold tableFull
  repeat' first
    | (with_reducible first
        | assumption | apply logEvent_k)
    | (refine KeepsAt.of ?_ rfl rfl rfl rfl) | (simp only [Keeps.fields])

theorem emInsert_k {s0 : State} (a0) (s : State) (h : Keeps s0 s) :
    Keeps s0 (emInsert a0 s).2 := by
  unfold emInsert
  repeat' first
    | (with_reducible first
        | assumption | apply stashLevel_k | apply tableFull_k)
    | (refine KeepsAt.of ?_ rfl rfl rfl rfl) | (simp only [Keeps.fields]) | (dsimp only) | split

theorem stashMove_k {s0 : State} : ∀ (l : List (Nat × EmEntry)) (s : State), Keeps s0 s → Keeps s0 (stashMove l s)
  | [], _, h => h
  | (i, e) :: r, s, h => by
    unfold stashMove
    split
    · exact stashMove_k r _ (h.upd rfl rfl rfl rfl)
    · exact stashMove_k r _ h

theorem stashRetry_k {s0 : State} (s : State) (h : Keeps s0 s) :
    Keeps s0 (stashRetry s) := by
  unfold stashRetry
  repeat' with_reducible first
    | assumption | apply stashLevel_k | apply stashMove_k

theorem emDelete_k {s0 : State} (a0) (a1) (s : State) (h : Keeps s0 s) :
    Keeps s0 (emDelete a0 a1 s).2 := by
  unfold emDelete
  repeat' first
    | (with_reducible first
        | assumption | apply stashRetry_k | apply stashLevel_k)
    | (refine KeepsAt.of ?_ rfl rfl rfl rfl) | (simp only [Keeps.fields]) | split

theorem emReplace_k {s0 : State} (a0) (s : State) (h : Keeps s0 s) :
    Keeps s0 (emReplace a0 s).2 := by
  unfold emReplace
  repeat' first
    | (with_reducible assumption)
    | (refine KeepsAt.of ?_ rfl rfl rfl rfl) | (simp only [Keeps.fields]) | (dsimp only) | split

-- Entropy ---------------------------------------------------------------------------------------------

theorem updDrbg_k {s0 : State} (a0) (a1) (s : State) (h : Keeps s0 s) :
    Keeps s0 (updDrbg a0 a1 s) := by
  unfold updDrbg
  repeat' first
    | (with_reducible assumption)
    | (refine KeepsAt.of ?_ rfl rfl rfl rfl) | (simp only [Keeps.fields])

theorem commitCalls_k {s0 : State} (c : Nat) : ∀ (n : Nat) (s : State), Keeps s0 s → Keeps s0 (commitCalls c n s).2
  | 0, _, h => h
  | n + 1, s, h => by
    unfold commitCalls
    split
    · exact h
    · exact commitCalls_k c n _ (updDrbg_k _ _ _ h)

theorem countCalls_k {s0 : State} (a0) (a1) (s : State) (h : Keeps s0 s) :
    Keeps s0 (countCalls a0 a1 s) := by
  unfold countCalls
  repeat' first
    | (with_reducible first
        | assumption | apply updDrbg_k)

theorem makeCalls_k {s0 : State} (a0) (s : State) (h : Keeps s0 s) :
    Keeps s0 (makeCalls a0 s) := by
  unfold makeCalls
  repeat' first
    | (with_reducible first
        | assumption | apply countCalls_k | apply updDrbg_k | (refine Keeps.foldl (fun t a ht => ?_) _ _ ?_))

theorem dropCalls_k {s0 : State} (a0) (s : State) (h : Keeps s0 s) :
    Keeps s0 (dropCalls a0 s) := by
  unfold dropCalls
  repeat' first
    | (with_reducible first
        | assumption | apply updDrbg_k | (refine Keeps.foldl (fun t a ht => ?_) _ _ ?_))

theorem rrCalls_k {s0 : State} (c : Nat) : ∀ (n : Nat) (s : State), Keeps s0 s → KeepsOpt s0 (rrCalls c n s)
  | 0, _, h => .some h
  | n + 1, s, h => by
    unfold rrCalls
    split
    · exact .none
    · extract_lets t
      exact rrCalls_k c n _ (.upd (countCalls_k _ _ _ h) rfl rfl rfl rfl)

theorem wardenCalls_k {s0 : State} (a0) (s : State) (h : Keeps s0 s) :
    KeepsOpt s0 (wardenCalls a0 s) := by
  unfold wardenCalls
  repeat' with_reducible first
    | assumption | apply rrCalls_k

theorem instantiate_k {s0 : State} (a0) (s : State) (h : Keeps s0 s) :
    Keeps s0 (instantiate a0 s) := by
  unfold instantiate
  repeat' first
    | (with_reducible first
        | assumption | apply draw_k | (refine Keeps.ofPair (by assumption) ?_) | apply updDrbg_k)

theorem reseed_k {s0 : State} (a0) (s : State) (h : Keeps s0 s) :
    Keeps s0 (reseed a0 s) := by
  unfold reseed
  repeat' first
    | (with_reducible first
        | assumption | apply draw_k | (refine Keeps.ofPair (by assumption) ?_) | apply updDrbg_k)
    | (refine KeepsAt.of ?_ rfl rfl rfl rfl) | (simp only [Keeps.fields])

theorem instantiateAll_k {s0 : State} (a0) (s : State) (h : Keeps s0 s) :
    Keeps s0 (instantiateAll a0 s) := by
  unfold instantiateAll
  repeat' first
    | (with_reducible first
        | assumption | apply instantiate_k | (refine Keeps.foldl (fun t a ht => ?_) _ _ ?_))

theorem entropyClear_k {s0 : State} (s : State) (h : Keeps s0 s) :
    Keeps s0 (entropyClear s) := by
  unfold entropyClear
  repeat' first
    | (with_reducible assumption)
    | (refine KeepsAt.of ?_ rfl rfl rfl rfl) | (simp only [Keeps.fields])

theorem sourceCheck_k {s0 : State} (s : State) (h : Keeps s0 s) :
    Keeps s0 (sourceCheck s) := by
  unfold sourceCheck
  repeat' first
    | (with_reducible first
        | assumption | apply logEvent_k | apply raise_k)
    | (refine KeepsAt.of ?_ rfl rfl rfl rfl) | (simp only [Keeps.fields]) | split

theorem entropyStart_k {s0 : State} (a0) (a1) (a2) (s : State) (h : Keeps s0 s) :
    Keeps s0 (entropyStart a0 a1 a2 s) := by
  unfold entropyStart
  repeat' first
    | (with_reducible first
        | assumption | apply logEvent_k | apply instantiateAll_k)
    | (refine KeepsAt.of ?_ rfl rfl rfl rfl) | (simp only [Keeps.fields]) | (dsimp only) | split

theorem applyPolicy_k {s0 : State} (a0) (s : State) (h : Keeps s0 s) :
    Keeps s0 (applyPolicy a0 s) := by
  unfold applyPolicy
  repeat' first
    | (with_reducible first
        | assumption | apply reseed_k | apply sourceCheck_k | apply updDrbg_k
        | (refine Keeps.foldl (fun t a ht => ?_) _ _ ?_))
    | (refine KeepsAt.of ?_ rfl rfl rfl rfl) | (simp only [Keeps.fields]) | (dsimp only) | split

theorem execHealthWindowEnd_k {s0 : State} (a0) (a1) (s : State) (h : Keeps s0 s) :
    KeepsRes s0 (execHealthWindowEnd a0 a1 s) := by
  unfold execHealthWindowEnd
  repeat' first
    | (with_reducible first
        | assumption | apply KeepsRes.next)
    | (refine KeepsAt.of ?_ rfl rfl rfl rfl) | (simp only [Keeps.fields]) | (dsimp only) | split

theorem execBalancingPeriodEnd_k {s0 : State} (a0) (a1) (s : State) (h : Keeps s0 s) :
    KeepsRes s0 (execBalancingPeriodEnd a0 a1 s) := by
  unfold execBalancingPeriodEnd
  repeat' first
    | (with_reducible first
        | assumption | apply logEvent_k | apply KeepsRes.next)
    | (refine KeepsAt.of ?_ rfl rfl rfl rfl) | (simp only [Keeps.fields]) | (dsimp only) | split

theorem execSeedBlockClose_k {s0 : State} (s : State) (h : Keeps s0 s) :
    KeepsRes s0 (execSeedBlockClose s) := by
  unfold execSeedBlockClose
  repeat' first
    | (with_reducible first
        | assumption | apply KeepsRes.next)
    | (refine KeepsAt.of ?_ rfl rfl rfl rfl) | (simp only [Keeps.fields]) | (dsimp only) | split

theorem retireCell_k {s0 : State} (a1) (s : State) (h : Keeps s0 s) :
    Keeps s0 (retireCell s a1) := by
  unfold retireCell
  repeat' first
    | (with_reducible first
        | assumption | apply logEvent_k)
    | (refine KeepsAt.of ?_ rfl rfl rfl rfl) | (simp only [Keeps.fields]) | (dsimp only) | split

theorem execEntCheckpoint_k {s0 : State} (s : State) (h : Keeps s0 s) :
    KeepsRes s0 (execEntCheckpoint s) := by
  unfold execEntCheckpoint
  repeat' first
    | (with_reducible first
        | assumption | apply sourceCheck_k | apply retireCell_k | apply KeepsRes.next
        | (refine Keeps.foldl (fun t a ht => ?_) _ _ ?_))
    | (dsimp only) | split

theorem execReseedDue_k {s0 : State} (a0) (s : State) (h : Keeps s0 s) :
    KeepsRes s0 (execReseedDue a0 s) := by
  unfold execReseedDue
  repeat' first
    | (with_reducible first
        | assumption | apply updDrbg_k | apply KeepsRes.next)
    | (refine KeepsAt.of ?_ rfl rfl rfl rfl) | (dsimp only) | (dsimp only) | split

theorem execDrbgReseed_k {s0 : State} (a0) (s : State) (h : Keeps s0 s) :
    KeepsRes s0 (execDrbgReseed a0 s) := by
  unfold execDrbgReseed
  repeat' first
    | (with_reducible first
        | assumption | apply reseed_k | apply KeepsRes.next)
    | (refine KeepsAt.of ?_ rfl rfl rfl rfl) | (simp only [Keeps.fields]) | (dsimp only) | split

theorem execDrbgWardenReinstantiate_k {s0 : State} (s : State) (h : Keeps s0 s) :
    KeepsRes s0 (execDrbgWardenReinstantiate s) := by
  unfold execDrbgWardenReinstantiate
  repeat' first
    | (with_reducible first
        | assumption | apply instantiateAll_k | apply KeepsRes.next)
    | (dsimp only) | split

theorem rawPop_k {s0 : State} (s : State) (h : Keeps s0 s) :
    Keeps s0 (rawPop s).2 := by
  unfold rawPop
  repeat' first
    | (with_reducible assumption)
    | (refine KeepsAt.of ?_ rfl rfl rfl rfl) | (simp only [Keeps.fields]) | split

theorem rawCtrl_k {s0 : State} (a0) (s : State) (h : Keeps s0 s) :
    Keeps s0 (rawCtrl a0 s) := by
  unfold rawCtrl
  repeat' first
    | (with_reducible first
        | assumption | apply logEvent_k)
    | (refine KeepsAt.of ?_ rfl rfl rfl rfl) | (simp only [Keeps.fields]) | (dsimp only) | split

-- Image -----------------------------------------------------------------------------------------------

theorem setReject_k {s0 : State} (a0) (s : State) (h : Keeps s0 s) :
    Keeps s0 (setReject a0 s) := by
  unfold setReject
  repeat' first
    | (with_reducible assumption)
    | (refine KeepsAt.of ?_ rfl rfl rfl rfl) | (simp only [Keeps.fields])

-- Admission -------------------------------------------------------------------------------------------

theorem updUnit_k {s0 : State} (a0) (a1) (a2) (s : State) (h : Keeps s0 s) :
    Keeps s0 (updUnit a0 a1 a2 s) := by
  unfold updUnit
  repeat' first
    | (with_reducible assumption)
    | (refine KeepsAt.of ?_ rfl rfl rfl rfl) | (simp only [Keeps.fields])

theorem addWork_k {s0 : State} (a0) (s : State) (h : Keeps s0 s) :
    Keeps s0 (addWork a0 s) := by
  unfold addWork
  repeat' first
    | (with_reducible first
        | assumption | (refine Keeps.foldl (fun t a ht => ?_) _ _ ?_))
    | (refine KeepsAt.of ?_ rfl rfl rfl rfl) | (simp only [Keeps.fields])

theorem dropWork_k {s0 : State} (a0) (s : State) (h : Keeps s0 s) :
    Keeps s0 (dropWork a0 s) := by
  unfold dropWork
  repeat' first
    | (with_reducible first
        | assumption | (refine Keeps.foldl (fun t a ht => ?_) _ _ ?_))
    | (refine KeepsAt.of ?_ rfl rfl rfl rfl) | (simp only [Keeps.fields])

theorem throttleUnit_k {s0 : State} (a0) (a1) (s : State) (h : Keeps s0 s) :
    Keeps s0 (throttleUnit a0 a1 s) := by
  unfold throttleUnit
  repeat' first
    | (with_reducible first
        | assumption | apply updUnit_k)
    | (refine KeepsAt.of ?_ rfl rfl rfl rfl) | (dsimp only) | (dsimp only) | split

theorem applyThrottle_k {s0 : State} (s : State) (h : Keeps s0 s) :
    Keeps s0 (applyThrottle s) := by
  unfold applyThrottle
  repeat' first
    | (with_reducible first
        | assumption | apply throttleUnit_k | (refine Keeps.foldl (fun t a ht => ?_) _ _ ?_))

theorem parkReserved_k {s0 : State} (s : State) (h : Keeps s0 s) :
    Keeps s0 (parkReserved s) := by
  unfold parkReserved
  repeat' first
    | (with_reducible assumption)
    | (refine KeepsAt.of ?_ rfl rfl rfl rfl) | (simp only [Keeps.fields]) | (dsimp only) | split

theorem parkAfter_k {s0 : State} (a0) (s : State) (h : Keeps s0 s) :
    Keeps s0 (parkAfter a0 s) := by
  unfold parkAfter
  repeat' first
    | (with_reducible first
        | assumption | apply parkReserved_k)
    | (refine KeepsAt.of ?_ rfl rfl rfl rfl) | (simp only [Keeps.fields]) | split

theorem setThrottle_k {s0 : State} (a0) (a1) (s : State) (h : Keeps s0 s) :
    Keeps s0 (setThrottle a0 a1 s) := by
  unfold setThrottle
  repeat' first
    | (with_reducible first
        | assumption | apply logEvent_k | apply applyThrottle_k | apply raise_k)
    | (refine KeepsAt.of ?_ rfl rfl rfl rfl) | (simp only [Keeps.fields])

theorem execJunctionTempSample_k {s0 : State} (a0) (s : State) (h : Keeps s0 s) :
    KeepsRes s0 (execJunctionTempSample a0 s) := by
  unfold execJunctionTempSample
  repeat' first
    | (with_reducible first
        | assumption | apply setThrottle_k | apply KeepsRes.next | (refine Keeps.foldl (fun t a ht => ?_) _ _ ?_))
    | (refine KeepsAt.of ?_ rfl rfl rfl rfl) | (simp only [Keeps.fields]) | (dsimp only) | split

theorem fillBucket_k {s0 : State} (a0) (s : State) (h : Keeps s0 s) :
    Keeps s0 (fillBucket a0 s) := by
  unfold fillBucket
  repeat' first
    | (with_reducible first
        | assumption | apply updSlice_k)

theorem execTokenRefill_k {s0 : State} (s : State) (h : Keeps s0 s) :
    KeepsRes s0 (execTokenRefill s) := by
  unfold execTokenRefill
  repeat' first
    | (with_reducible first
        | assumption | apply updSlice_k | apply KeepsRes.next | (refine Keeps.foldl (fun t a ht => ?_) _ _ ?_))
    | (dsimp only) | split

theorem countRefusal_k {s0 : State} (a0) (s : State) (h : Keeps s0 s) :
    Keeps s0 (countRefusal a0 s) := by
  unfold countRefusal
  repeat' first
    | (with_reducible assumption)
    | (refine KeepsAt.of ?_ rfl rfl rfl rfl) | (simp only [Keeps.fields]) | (dsimp only) | split

theorem noteTrie_k {s0 : State} (a0) (s : State) (h : Keeps s0 s) :
    Keeps s0 (noteTrie a0 s) := by
  unfold noteTrie
  repeat' first
    | (with_reducible first
        | assumption | apply logEvent_k | (refine Keeps.foldl (fun t a ht => ?_) _ _ ?_))
    | (refine KeepsAt.of ?_ rfl rfl rfl rfl) | (simp only [Keeps.fields])

theorem spendToken_k {s0 : State} (a0) (s : State) (h : Keeps s0 s) :
    Keeps s0 (spendToken a0 s) := by
  unfold spendToken
  repeat' first
    | (with_reducible first
        | assumption | apply updSlice_k)

theorem addBusy_k {s0 : State} (a0) (a1) (a2) (a3) (s : State) (h : Keeps s0 s) :
    Keeps s0 (addBusy a0 a1 a2 a3 s) := by
  unfold addBusy
  repeat' first
    | (with_reducible assumption)
    | (refine KeepsAt.of ?_ rfl rfl rfl rfl) | (simp only [Keeps.fields])

theorem arriveBusy_k {s0 : State} (a0) (a1) (a2) (a3) (s : State) (h : Keeps s0 s) :
    Keeps s0 (arriveBusy a0 a1 a2 a3 s) := by
  unfold arriveBusy
  repeat' first
    | (with_reducible assumption)
    | (refine KeepsAt.of ?_ rfl rfl rfl rfl) | (simp only [Keeps.fields]) | (dsimp only) | split

-- Lookup ----------------------------------------------------------------------------------------------

theorem trieInsertOp_k {s0 : State} (a0) (a1) (s : State) (h : Keeps s0 s) :
    Keeps s0 (trieInsertOp a0 a1 s).2 := by
  unfold trieInsertOp
  repeat' first
    | (with_reducible assumption)
    | (refine KeepsAt.of ?_ rfl rfl rfl rfl) | (simp only [Keeps.fields]) | (dsimp only) | split

theorem trieDeleteOp_k {s0 : State} (a0) (s : State) (h : Keeps s0 s) :
    Keeps s0 (trieDeleteOp a0 s).2 := by
  unfold trieDeleteOp
  repeat' first
    | (with_reducible assumption)
    | (refine KeepsAt.of ?_ rfl rfl rfl rfl) | (simp only [Keeps.fields]) | (dsimp only) | split

theorem trieReplaceOp_k {s0 : State} (a0) (a1) (s : State) (h : Keeps s0 s) :
    Keeps s0 (trieReplaceOp a0 a1 s).2 := by
  unfold trieReplaceOp
  repeat' first
    | (with_reducible assumption)
    | (refine KeepsAt.of ?_ rfl rfl rfl rfl) | (simp only [Keeps.fields]) | split

theorem trieOp_k {s0 : State} (a0) (a1) (s : State) (h : Keeps s0 s) :
    Keeps s0 (trieOp a0 a1 s).2.2 := by
  unfold trieOp
  repeat' first
    | (with_reducible first
        | assumption | apply trieInsertOp_k | (refine Keeps.ofPair (by assumption) ?_) | apply trieDeleteOp_k
        | apply trieReplaceOp_k | apply noteTrie_k)
    | (dsimp only) | split

theorem emOp_k {s0 : State} (a0) (a1) (s : State) (h : Keeps s0 s) :
    Keeps s0 (emOp a0 a1 s).2.2 := by
  unfold emOp
  repeat' first
    | (with_reducible first
        | assumption | apply emReplace_k | (refine Keeps.ofPair (by assumption) ?_) | apply emInsert_k
        | apply emDelete_k)
    | (dsimp only) | split

theorem tableRead_k {s0 : State} (a0) (a1) (s : State) (h : Keeps s0 s) :
    Keeps s0 (tableRead a0 a1 s).2.2 := by
  unfold tableRead
  repeat' first
    | (with_reducible assumption)
    | (refine KeepsAt.of ?_ rfl rfl rfl rfl) | (simp only [Keeps.fields]) | split

theorem lkuOp_k {s0 : State} (a0) (a1) (a2) (a3) (s : State) (h : Keeps s0 s) :
    Keeps s0 (lkuOp a0 a1 a2 a3 s).2.2 := by
  unfold lkuOp
  repeat' first
    | (with_reducible first
        | assumption | apply trieOp_k | (refine Keeps.ofTriple (by assumption) ?_) | apply emOp_k
        | apply tableRead_k)
    | split

theorem lkuEnd_k {s0 : State} (a0) (a1) (a2) (s : State) (h : Keeps s0 s) :
    Keeps s0 (lkuEnd a0 a1 a2 s) := by
  unfold lkuEnd
  repeat' first
    | (with_reducible first
        | assumption | apply raise_k)
    | (refine KeepsAt.of ?_ rfl rfl rfl rfl) | (simp only [Keeps.fields]) | (dsimp only) | split

theorem lkuBusyWrite_k {s0 : State} (a0) (s : State) (h : Keeps s0 s) :
    Keeps s0 (lkuBusyWrite a0 s) := by
  unfold lkuBusyWrite
  repeat' with_reducible first
    | assumption | apply logEvent_k

theorem lkuRun_k {s0 : State} (a0) (a1) (a2) (a3) (s : State) (h : Keeps s0 s) :
    Keeps s0 (lkuRun a0 a1 a2 a3 s) := by
  unfold lkuRun
  repeat' first
    | (with_reducible first
        | assumption | apply lkuEnd_k | apply lkuOp_k | (refine Keeps.ofTriple (by assumption) ?_)
        | apply lkuBusyWrite_k)
    | (refine KeepsAt.of ?_ rfl rfl rfl rfl) | (simp only [Keeps.fields]) | (dsimp only) | split

theorem lkuCmd_k {s0 : State} (a0) (a1) (a2) (a3) (s : State) (h : Keeps s0 s) :
    KeepsRes s0 (lkuCmd a0 a1 a2 a3 s) := by
  unfold lkuCmd
  repeat' first
    | (with_reducible first
        | assumption | apply lkuRun_k | apply KeepsRes.next)
    | split

theorem execLkuTrieInsert_k {s0 : State} (a0) (a1) (s : State) (h : Keeps s0 s) :
    KeepsRes s0 (execLkuTrieInsert a0 a1 s) := by
  unfold execLkuTrieInsert
  repeat' with_reducible first
    | assumption | apply lkuCmd_k

theorem execLkuTrieDelete_k {s0 : State} (a0) (a1) (s : State) (h : Keeps s0 s) :
    KeepsRes s0 (execLkuTrieDelete a0 a1 s) := by
  unfold execLkuTrieDelete
  repeat' with_reducible first
    | assumption | apply lkuCmd_k

theorem execLkuTrieReplace_k {s0 : State} (a0) (a1) (s : State) (h : Keeps s0 s) :
    KeepsRes s0 (execLkuTrieReplace a0 a1 s) := by
  unfold execLkuTrieReplace
  repeat' with_reducible first
    | assumption | apply lkuCmd_k

theorem execLkuTrieRead_k {s0 : State} (a0) (a1) (s : State) (h : Keeps s0 s) :
    KeepsRes s0 (execLkuTrieRead a0 a1 s) := by
  unfold execLkuTrieRead
  repeat' with_reducible first
    | assumption | apply lkuCmd_k

theorem execLkuTrieSearch_k {s0 : State} (a0) (a1) (s : State) (h : Keeps s0 s) :
    KeepsRes s0 (execLkuTrieSearch a0 a1 s) := by
  unfold execLkuTrieSearch
  repeat' with_reducible first
    | assumption | apply lkuCmd_k

theorem execLkuEmInsert_k {s0 : State} (a0) (a1) (s : State) (h : Keeps s0 s) :
    KeepsRes s0 (execLkuEmInsert a0 a1 s) := by
  unfold execLkuEmInsert
  repeat' with_reducible first
    | assumption | apply lkuCmd_k

theorem execLkuEmDelete_k {s0 : State} (a0) (a1) (s : State) (h : Keeps s0 s) :
    KeepsRes s0 (execLkuEmDelete a0 a1 s) := by
  unfold execLkuEmDelete
  repeat' with_reducible first
    | assumption | apply lkuCmd_k

theorem execLkuEmReplace_k {s0 : State} (a0) (a1) (s : State) (h : Keeps s0 s) :
    KeepsRes s0 (execLkuEmReplace a0 a1 s) := by
  unfold execLkuEmReplace
  repeat' with_reducible first
    | assumption | apply lkuCmd_k

theorem execLkuEmRead_k {s0 : State} (a0) (a1) (s : State) (h : Keeps s0 s) :
    KeepsRes s0 (execLkuEmRead a0 a1 s) := by
  unfold execLkuEmRead
  repeat' with_reducible first
    | assumption | apply lkuCmd_k

theorem execLkuDomainRead_k {s0 : State} (a0) (a1) (s : State) (h : Keeps s0 s) :
    KeepsRes s0 (execLkuDomainRead a0 a1 s) := by
  unfold execLkuDomainRead
  repeat' with_reducible first
    | assumption | apply lkuCmd_k

theorem execLkuPeerRead_k {s0 : State} (a0) (a1) (s : State) (h : Keeps s0 s) :
    KeepsRes s0 (execLkuPeerRead a0 a1 s) := by
  unfold execLkuPeerRead
  repeat' with_reducible first
    | assumption | apply lkuCmd_k

theorem execLkuStashRead_k {s0 : State} (a0) (a1) (s : State) (h : Keeps s0 s) :
    KeepsRes s0 (execLkuStashRead a0 a1 s) := by
  unfold execLkuStashRead
  repeat' with_reducible first
    | assumption | apply lkuCmd_k

theorem batchRun_k {s0 : State} (a : Nat) : ∀ (l : List BatchRec) (i : Nat) (p : Nat × Nat × Nat) (s : State), Keeps s0 s →
    Keeps s0 (batchRun a i l p s).2
  | [], _, _, _, h => by unfold batchRun; exact h
  | r :: l, i, (x, y, z), s, h => by
    unfold batchRun
    extract_lets b
    split
    rename_i code out t e
    have ht : Keeps s0 t := by
      split at e
      · exact .ofTriple e (lkuOp_k _ _ _ _ _ h)
      · cases e; exact h
    extract_lets u v
    refine batchRun_k a l _ _ _ ?_
    have hu : Keeps s0 u := emit_k _ _ ht
    cases out with
    | some o => exact emit_k _ _ hu
    | none => exact hu

theorem lkuBatchRun_k {s0 : State} (a0) (a1) (s : State) (h : Keeps s0 s) :
    Keeps s0 (lkuBatchRun a0 a1 s) := by
  unfold lkuBatchRun
  repeat' first
    | (with_reducible first
        | assumption | apply batchRun_k | (refine Keeps.ofPair (by assumption) ?_) | apply lkuEnd_k
        | apply lkuBusyWrite_k)
    | (refine KeepsAt.of ?_ rfl rfl rfl rfl) | (simp only [Keeps.fields]) | (dsimp only) | split

theorem execLkuBatch_k {s0 : State} (a0) (a1) (s : State) (h : Keeps s0 s) :
    KeepsRes s0 (execLkuBatch a0 a1 s) := by
  unfold execLkuBatch
  repeat' first
    | (with_reducible first
        | assumption | apply lkuBatchRun_k | apply KeepsRes.next)
    | split

theorem execStashRetry_k {s0 : State} (s : State) (h : Keeps s0 s) :
    KeepsRes s0 (execStashRetry s) := by
  unfold execStashRetry
  repeat' with_reducible first
    | assumption | apply stashRetry_k | apply KeepsRes.next

theorem execTrieNodeFree_k {s0 : State} (s : State) (h : Keeps s0 s) :
    KeepsRes s0 (execTrieNodeFree s) := by
  unfold execTrieNodeFree
  repeat' first
    | (with_reducible first
        | assumption | apply KeepsRes.next)
    | (refine KeepsAt.of ?_ rfl rfl rfl rfl) | (simp only [Keeps.fields])

theorem execTrieScrub_k {s0 : State} (a0) (a1) (a2) (s : State) (h : Keeps s0 s) :
    KeepsRes s0 (execTrieScrub a0 a1 a2 s) := by
  unfold execTrieScrub
  repeat' first
    | (with_reducible first
        | assumption | apply noteTrie_k | apply KeepsRes.next)
    | (refine KeepsAt.of ?_ rfl rfl rfl rfl) | (simp only [Keeps.fields]) | (dsimp only) | split

-- Custody ---------------------------------------------------------------------------------------------

theorem setApprovals_k {s0 : State} (a0) (s : State) (h : Keeps s0 s) :
    Keeps s0 (setApprovals a0 s) := by
  unfold setApprovals
  repeat' first
    | (with_reducible assumption)
    | (refine KeepsAt.of ?_ rfl rfl rfl rfl) | (simp only [Keeps.fields])

theorem reserveApprovals_k {s0 s t : State} {n role : Nat} {st : Bytes} {l : List Approval}
    (e : reserveApprovals n role st s = .inl (l, t)) (h : Keeps s0 s) : Keeps s0 t := by
  unfold reserveApprovals at e
  extract_lets at e
  split at e <;> cases e
  exact setApprovals_k _ _ h

theorem settleApprovals_k {s0 : State} (a0) (a1) (s : State) (h : Keeps s0 s) :
    Keeps s0 (settleApprovals a0 a1 s) := by
  unfold settleApprovals
  repeat' first
    | (with_reducible first
        | assumption | apply setApprovals_k)

theorem dropApprovals_k {s0 : State} (s : State) (h : Keeps s0 s) :
    Keeps s0 (dropApprovals s) := by
  unfold dropApprovals
  repeat' with_reducible first
    | assumption | apply setApprovals_k

theorem dropScopeApprovals_k {s0 : State} (a0) (s : State) (h : Keeps s0 s) :
    Keeps s0 (dropScopeApprovals a0 s) := by
  unfold dropScopeApprovals
  repeat' first
    | (with_reducible first
        | assumption | apply setApprovals_k)

theorem updPort_k {s0 : State} (a0) (a1) (s : State) (h : Keeps s0 s) :
    Keeps s0 (updPort a0 a1 s) := by
  unfold updPort
  repeat' first
    | (with_reducible assumption)
    | (refine KeepsAt.of ?_ rfl rfl rfl rfl) | (simp only [Keeps.fields]) | split

theorem execCardInserted_k {s0 : State} (a0) (s : State) (h : Keeps s0 s) :
    KeepsRes s0 (execCardInserted a0 s) := by
  unfold execCardInserted
  repeat' first
    | (with_reducible first
        | assumption | apply updPort_k | apply KeepsRes.next)
    | (refine KeepsAt.of ?_ rfl rfl rfl rfl) | (simp only [Keeps.fields]) | (dsimp only) | split

theorem execCardRemoved_k {s0 : State} (a0) (s : State) (h : Keeps s0 s) :
    KeepsRes s0 (execCardRemoved a0 s) := by
  unfold execCardRemoved
  repeat' first
    | (with_reducible first
        | assumption | apply updPort_k | apply KeepsRes.next)
    | (refine KeepsAt.of ?_ rfl rfl rfl rfl) | (dsimp only) | (dsimp only) | split

theorem execCardOvercurrent_k {s0 : State} (a0) (s : State) (h : Keeps s0 s) :
    KeepsRes s0 (execCardOvercurrent a0 s) := by
  unfold execCardOvercurrent
  repeat' first
    | (with_reducible first
        | assumption | apply updPort_k | apply KeepsRes.next)
    | (refine KeepsAt.of ?_ rfl rfl rfl rfl) | (dsimp only) | (dsimp only) | split

theorem execCardTimeout_k {s0 : State} (a0) (s : State) (h : Keeps s0 s) :
    KeepsRes s0 (execCardTimeout a0 s) := by
  unfold execCardTimeout
  repeat' first
    | (with_reducible first
        | assumption | apply updPort_k | apply KeepsRes.next)
    | split

theorem execCardSessionExpiry_k {s0 : State} (a0) (s : State) (h : Keeps s0 s) :
    KeepsRes s0 (execCardSessionExpiry a0 s) := by
  unfold execCardSessionExpiry
  repeat' first
    | (with_reducible first
        | assumption | apply updPort_k | apply KeepsRes.next)
    | (dsimp only) | split

theorem execApprovalWindowExpiry_k {s0 : State} (a0) (s : State) (h : Keeps s0 s) :
    KeepsRes s0 (execApprovalWindowExpiry a0 s) := by
  unfold execApprovalWindowExpiry
  repeat' first
    | (with_reducible first
        | assumption | apply setApprovals_k | apply KeepsRes.next)

-- Memory ----------------------------------------------------------------------------------------------

theorem mpuRefuse_k {s0 : State} (a0) (a1) (a2) (a3) (s : State) (h : Keeps s0 s) :
    Keeps s0 (mpuRefuse a0 a1 a2 a3 s) := by
  unfold mpuRefuse
  repeat' first
    | (with_reducible first
        | assumption | apply logEvent_k)
    | (refine KeepsAt.of ?_ rfl rfl rfl rfl) | (simp only [Keeps.fields])

theorem spUncorrectable_k {s0 : State} (a0) (s : State) (h : Keeps s0 s) :
    Keeps s0 (spUncorrectable a0 s) := by
  unfold spUncorrectable
  repeat' first
    | (with_reducible first
        | assumption | apply logEvent_k)
    | (refine KeepsAt.of ?_ rfl rfl rfl rfl) | (simp only [Keeps.fields])

theorem markBad_k {s0 : State} (a0) (s : State) (h : Keeps s0 s) :
    Keeps s0 (markBad a0 s) := by
  unfold markBad
  repeat' first
    | (with_reducible assumption)
    | (refine KeepsAt.of ?_ rfl rfl rfl rfl) | (simp only [Keeps.fields]) | (dsimp only) | split

theorem countUe_k {s0 : State} (a0) (s : State) (h : Keeps s0 s) :
    Keeps s0 (countUe a0 s) := by
  unfold countUe
  repeat' first
    | (with_reducible assumption)
    | (refine KeepsAt.of ?_ rfl rfl rfl rfl) | (simp only [Keeps.fields])

theorem vaultUncorrectable_k {s0 : State} (a0) (s : State) (h : Keeps s0 s) :
    Keeps s0 (vaultUncorrectable a0 s) := by
  unfold vaultUncorrectable
  repeat' with_reducible first
    | assumption | apply logEvent_k | apply countUe_k | apply markBad_k

theorem remapRow_k {s0 : State} (a0) (s : State) (h : Keeps s0 s) :
    Keeps s0 (remapRow a0 s) := by
  unfold remapRow
  repeat' first
    | (with_reducible first
        | assumption | apply logEvent_k)
    | (refine KeepsAt.of ?_ rfl rfl rfl rfl) | (simp only [Keeps.fields]) | (dsimp only) | split

theorem rewriteLines_k {s0 : State} (a0) (a1) (s : State) (h : Keeps s0 s) :
    Keeps s0 (rewriteLines a0 a1 s) := by
  unfold rewriteLines
  repeat' first
    | (with_reducible assumption)
    | (refine KeepsAt.of ?_ rfl rfl rfl rfl) | (simp only [Keeps.fields])

theorem vaultCorrected_k {s0 : State} (a0) (a1) (s : State) (h : Keeps s0 s) :
    Keeps s0 (vaultCorrected a0 a1 s) := by
  unfold vaultCorrected
  repeat' first
    | (with_reducible first
        | assumption | apply remapRow_k)
    | (refine KeepsAt.of ?_ rfl rfl rfl rfl) | (simp only [Keeps.fields]) | (dsimp only) | split

theorem execScrubRead_k {s0 : State} (a0) (s : State) (h : Keeps s0 s) :
    KeepsRes s0 (execScrubRead a0 s) := by
  unfold execScrubRead
  repeat' first
    | (with_reducible first
        | assumption | apply logEvent_k | apply vaultCorrected_k | apply countUe_k | apply raise_k
        | apply remapRow_k | apply markBad_k | apply KeepsRes.next)
    | (refine KeepsAt.of ?_ rfl rfl rfl rfl) | (simp only [Keeps.fields]) | (dsimp only) | split

theorem execRowRemapCopyDone_k {s0 : State} (s : State) (h : Keeps s0 s) :
    KeepsRes s0 (execRowRemapCopyDone s) := by
  unfold execRowRemapCopyDone
  repeat' first
    | (with_reducible first
        | assumption | apply KeepsRes.next)
    | (refine KeepsAt.of ?_ rfl rfl rfl rfl) | (simp only [Keeps.fields]) | split

theorem setSelfRefresh_k {s0 : State} (a0) (s : State) (h : Keeps s0 s) :
    Keeps s0 (setSelfRefresh a0 s) := by
  unfold setSelfRefresh
  repeat' first
    | (with_reducible assumption)
    | (refine KeepsAt.of ?_ rfl rfl rfl rfl) | (simp only [Keeps.fields])

-- Sending ---------------------------------------------------------------------------------------------

theorem updSession_k {s0 : State} (a0) (a1) (s : State) (h : Keeps s0 s) :
    Keeps s0 (updSession a0 a1 s) := by
  unfold updSession
  repeat' first
    | (with_reducible assumption)
    | (refine KeepsAt.of ?_ rfl rfl rfl rfl) | (simp only [Keeps.fields]) | split

theorem stampProv_k {s0 : State} (a0) (a1) (a2) (s : State) (h : Keeps s0 s) :
    Keeps s0 (stampProv a0 a1 a2 s) := by
  unfold stampProv
  repeat' first
    | (with_reducible assumption)
    | (refine KeepsAt.of ?_ rfl rfl rfl rfl) | (simp only [Keeps.fields]) | (dsimp only) | split

theorem putMsg_k {s0 : State} (a0) (a1) (a2) (a3) (s : State) (h : Keeps s0 s) :
    Keeps s0 (putMsg a0 a1 a2 a3 s) := by
  unfold putMsg
  repeat' first
    | (with_reducible first
        | assumption | apply emit_k | apply stampProv_k)
    | (refine KeepsAt.of ?_ rfl rfl rfl rfl) | (simp only [Keeps.fields])

theorem sendMsg_k {s0 : State} (a0) (a1) (a2) (s : State) (h : Keeps s0 s) :
    Keeps s0 (sendMsg a0 a1 a2 s) := by
  unfold sendMsg
  repeat' first
    | (with_reducible first
        | assumption | apply putMsg_k)
    | (refine KeepsAt.of ?_ rfl rfl rfl rfl) | (simp only [Keeps.fields]) | split

theorem sendWaiting_k {s0 : State} (i : Nat) : ∀ (n : Nat) (s : State), Keeps s0 s → Keeps s0 (sendWaiting i n s)
  | 0, _, h => h
  | k + 1, s, h => by
    unfold sendWaiting
    split
    · exact h
    · split
      · exact h
      · split
        · exact sendWaiting_k i k _ (putMsg_k _ _ _ _ _ h)
        · exact h

theorem meter_k {s0 : State} (a0) (a1) (a2) (s : State) (h : Keeps s0 s) :
    Keeps s0 (meter a0 a1 a2 s) := by
  unfold meter
  repeat' first
    | (with_reducible first
        | assumption | apply updSlice_k)
    | (refine KeepsAt.of ?_ rfl rfl rfl rfl) | (simp only [Keeps.fields]) | (dsimp only) | split

theorem meterRefused_k {s0 : State} (a0) (a1) (s : State) (h : Keeps s0 s) :
    Keeps s0 (meterRefused a0 a1 s) := by
  unfold meterRefused
  repeat' first
    | (with_reducible first
        | assumption | apply meter_k)

theorem meterIn_k {s0 : State} (a0) (a1) (a2) (s : State) (h : Keeps s0 s) :
    Keeps s0 (meterIn a0 a1 a2 s) := by
  unfold meterIn
  repeat' first
    | (with_reducible first
        | assumption | apply meter_k)

theorem meterDone_k {s0 : State} (a0) (a1) (a2) (a3) (a4) (s : State) (h : Keeps s0 s) :
    Keeps s0 (meterDone a0 a1 a2 a3 a4 s) := by
  unfold meterDone
  repeat' first
    | (with_reducible first
        | assumption | apply meter_k)

theorem meterSkipped_k {s0 : State} (a0) (a1) (s : State) (h : Keeps s0 s) :
    Keeps s0 (meterSkipped a0 a1 s) := by
  unfold meterSkipped
  repeat' first
    | (with_reducible first
        | assumption | apply meter_k)

end Sys2Proof.Machine
end

