-- ==== Sys2Proof/Laws/KeepsC.lean ====
section
/-! SUPPORT. What the path of a request keeps. -/

namespace Sys2Proof.Machine

-- Requests --------------------------------------------------------------------------------------------

theorem pasidRefuse_k {s0 : State} (a0) (a1) (s : State) (h : Keeps s0 s) :
    Keeps s0 (pasidRefuse a0 a1 s) := by
  unfold pasidRefuse
  repeat' first
    | (with_reducible first
        | assumption | apply logEvent_k)
    | (refine KeepsAt.of ?_ rfl rfl rfl rfl) | (simp only [Keeps.fields])

theorem doorbellInvalid_k {s0 : State} (a0) (a1) (s : State) (h : Keeps s0 s) :
    Keeps s0 (doorbellInvalid a0 a1 s) := by
  unfold doorbellInvalid
  repeat' with_reducible first
    | assumption | apply logEvent_k

theorem execSqTailDoorbell_k {s0 : State} (a0) (s : State) (h : Keeps s0 s) :
    KeepsRes s0 (execSqTailDoorbell a0 s) := by
  unfold execSqTailDoorbell
  repeat' first
    | (with_reducible first
        | assumption | apply setQueue_k | apply pasidRefuse_k | apply doorbellInvalid_k | apply KeepsRes.next)
    | (refine KeepsAt.of ?_ rfl rfl rfl rfl) | (simp only [Keeps.fields]) | (dsimp only) | split

theorem execCqHeadDoorbell_k {s0 : State} (a0) (s : State) (h : Keeps s0 s) :
    KeepsRes s0 (execCqHeadDoorbell a0 s) := by
  unfold execCqHeadDoorbell
  repeat' first
    | (with_reducible first
        | assumption | apply setQueue_k | apply pasidRefuse_k | apply doorbellInvalid_k | apply KeepsRes.next)
    | (refine KeepsAt.of ?_ rfl rfl rfl rfl) | (dsimp only) | (dsimp only) | split

theorem execPasidUnmapped_k {s0 : State} (a0) (a1) (a2) (s : State) (h : Keeps s0 s) :
    KeepsRes s0 (execPasidUnmapped a0 a1 a2 s) := by
  unfold execPasidUnmapped
  repeat' first
    | (with_reducible first
        | assumption | apply pasidRefuse_k | apply emit_k | apply KeepsRes.next)
    | (dsimp only) | split

theorem trimOrder_k {s0 : State} (a0) (s : State) (h : Keeps s0 s) :
    Keeps s0 (trimOrder a0 s) := by
  unfold trimOrder
  repeat' first
    | (with_reducible assumption)
    | (refine KeepsAt.of ?_ rfl rfl rfl rfl) | (simp only [Keeps.fields]) | (dsimp only) | split

theorem execDescriptorFetch_k {s0 : State} (s : State) (h : Keeps s0 s) :
    KeepsRes s0 (execDescriptorFetch s) := by
  unfold execDescriptorFetch
  repeat' first
    | (with_reducible first
        | assumption | apply setQueue_k | apply emit_k | apply trimOrder_k | apply updSlice_k | apply KeepsRes.next)
    | (refine KeepsAt.of ?_ rfl rfl rfl rfl) | (dsimp only) | (dsimp only) | split

theorem pauseCheck_k {s0 : State} (a0) (a1) (s : State) (h : Keeps s0 s) :
    Keeps s0 (pauseCheck a0 a1 s) := by
  unfold pauseCheck
  repeat' first
    | (with_reducible first
        | assumption | apply setQueue_k)
    | (refine KeepsAt.of ?_ rfl rfl rfl rfl) | (dsimp only) | (dsimp only) | split

theorem addReq_k {s0 : State} (a0) (s : State) (h : Keeps s0 s) :
    Keeps s0 (addReq a0 s) := by
  unfold addReq
  repeat' first
    | (with_reducible assumption)
    | (refine KeepsAt.of ?_ rfl rfl rfl rfl) | (simp only [Keeps.fields])

theorem takeDescriptor_k {s0 : State} (a0) (a1) (a2) (s : State) (h : Keeps s0 s) :
    Keeps s0 (takeDescriptor a0 a1 a2 s) := by
  unfold takeDescriptor
  repeat' first
    | (with_reducible first
        | assumption | apply arriveBusy_k | apply emit_k | apply addReq_k)
    | (refine KeepsAt.of ?_ rfl rfl rfl rfl) | (dsimp only) | (dsimp only) | split

theorem execDescriptorArrival_k {s0 : State} (a0) (a1) (a2) (s : State) (h : Keeps s0 s) :
    KeepsRes s0 (execDescriptorArrival a0 a1 a2 s) := by
  unfold execDescriptorArrival
  repeat' first
    | (with_reducible first
        | assumption | apply setQueue_k | apply logEvent_k | apply takeDescriptor_k | apply pauseCheck_k
        | apply updSlice_k | apply KeepsRes.next | (refine Keeps.foldl (fun t a ht => ?_) _ _ ?_))
    | (refine KeepsAt.of ?_ rfl rfl rfl rfl) | (dsimp only) | (dsimp only) | split

theorem execLandingRoomFreed_k {s0 : State} (s : State) (h : Keeps s0 s) :
    KeepsRes s0 (execLandingRoomFreed s) := by
  unfold execLandingRoomFreed
  repeat' first
    | (with_reducible first
        | assumption | apply updReq_k | apply emit_k | apply KeepsRes.next)
    | (refine KeepsAt.of ?_ rfl rfl rfl rfl) | (dsimp only) | (dsimp only) | split

theorem countLate_k {s0 : State} (a0) (s : State) (h : Keeps s0 s) :
    Keeps s0 (countLate a0 s) := by
  unfold countLate
  repeat' first
    | (with_reducible assumption)
    | (refine KeepsAt.of ?_ rfl rfl rfl rfl) | (simp only [Keeps.fields]) | split

theorem writeHost_k {s0 : State} (a0) (a1) (a2) (s : State) (h : Keeps s0 s) :
    Keeps s0 (writeHost a0 a1 a2 s) := by
  unfold writeHost
  repeat' first
    | (with_reducible first
        | assumption | apply setQueue_k | apply sendMsix_k | apply countLate_k | apply emit_k | apply dropReq_k)
    | (refine KeepsAt.of ?_ rfl rfl rfl rfl) | (dsimp only) | (dsimp only) | split

theorem writeResponse_k {s0 : State} (a0) (a1) (a2) (s : State) (h : Keeps s0 s) :
    Keeps s0 (writeResponse a0 a1 a2 s) := by
  unfold writeResponse
  repeat' first
    | (with_reducible first
        | assumption | apply sendMsg_k | apply countLate_k | apply dropReq_k)

theorem tryWrite_k {s0 : State} (a0) (s : State) (h : Keeps s0 s) :
    Keeps s0 (tryWrite a0 s) := by
  unfold tryWrite
  repeat' first
    | (with_reducible first
        | assumption | apply writeHost_k | apply writeResponse_k)
    | split

theorem flushWaiting_k {s0 : State} (s : State) (h : Keeps s0 s) :
    Keeps s0 (flushWaiting s) := by
  unfold flushWaiting
  repeat' first
    | (with_reducible first
        | assumption | apply tryWrite_k | (refine Keeps.foldl (fun t a ht => ?_) _ _ ?_))

theorem clearContexts_k {s0 : State} (a0) (s : State) (h : Keeps s0 s) :
    Keeps s0 (clearContexts a0 s) := by
  unfold clearContexts
  repeat' first
    | (with_reducible assumption)
    | (refine KeepsAt.of ?_ rfl rfl rfl rfl) | (simp only [Keeps.fields])

theorem deadlineCheck_k {s0 : State} (a0) (s : State) (h : Keeps s0 s) :
    Keeps s0 (deadlineCheck a0 s) := by
  unfold deadlineCheck
  repeat' first
    | (with_reducible first
        | assumption | apply logEvent_k)
    | (dsimp only) | split

theorem meterEnd_k {s0 : State} (a0) (a1) (s : State) (h : Keeps s0 s) :
    Keeps s0 (meterEnd a0 a1 s) := by
  unfold meterEnd
  repeat' first
    | (with_reducible first
        | assumption | apply meterDone_k | apply addBusy_k | apply draw_k
        | (refine Keeps.ofPair (by assumption) ?_) | apply meterSkipped_k)
    | (refine KeepsAt.of ?_ rfl rfl rfl rfl) | (simp only [Keeps.fields]) | (dsimp only) | split

theorem countReleased_k {s0 : State} (a0) (a1) (s : State) (h : Keeps s0 s) :
    Keeps s0 (countReleased a0 a1 s) := by
  unfold countReleased
  repeat' first
    | (with_reducible assumption)
    | (refine KeepsAt.of ?_ rfl rfl rfl rfl) | (simp only [Keeps.fields])

theorem countBurned_k {s0 : State} (a0) (a1) (s : State) (h : Keeps s0 s) :
    Keeps s0 (countBurned a0 a1 s) := by
  unfold countBurned
  repeat' first
    | (with_reducible assumption)
    | (refine KeepsAt.of ?_ rfl rfl rfl rfl) | (simp only [Keeps.fields]) | split

theorem finish_k {s0 : State} (a0) (a1) (s : State) (h : Keeps s0 s) :
    Keeps s0 (finish a0 a1 s) := by
  unfold finish
  repeat' first
    | (with_reducible first
        | assumption | apply dropWork_k | apply updReq_k | apply settleApprovals_k | apply deadlineCheck_k
        | apply countReleased_k | apply dropCalls_k | apply tryWrite_k | apply countBurned_k | apply meterEnd_k
        | apply pauseCheck_k | apply clearContexts_k | apply parkAfter_k)
    | (refine KeepsAt.of ?_ rfl rfl rfl rfl) | (dsimp only) | (dsimp only) | split

theorem endReq_k {s0 : State} (a0) (a1) (a2) (s : State) (h : Keeps s0 s) :
    Keeps s0 (endReq a0 a1 a2 s) := by
  unfold endReq
  repeat' with_reducible first
    | assumption | apply finish_k

theorem assignSeq_k {s0 : State} (a0) (a1) (s : State) (h : Keeps s0 s) :
    Keeps s0 (assignSeq a0 a1 s) := by
  unfold assignSeq
  repeat' first
    | (with_reducible first
        | assumption | apply updReq_k | apply arriveBusy_k)
    | (refine KeepsAt.of ?_ rfl rfl rfl rfl) | (simp only [Keeps.fields]) | (dsimp only) | split

theorem execSequencerFree_k {s0 : State} (a0) (s : State) (h : Keeps s0 s) :
    KeepsRes s0 (execSequencerFree a0 s) := by
  unfold execSequencerFree
  repeat' first
    | (with_reducible first
        | assumption | apply assignSeq_k | apply KeepsRes.next)
    | split

theorem offerSeq_k {s0 : State} (a0) (s : State) (h : Keeps s0 s) :
    Keeps s0 (offerSeq a0 s) := by
  unfold offerSeq
  repeat' first
    | (with_reducible first
        | assumption | apply assignSeq_k)
    | split

theorem execNonEnsignDispatch_k {s0 : State} (a0) (s : State) (h : Keeps s0 s) :
    KeepsRes s0 (execNonEnsignDispatch a0 s) := by
  unfold execNonEnsignDispatch
  repeat' first
    | (with_reducible first
        | assumption | apply updReq_k | apply emit_k | apply pauseCheck_k | apply KeepsRes.next)
    | (refine KeepsAt.of ?_ rfl rfl rfl rfl) | (dsimp only) | (dsimp only) | split

theorem commitAll_k {s0 : State} (a0) (s : State) (h : Keeps s0 s) :
    Keeps s0 (commitAll a0 s).2 := by
  unfold commitAll
  repeat' first
    | (with_reducible first
        | assumption | apply commitCalls_k )

theorem acceptReq_k {s0 : State} (a0) (a1) (s : State) (h : Keeps s0 s) :
    Keeps s0 (acceptReq a0 a1 s) := by
  unfold acceptReq
  repeat' first
    | (with_reducible first
        | assumption | apply offerSeq_k | apply updReq_k | apply meterIn_k | apply addWork_k | apply commitAll_k
        | (refine Keeps.ofPair (by assumption) ?_) | apply spendToken_k)
    | (refine KeepsAt.of ?_ rfl rfl rfl rfl) | (simp only [Keeps.fields]) | (dsimp only) | split

theorem forwardReq_k {s0 : State} (a0) (a1) (a2) (s : State) (h : Keeps s0 s) :
    Keeps s0 (forwardReq a0 a1 a2 s) := by
  unfold forwardReq
  repeat' first
    | (with_reducible first
        | assumption | apply offerSeq_k | apply updReq_k | apply addWork_k | apply spendToken_k)
    | (refine KeepsAt.of ?_ rfl rfl rfl rfl) | (simp only [Keeps.fields]) | (dsimp only) | split

theorem refuseReq_k {s0 : State} (a0) (a1) (a2) (s : State) (h : Keeps s0 s) :
    Keeps s0 (refuseReq a0 a1 a2 s) := by
  unfold refuseReq
  repeat' with_reducible first
    | assumption | apply endReq_k | apply countRefusal_k | apply meterRefused_k

theorem landReq_k {s0 : State} (a0) (a1) (s : State) (h : Keeps s0 s) :
    Keeps s0 (landReq a0 a1 s) := by
  unfold landReq
  repeat' first
    | (with_reducible first
        | assumption | apply updReq_k | apply endReq_k | apply acceptReq_k | apply forwardReq_k | apply refuseReq_k
        | apply noteTrie_k)
    | (refine KeepsAt.of ?_ rfl rfl rfl rfl) | (dsimp only) | (dsimp only) | split

theorem execRequestLand_k {s0 : State} (a0) (a1) (s : State) (h : Keeps s0 s) :
    KeepsRes s0 (execRequestLand a0 a1 s) := by
  unfold execRequestLand
  repeat' first
    | (with_reducible first
        | assumption | apply endReq_k | apply landReq_k | apply KeepsRes.next)
    | split

theorem lostOwner_k {s0 : State} (a0) (s : State) (h : Keeps s0 s) :
    Keeps s0 (lostOwner a0 s) := by
  unfold lostOwner
  repeat' first
    | (with_reducible first
        | assumption | apply finish_k)
    | (refine KeepsAt.of ?_ rfl rfl rfl rfl) | (simp only [Keeps.fields])

theorem execRequestForward_k {s0 : State} (a0) (s : State) (h : Keeps s0 s) :
    KeepsRes s0 (execRequestForward a0 s) := by
  unfold execRequestForward
  repeat' first
    | (with_reducible first
        | assumption | apply dropWork_k | apply sendMsg_k | apply updReq_k | apply parkAfter_k | apply lostOwner_k
        | apply KeepsRes.next)
    | (refine KeepsAt.of ?_ rfl rfl rfl rfl) | (simp only [Keeps.fields]) | (dsimp only) | split

theorem wakeForward_k {s0 : State} (s : State) (h : Keeps s0 s) :
    Keeps s0 (wakeForward s) := by
  unfold wakeForward
  repeat' first
    | (with_reducible first
        | assumption | apply offerSeq_k | apply updReq_k)
    | (refine KeepsAt.of ?_ rfl rfl rfl rfl) | (simp only [Keeps.fields]) | (dsimp only) | split

end Sys2Proof.Machine
end

