-- ==== Sys2Proof/Laws/KeepsD.lean ====
section
/-! SUPPORT. What every request command keeps. -/

namespace Sys2Proof.Machine

-- Commands --------------------------------------------------------------------------------------------

theorem uncache_k {s0 : State} (a0) (a1) (s : State) (h : Keeps s0 s) :
    Keeps s0 (uncache a0 a1 s) := by
  unfold uncache
  repeat' first
    | (with_reducible assumption)
    | (refine KeepsAt.of ?_ rfl rfl rfl rfl) | (simp only [Keeps.fields])

theorem cacheTouch_k {s0 : State} (a0) (a1) (s : State) (h : Keeps s0 s) :
    Keeps s0 (cacheTouch a0 a1 s) := by
  unfold cacheTouch
  repeat' first
    | (with_reducible assumption)
    | (refine KeepsAt.of ?_ rfl rfl rfl rfl) | (simp only [Keeps.fields])

/-- The state of a key fetch. -/
structure KeepsGot (s : State) (g : KeyGot) : Prop where
  /-- The record fetched. -/
  ok : ∀ k t, g = .ok k t → Keeps s t
  /-- The fetch failed. -/
  fail : ∀ a b t, g = .fail a b t → Keeps s t

theorem KeepsGot.ofOk {s t : State} {k : KeyRec} (h : Keeps s t) : KeepsGot s (.ok k t) := by
  refine ⟨fun _ _ e => ?_, fun _ _ _ e => ?_⟩ <;> cases e
  exact h

theorem KeepsGot.ofFail {s t : State} {a b : Nat} (h : Keeps s t) : KeepsGot s (.fail a b t) := by
  refine ⟨fun _ _ e => ?_, fun _ _ _ e => ?_⟩ <;> cases e
  exact h

theorem loadRecord_k {s0 : State} (r w e) (s : State) (h : Keeps s0 s) : KeepsGot s0 (loadRecord r w e s) := by
  unfold loadRecord
  repeat' first
    | (with_reducible first
        | assumption | apply KeepsGot.ofOk | apply KeepsGot.ofFail | apply vaultUncorrectable_k | apply mpuRefuse_k
        | apply logEvent_k | apply cacheTouch_k)
    | (dsimp only) | split

theorem fetchKey_k {s0 : State} (r w x) (s : State) (h : Keeps s0 s) : KeepsGot s0 (fetchKey r w x s) := by
  unfold fetchKey
  repeat' first
    | (with_reducible first
        | assumption | apply KeepsGot.ofOk | apply KeepsGot.ofFail | apply loadRecord_k | apply cacheTouch_k)
    | (refine KeepsAt.of ?_ rfl rfl rfl rfl) | (simp only [Keeps.fields]) | (dsimp only) | split

/-- The state of the fetch of a row's keys. -/
structure KeepsKeys (s : State) (x : (Keys × State) ⊕ (Nat × Nat × State)) : Prop where
  /-- The keys fetched. -/
  ok : ∀ k t, x = .inl (k, t) → Keeps s t
  /-- A fetch failed. -/
  fail : ∀ a b t, x = .inr (a, b, t) → Keeps s t

theorem KeepsKeys.ofOk {s t : State} {k : Keys} (h : Keeps s t) : KeepsKeys s (.inl (k, t)) := by
  refine ⟨fun _ _ e => ?_, fun _ _ _ e => ?_⟩ <;> cases e
  exact h

theorem KeepsKeys.ofFail {s t : State} {a b : Nat} (h : Keeps s t) : KeepsKeys s (.inr (a, b, t)) := by
  refine ⟨fun _ _ e => ?_, fun _ _ _ e => ?_⟩ <;> cases e
  exact h

theorem fetchKeys_k {s0 : State} (c : CatRow) (r : Req) (s : State) (h : Keeps s0 s) : KeepsKeys s0 (fetchKeys c r s) := by
  have two : ∀ (t : State) (f : KeyRec → Keys), Keeps s0 t →
      KeepsKeys s0 (match fetchKey r 2 r.desc.keyB.toNat t with
        | .ok k2 u => .inl (f k2, u)
        | .fail st x u => .inr (st, x, u)) := by
    intro t f ht
    have g := fetchKey_k r 2 r.desc.keyB.toNat t ht
    split
    · exact .ofOk (g.ok _ _ ‹_›)
    · exact .ofFail (g.fail _ _ _ ‹_›)
  unfold fetchKeys
  dsimp only
  split
  · rename_i e
    split at e <;> simp only [Sum.inl.injEq, reduceCtorEq] at e
    exact .ofFail ((fetchKey_k r 1 _ s h).fail _ _ _ e)
  · rename_i k t e
    have ht : Keeps s0 t := by
      split at e <;> simp only [Sum.inl.injEq, reduceCtorEq] at e
      exact (fetchKey_k r 1 _ s h).ok _ _ e
    split
    · exact two t (fun k2 => ⟨some k, some k2⟩) ht
    · exact .ofOk ht
  · rename_i t e
    split at e <;> simp only [Sum.inr.injEq, reduceCtorEq] at e
    subst e
    split
    · exact two s (fun k2 => ⟨none, some k2⟩) h
    · exact .ofOk h

theorem keystoreFull_k {s0 : State} (a0) (s : State) (h : Keeps s0 s) :
    Keeps s0 (keystoreFull a0 s) := by
  unfold keystoreFull
  repeat' first
    | (with_reducible first
        | assumption | apply logEvent_k | apply raise_k)
    | (refine KeepsAt.of ?_ rfl rfl rfl rfl) | (simp only [Keeps.fields]) | (dsimp only) | split

theorem noteChange_k {s0 : State} (a0) (a1) (a2) (a3) (s : State) (h : Keeps s0 s) :
    Keeps s0 (noteChange a0 a1 a2 a3 s) := by
  unfold noteChange
  repeat' first
    | (with_reducible assumption)
    | (refine KeepsAt.of ?_ rfl rfl rfl rfl) | (simp only [Keeps.fields]) | (dsimp only) | split

theorem provisional_k {s0 : State} (a0) (a1) (a2) (a3) (s : State) (h : Keeps s0 s) :
    Keeps s0 (provisional a0 a1 a2 a3 s) := by
  unfold provisional
  repeat' first
    | (with_reducible assumption)
    | (refine KeepsAt.of ?_ rfl rfl rfl rfl) | (simp only [Keeps.fields]) | (dsimp only) | split

/-- The state of a new record's storing. -/
structure KeepsStore (s : State) (x : (Bool × State) ⊕ (Nat × Nat × State)) : Prop where
  /-- Stored. -/
  ok : ∀ b t, x = .inl (b, t) → Keeps s t
  /-- Not stored. -/
  fail : ∀ a b t, x = .inr (a, b, t) → Keeps s t

theorem KeepsStore.ofOk {s t : State} {b : Bool} (h : Keeps s t) : KeepsStore s (.inl (b, t)) := by
  refine ⟨fun _ _ e => ?_, fun _ _ _ e => ?_⟩ <;> cases e
  exact h

theorem KeepsStore.ofFail {s t : State} {a b : Nat} (h : Keeps s t) : KeepsStore s (.inr (a, b, t)) := by
  refine ⟨fun _ _ e => ?_, fun _ _ _ e => ?_⟩ <;> cases e
  exact h

theorem setColours_cells : ∀ (n : Nat) (m : Mem) (l c : Nat), (setColours m l c n).cells = m.cells
  | 0, _, _, _ => rfl
  | n + 1, m, l, c => setColours_cells n (setColour m l c) (l + 1) c

theorem colourRecord_cells (k : KeyRec) (l : Nat) (m : Mem) : (colourRecord k l m).cells = m.cells := by
  unfold colourRecord
  simp only [setColours_cells]

theorem storeKey_k {s0 : State} (r k) (s : State) (h : Keeps s0 s) : KeepsStore s0 (storeKey r k s) := by
  unfold storeKey
  repeat' first
    | (with_reducible first
        | assumption | apply KeepsStore.ofOk | apply KeepsStore.ofFail | apply logEvent_k | apply keystoreFull_k
        | apply emInsert_k | apply provisional_k | apply noteChange_k | (refine Keeps.ofPair (by assumption) ?_))
    | (refine KeepsAt.of ?_ rfl rfl (colourRecord_cells _ _ _) rfl) | (refine KeepsAt.of ?_ rfl rfl rfl rfl)
    | (simp only [Keeps.fields]) | (dsimp only) | split

theorem awaitCommit_k {s0 : State} (a0) (a1) (a2) (s : State) (h : Keeps s0 s) :
    Keeps s0 (awaitCommit a0 a1 a2 s) := by
  unfold awaitCommit
  repeat' first
    | (with_reducible first
        | assumption | apply updReq_k | apply clearContexts_k)

theorem conclude_k {s0 : State} (r a) (s : State) (h : Keeps s0 s) : Keeps s0 (conclude r a s) := by
  unfold conclude
  split
  · exact awaitCommit_k _ _ _ _ h
  · split
    · exact clearContexts_k _ _ (updReq_k _ _ _ h)
    · exact finish_k _ _ _ h
  · split
    · exact finish_k _ _ _ h
    · split
      · exact finish_k _ _ _ ((storeKey_k r _ s h).fail _ _ _ ‹_›)
      · exact awaitCommit_k _ _ _ _ ((storeKey_k r _ s h).ok _ _ ‹_›)
      · exact finish_k _ _ _ (updReq_k _ _ _ ((storeKey_k r _ s h).ok _ _ ‹_›))

theorem takeContext_k {s0 : State} (a0) (a1) (s : State) (h : Keeps s0 s) :
    Keeps s0 (takeContext a0 a1 s) := by
  unfold takeContext
  repeat' first
    | (with_reducible first
        | assumption | apply updUnit_k)
    | (refine KeepsAt.of ?_ rfl rfl rfl rfl) | (dsimp only) | (dsimp only) | split

theorem detach_k {s0 : State} (a0) (a1) (a2) (s : State) (h : Keeps s0 s) :
    Keeps s0 (detach a0 a1 a2 s) := by
  unfold detach
  repeat' first
    | (with_reducible first
        | assumption | apply updReq_k | apply takeContext_k)

theorem countOps_k {s0 : State} (a0) (s : State) (h : Keeps s0 s) :
    Keeps s0 (countOps a0 s) := by
  unfold countOps
  repeat' first
    | (with_reducible first
        | assumption | (refine Keeps.foldl (fun t a ht => ?_) _ _ ?_))
    | (refine KeepsAt.of ?_ rfl rfl rfl rfl) | (simp only [Keeps.fields])

theorem drawCalls_k {s0 s t : State} {r : Req} (e : drawCalls r s = .go t) (h : Keeps s0 s) : Keeps s0 t := by
  unfold drawCalls at e
  dsimp only at e
  split at e
  · cases e
    exact updReq_k _ _ _ (makeCalls_k _ _ h)
  · split at e
    · cases e
    · split at e
      · split at e <;> cases e
      · split at e <;> cases e
        exact (rrCalls_k _ _ _ ((rrCalls_k _ _ _ h).all _ ‹_›)).all _ ‹_›

/-- A calculation that keeps what every operation keeps. -/
structure KeepsCalc (f : Calc) : Prop where
  /-- Its state. -/
  all : ∀ s0 s r k n, Keeps s0 s → Keeps s0 (f s r k n).2

theorem pureCalc_k (f) : KeepsCalc (pureCalc f) := ⟨fun _ _ _ _ _ h => h⟩

theorem runCalc_k {s0 : State} (f : Calc) (hf : KeepsCalc f) (r k) (s : State) (h : Keeps s0 s) : Keeps s0 (runCalc f r k s) := by
  unfold runCalc
  have a : Keeps s0 { s with freeCtr := s.freeCtr + drawsPerCommand } := by
    simp only [Keeps.fields]
    exact .of h rfl rfl rfl rfl
  dsimp only
  have b := countOps_k (f { s with freeCtr := s.freeCtr + drawsPerCommand } r k s.freeCtr).1.ops _ (hf.all _ _ r k s.freeCtr a)
  split
  · exact endReq_k _ _ _ _ a
  · split
    · exact detach_k _ _ _ _ b
    · exact conclude_k _ _ _ b

theorem runKeyed_k {s0 : State} (p : Pre) (f : Calc) (hf : KeepsCalc f) (r k) (s : State) (h : Keeps s0 s) :
    Keeps s0 (runKeyed p f r k s) := by
  unfold runKeyed
  split
  · exact endReq_k _ _ _ _ h
  · split
    · exact endReq_k _ _ _ _ h
    · split
      · exact runCalc_k f hf r k _ (drawCalls_k ‹_› h)
      · exact updReq_k _ _ _ h
      · exact updReq_k _ _ _ h
      · exact endReq_k _ _ _ _ h

theorem runReq_k {s0 : State} (p : Pre) (f : Calc) (hf : KeepsCalc f) (r u) (s : State) (h : Keeps s0 s) :
    Keeps s0 (runReq p f r u s) := by
  unfold runReq
  split
  · exact endReq_k _ _ _ _ (spUncorrectable_k _ _ h)
  · exact endReq_k _ _ _ _ h
  · have g := fetchKeys_k ‹CatRow› r s h
    split
    · exact endReq_k _ _ _ _ (g.fail _ _ _ ‹_›)
    · have t := g.ok _ _ ‹_›
      split
      · exact endReq_k _ _ _ _ t
      · exact runKeyed_k p f hf r _ _ t

theorem runCmd_k {s0 : State} (c : Nat) (p : Pre) (f : Calc) (hf : KeepsCalc f) (rid u) (s : State) (h : Keeps s0 s) :
    KeepsRes s0 (runCmd c p f rid u s) := by
  unfold runCmd
  split
  · exact .next h
  · split
    · exact .next (runReq_k p f hf _ u s h)
    · exact .next h

theorem requeue_k {s0 : State} (a0) (s : State) (h : Keeps s0 s) :
    Keeps s0 (requeue a0 s) := by
  unfold requeue
  repeat' first
    | (with_reducible first
        | assumption | apply offerSeq_k | apply updReq_k)

theorem execBlindWaitResume_k {s0 : State} (s : State) (h : Keeps s0 s) :
    KeepsRes s0 (execBlindWaitResume s) := by
  unfold execBlindWaitResume
  repeat' first
    | (with_reducible first
        | assumption | apply requeue_k | apply KeepsRes.next)
    | (dsimp only) | split

theorem execRngWaitResume_k {s0 : State} (s : State) (h : Keeps s0 s) :
    KeepsRes s0 (execRngWaitResume s) := by
  unfold execRngWaitResume
  repeat' first
    | (with_reducible first
        | assumption | apply endReq_k | apply requeue_k | apply KeepsRes.next)
    | (dsimp only) | split

theorem execCoreCompletionInterrupt_k {s0 : State} (a0) (a1) (s : State) (h : Keeps s0 s) :
    KeepsRes s0 (execCoreCompletionInterrupt a0 a1 s) := by
  unfold execCoreCompletionInterrupt
  repeat' first
    | (with_reducible first
        | assumption | apply updReq_k | apply KeepsRes.next)
    | (refine KeepsAt.of ?_ rfl rfl rfl rfl) | (simp only [Keeps.fields]) | (dsimp only) | split

theorem execReleaseStep_k {s0 : State} (a0) (s : State) (h : Keeps s0 s) :
    KeepsRes s0 (execReleaseStep a0 s) := by
  unfold execReleaseStep
  repeat' first
    | (with_reducible first
        | assumption | apply conclude_k | apply KeepsRes.next)
    | (refine KeepsAt.of ?_ rfl rfl rfl rfl) | (simp only [Keeps.fields]) | (dsimp only) | split

end Sys2Proof.Machine
end

