-- ==== Sys2Proof/Laws/KeepsE.lean ====
section
/-! SUPPORT. What the request commands keep. -/

namespace Sys2Proof.Machine

-- Payment ---------------------------------------------------------------------------------------------

theorem checkMismatch_k {s0 : State} (a0) (a1) (a2) (s : State) (h : Keeps s0 s) :
    Keeps s0 (checkMismatch a0 a1 a2 s) := by
  unfold checkMismatch
  repeat' first
    | (with_reducible first
        | assumption | apply logEvent_k | apply updUnit_k | apply uncache_k)

theorem withConfirm_k (f : Calc) (hf : KeepsCalc f) : KeepsCalc (withConfirm f) := by
  refine ⟨fun s0 s r k n h => ?_⟩
  unfold withConfirm
  dsimp only
  split
  · exact checkMismatch_k _ _ _ _ h
  · split
    · exact checkMismatch_k _ _ _ _ h
    · exact hf.all _ _ _ _ _ h

theorem calcTranslate_k : KeepsCalc calcTranslate := withConfirm_k _ (pureCalc_k _)

theorem execPinTranslate_k {s0 : State} (a0) (a1) (s : State) (h : Keeps s0 s) : KeepsRes s0 (execPinTranslate a0 a1 s) :=
  runCmd_k _ _ _ calcTranslate_k _ _ _ h

theorem execPinVerifyPvv_k {s0 : State} (a0) (a1) (s : State) (h : Keeps s0 s) : KeepsRes s0 (execPinVerifyPvv a0 a1 s) :=
  runCmd_k _ _ _ (withConfirm_k _ (pureCalc_k _)) _ _ _ h

theorem execPinVerifyOffset_k {s0 : State} (a0) (a1) (s : State) (h : Keeps s0 s) : KeepsRes s0 (execPinVerifyOffset a0 a1 s) :=
  runCmd_k _ _ _ (withConfirm_k _ (pureCalc_k _)) _ _ _ h

theorem execPinVerifyCompare_k {s0 : State} (a0) (a1) (s : State) (h : Keeps s0 s) : KeepsRes s0 (execPinVerifyCompare a0 a1 s) :=
  runCmd_k _ _ _ (withConfirm_k _ (pureCalc_k _)) _ _ _ h

theorem execPvvGenerate_k {s0 : State} (a0) (a1) (s : State) (h : Keeps s0 s) : KeepsRes s0 (execPvvGenerate a0 a1 s) :=
  runCmd_k _ _ _ (withConfirm_k _ (pureCalc_k _)) _ _ _ h

theorem execOffsetGenerate_k {s0 : State} (a0) (a1) (s : State) (h : Keeps s0 s) : KeepsRes s0 (execOffsetGenerate a0 a1 s) :=
  runCmd_k _ _ _ (withConfirm_k _ (pureCalc_k _)) _ _ _ h

theorem execCvvVerify_k {s0 : State} (a0) (a1) (s : State) (h : Keeps s0 s) : KeepsRes s0 (execCvvVerify a0 a1 s) :=
  runCmd_k _ _ _ (withConfirm_k _ (pureCalc_k _)) _ _ _ h

theorem execCvvGenerate_k {s0 : State} (a0) (a1) (s : State) (h : Keeps s0 s) : KeepsRes s0 (execCvvGenerate a0 a1 s) :=
  runCmd_k _ _ _ (withConfirm_k _ (pureCalc_k _)) _ _ _ h

theorem execArqcVerify_k {s0 : State} (a0) (a1) (s : State) (h : Keeps s0 s) : KeepsRes s0 (execArqcVerify a0 a1 s) :=
  runCmd_k _ _ _ (withConfirm_k _ (pureCalc_k _)) _ _ _ h

theorem execArqcVerifyArpc_k {s0 : State} (a0) (a1) (s : State) (h : Keeps s0 s) : KeepsRes s0 (execArqcVerifyArpc a0 a1 s) :=
  runCmd_k _ _ _ (withConfirm_k _ (pureCalc_k _)) _ _ _ h

theorem execArpcGenerate_k {s0 : State} (a0) (a1) (s : State) (h : Keeps s0 s) : KeepsRes s0 (execArpcGenerate a0 a1 s) :=
  runCmd_k _ _ _ (withConfirm_k _ (pureCalc_k _)) _ _ _ h

theorem execScriptMac_k {s0 : State} (a0) (a1) (s : State) (h : Keeps s0 s) : KeepsRes s0 (execScriptMac a0 a1 s) :=
  runCmd_k _ _ _ (withConfirm_k _ (pureCalc_k _)) _ _ _ h

theorem execScriptEncrypt_k {s0 : State} (a0) (a1) (s : State) (h : Keeps s0 s) : KeepsRes s0 (execScriptEncrypt a0 a1 s) :=
  runCmd_k _ _ _ (withConfirm_k _ (pureCalc_k _)) _ _ _ h

theorem execMacGenerate_k {s0 : State} (a0) (a1) (s : State) (h : Keeps s0 s) : KeepsRes s0 (execMacGenerate a0 a1 s) :=
  runCmd_k _ _ _ (withConfirm_k _ (pureCalc_k _)) _ _ _ h

theorem execMacVerify_k {s0 : State} (a0) (a1) (s : State) (h : Keeps s0 s) : KeepsRes s0 (execMacVerify a0 a1 s) :=
  runCmd_k _ _ _ (withConfirm_k _ (pureCalc_k _)) _ _ _ h

-- KeyBlock --------------------------------------------------------------------------------------------

theorem calcImport_k : KeepsCalc calcImport := pureCalc_k _

theorem execKeyImport_k {s0 : State} (a0) (a1) (s : State) (h : Keeps s0 s) : KeepsRes s0 (execKeyImport a0 a1 s) :=
  runCmd_k _ _ _ calcImport_k _ _ _ h

theorem calcExport_k : KeepsCalc calcExport := by
  refine ⟨fun s0 s r k n h => ?_⟩
  unfold calcExport
  repeat' first
    | (with_reducible first
        | assumption | apply updReq_k | (refine reserveApprovals_k (by assumption) ?_))
    | (dsimp only) | split

theorem execKeyExport_k {s0 : State} (a0) (a1) (s : State) (h : Keeps s0 s) : KeepsRes s0 (execKeyExport a0 a1 s) :=
  runCmd_k _ _ _ calcExport_k _ _ _ h

theorem execDukptPinTranslate_k {s0 : State} (a0) (a1) (s : State) (h : Keeps s0 s) : KeepsRes s0 (execDukptPinTranslate a0 a1 s) :=
  runCmd_k _ _ _ (withConfirm_k _ (pureCalc_k _)) _ _ _ h

theorem execDukptMacVerify_k {s0 : State} (a0) (a1) (s : State) (h : Keeps s0 s) : KeepsRes s0 (execDukptMacVerify a0 a1 s) :=
  runCmd_k _ _ _ (withConfirm_k _ (pureCalc_k _)) _ _ _ h

theorem execDukptDecrypt_k {s0 : State} (a0) (a1) (s : State) (h : Keeps s0 s) : KeepsRes s0 (execDukptDecrypt a0 a1 s) :=
  runCmd_k _ _ _ (withConfirm_k _ (pureCalc_k _)) _ _ _ h

theorem execDukptIkExport_k {s0 : State} (a0) (a1) (s : State) (h : Keeps s0 s) : KeepsRes s0 (execDukptIkExport a0 a1 s) :=
  runCmd_k _ _ _ (withConfirm_k _ (pureCalc_k _)) _ _ _ h

-- Cipher ----------------------------------------------------------------------------------------------

theorem calcEncrypt_k : KeepsCalc calcEncrypt := pureCalc_k _

theorem execEncrypt_k {s0 : State} (a0) (a1) (s : State) (h : Keeps s0 s) : KeepsRes s0 (execEncrypt a0 a1 s) :=
  runCmd_k _ _ _ calcEncrypt_k _ _ _ h

theorem execDecrypt_k {s0 : State} (a0) (a1) (s : State) (h : Keeps s0 s) : KeepsRes s0 (execDecrypt a0 a1 s) :=
  runCmd_k _ _ _ (pureCalc_k _) _ _ _ h

theorem execGcmEncrypt_k {s0 : State} (a0) (a1) (s : State) (h : Keeps s0 s) : KeepsRes s0 (execGcmEncrypt a0 a1 s) :=
  runCmd_k _ _ _ (pureCalc_k _) _ _ _ h

theorem execGcmDecrypt_k {s0 : State} (a0) (a1) (s : State) (h : Keeps s0 s) : KeepsRes s0 (execGcmDecrypt a0 a1 s) :=
  runCmd_k _ _ _ (pureCalc_k _) _ _ _ h

theorem execSha256Blocks_k {s0 : State} (a0) (a1) (s : State) (h : Keeps s0 s) : KeepsRes s0 (execSha256Blocks a0 a1 s) :=
  runCmd_k _ _ _ (pureCalc_k _) _ _ _ h

theorem execSha512Blocks_k {s0 : State} (a0) (a1) (s : State) (h : Keeps s0 s) : KeepsRes s0 (execSha512Blocks a0 a1 s) :=
  runCmd_k _ _ _ (pureCalc_k _) _ _ _ h

theorem execKeccakAbsorb_k {s0 : State} (a0) (a1) (s : State) (h : Keeps s0 s) : KeepsRes s0 (execKeccakAbsorb a0 a1 s) :=
  runCmd_k _ _ _ (pureCalc_k _) _ _ _ h

theorem execKeccakSqueeze_k {s0 : State} (a0) (a1) (s : State) (h : Keeps s0 s) : KeepsRes s0 (execKeccakSqueeze a0 a1 s) :=
  runCmd_k _ _ _ (pureCalc_k _) _ _ _ h

theorem execHmacGenerate_k {s0 : State} (a0) (a1) (s : State) (h : Keeps s0 s) : KeepsRes s0 (execHmacGenerate a0 a1 s) :=
  runCmd_k _ _ _ (pureCalc_k _) _ _ _ h

theorem execHmacVerify_k {s0 : State} (a0) (a1) (s : State) (h : Keeps s0 s) : KeepsRes s0 (execHmacVerify a0 a1 s) :=
  runCmd_k _ _ _ (pureCalc_k _) _ _ _ h

theorem execRandom_k {s0 : State} (a0) (a1) (s : State) (h : Keeps s0 s) : KeepsRes s0 (execRandom a0 a1 s) :=
  runCmd_k _ _ _ (pureCalc_k _) _ _ _ h

-- Oryx ------------------------------------------------------------------------------------------------

theorem execRsaSign_k {s0 : State} (a0) (a1) (s : State) (h : Keeps s0 s) : KeepsRes s0 (execRsaSign a0 a1 s) :=
  runCmd_k _ _ _ (pureCalc_k _) _ _ _ h

theorem execRsaVerify_k {s0 : State} (a0) (a1) (s : State) (h : Keeps s0 s) : KeepsRes s0 (execRsaVerify a0 a1 s) :=
  runCmd_k _ _ _ (pureCalc_k _) _ _ _ h

theorem execRsaDecrypt_k {s0 : State} (a0) (a1) (s : State) (h : Keeps s0 s) : KeepsRes s0 (execRsaDecrypt a0 a1 s) :=
  runCmd_k _ _ _ (pureCalc_k _) _ _ _ h

theorem execRsaEncrypt_k {s0 : State} (a0) (a1) (s : State) (h : Keeps s0 s) : KeepsRes s0 (execRsaEncrypt a0 a1 s) :=
  runCmd_k _ _ _ (pureCalc_k _) _ _ _ h

theorem execRsaKeygen_k {s0 : State} (a0) (a1) (s : State) (h : Keeps s0 s) : KeepsRes s0 (execRsaKeygen a0 a1 s) :=
  runCmd_k _ _ _ (pureCalc_k _) _ _ _ h

theorem execEcdsaSign_k {s0 : State} (a0) (a1) (s : State) (h : Keeps s0 s) : KeepsRes s0 (execEcdsaSign a0 a1 s) :=
  runCmd_k _ _ _ (pureCalc_k _) _ _ _ h

theorem execEcdsaVerify_k {s0 : State} (a0) (a1) (s : State) (h : Keeps s0 s) : KeepsRes s0 (execEcdsaVerify a0 a1 s) :=
  runCmd_k _ _ _ (pureCalc_k _) _ _ _ h

theorem execEddsaSign_k {s0 : State} (a0) (a1) (s : State) (h : Keeps s0 s) : KeepsRes s0 (execEddsaSign a0 a1 s) :=
  runCmd_k _ _ _ (pureCalc_k _) _ _ _ h

theorem execEddsaVerify_k {s0 : State} (a0) (a1) (s : State) (h : Keeps s0 s) : KeepsRes s0 (execEddsaVerify a0 a1 s) :=
  runCmd_k _ _ _ (pureCalc_k _) _ _ _ h

theorem execEcdhDerive_k {s0 : State} (a0) (a1) (s : State) (h : Keeps s0 s) : KeepsRes s0 (execEcdhDerive a0 a1 s) :=
  runCmd_k _ _ _ (pureCalc_k _) _ _ _ h

theorem execEcKeygen_k {s0 : State} (a0) (a1) (s : State) (h : Keeps s0 s) : KeepsRes s0 (execEcKeygen a0 a1 s) :=
  runCmd_k _ _ _ (pureCalc_k _) _ _ _ h

theorem execModExp_k {s0 : State} (a0) (a1) (s : State) (h : Keeps s0 s) : KeepsRes s0 (execModExp a0 a1 s) :=
  runCmd_k _ _ _ (pureCalc_k _) _ _ _ h

theorem execModMul_k {s0 : State} (a0) (a1) (s : State) (h : Keeps s0 s) : KeepsRes s0 (execModMul a0 a1 s) :=
  runCmd_k _ _ _ (pureCalc_k _) _ _ _ h

-- Pq --------------------------------------------------------------------------------------------------

theorem execMlkemKeygen_k {s0 : State} (a0) (a1) (s : State) (h : Keeps s0 s) : KeepsRes s0 (execMlkemKeygen a0 a1 s) :=
  runCmd_k _ _ _ (pureCalc_k _) _ _ _ h

theorem execMlkemEncaps_k {s0 : State} (a0) (a1) (s : State) (h : Keeps s0 s) : KeepsRes s0 (execMlkemEncaps a0 a1 s) :=
  runCmd_k _ _ _ (pureCalc_k _) _ _ _ h

theorem execMlkemDecaps_k {s0 : State} (a0) (a1) (s : State) (h : Keeps s0 s) : KeepsRes s0 (execMlkemDecaps a0 a1 s) :=
  runCmd_k _ _ _ (pureCalc_k _) _ _ _ h

theorem execMldsaKeygen_k {s0 : State} (a0) (a1) (s : State) (h : Keeps s0 s) : KeepsRes s0 (execMldsaKeygen a0 a1 s) :=
  runCmd_k _ _ _ (pureCalc_k _) _ _ _ h

theorem iterLimit_k {s0 : State} (a0) (a1) (s : State) (h : Keeps s0 s) :
    Keeps s0 (iterLimit a0 a1 s).2 := by
  unfold iterLimit
  repeat' first
    | (with_reducible first
        | assumption | apply updUnit_k)
    | (refine KeepsAt.of ?_ rfl rfl rfl rfl) | (simp only [Keeps.fields])

theorem limited_k (i : Nat) (f : Calc) (hf : KeepsCalc f) : KeepsCalc (limited i f) := by
  refine ⟨fun s0 s r k n h => ?_⟩
  unfold limited
  split
  · exact iterLimit_k _ _ _ h
  · exact hf.all _ _ _ _ _ h

theorem execMldsaSign_k {s0 : State} (a0) (a1) (a2) (s : State) (h : Keeps s0 s) : KeepsRes s0 (execMldsaSign a0 a1 a2 s) :=
  runCmd_k _ _ _ (limited_k _ _ (pureCalc_k _)) _ _ _ h

theorem execMldsaVerify_k {s0 : State} (a0) (a1) (s : State) (h : Keeps s0 s) : KeepsRes s0 (execMldsaVerify a0 a1 s) :=
  runCmd_k _ _ _ (pureCalc_k _) _ _ _ h

theorem execSlhdsaKeygen_k {s0 : State} (a0) (a1) (s : State) (h : Keeps s0 s) : KeepsRes s0 (execSlhdsaKeygen a0 a1 s) :=
  runCmd_k _ _ _ (pureCalc_k _) _ _ _ h

theorem execSlhdsaSign_k {s0 : State} (a0) (a1) (s : State) (h : Keeps s0 s) : KeepsRes s0 (execSlhdsaSign a0 a1 s) :=
  runCmd_k _ _ _ (pureCalc_k _) _ _ _ h

theorem execSlhdsaVerify_k {s0 : State} (a0) (a1) (s : State) (h : Keeps s0 s) : KeepsRes s0 (execSlhdsaVerify a0 a1 s) :=
  runCmd_k _ _ _ (pureCalc_k _) _ _ _ h

theorem execStatefulKeygen_k {s0 : State} (a0) (a1) (s : State) (h : Keeps s0 s) : KeepsRes s0 (execStatefulKeygen a0 a1 s) :=
  runCmd_k _ _ _ (pureCalc_k _) _ _ _ h

theorem setRecord_k {s0 : State} (a0) (a1) (s : State) (h : Keeps s0 s) :
    Keeps s0 (setRecord a0 a1 s) := by
  unfold setRecord
  repeat' first
    | (with_reducible assumption)
    | (refine KeepsAt.of ?_ rfl rfl rfl rfl) | (simp only [Keeps.fields])

theorem sendDelta_k {s0 : State} (a0) (s : State) (h : Keeps s0 s) :
    Keeps s0 (sendDelta a0 s) := by
  unfold sendDelta
  repeat' first
    | (with_reducible first
        | assumption | apply sendMsg_k)
    | (refine KeepsAt.of ?_ rfl rfl rfl rfl) | (simp only [Keeps.fields]) | (dsimp only) | split

theorem askBlock_k {s0 : State} (a0) (s : State) (h : Keeps s0 s) :
    Keeps s0 (askBlock a0 s) := by
  unfold askBlock
  repeat' first
    | (with_reducible first
        | assumption | apply sendDelta_k)
    | (refine KeepsAt.of ?_ rfl rfl rfl rfl) | (simp only [Keeps.fields]) | (dsimp only) | split

theorem useLimit_k {s0 : State} (a0) (a1) (a2) (s : State) (h : Keeps s0 s) :
    Keeps s0 (useLimit a0 a1 a2 s) := by
  unfold useLimit
  repeat' first
    | (with_reducible first
        | assumption | apply askBlock_k | apply setRecord_k)
    | (refine KeepsAt.of ?_ rfl rfl rfl rfl) | (simp only [Keeps.fields]) | split

theorem calcStatefulSign_k : KeepsCalc calcStatefulSign := by
  refine ⟨fun s0 s r k n h => ?_⟩
  unfold calcStatefulSign
  repeat' first
    | (with_reducible first
        | assumption | apply logEvent_k | apply askBlock_k | apply updReq_k | apply setRecord_k)
    | (refine KeepsAt.of ?_ rfl rfl rfl rfl) | (simp only [Keeps.fields]) | (dsimp only) | split

theorem execStatefulSign_k {s0 : State} (a0) (a1) (s : State) (h : Keeps s0 s) : KeepsRes s0 (execStatefulSign a0 a1 s) :=
  runCmd_k _ _ _ calcStatefulSign_k _ _ _ h

theorem execStatefulVerify_k {s0 : State} (a0) (a1) (s : State) (h : Keeps s0 s) : KeepsRes s0 (execStatefulVerify a0 a1 s) :=
  runCmd_k _ _ _ (pureCalc_k _) _ _ _ h

theorem execStatefulRemaining_k {s0 : State} (a0) (a1) (s : State) (h : Keeps s0 s) : KeepsRes s0 (execStatefulRemaining a0 a1 s) :=
  runCmd_k _ _ _ (by refine ⟨fun _ _ _ _ _ h => ?_⟩; split <;> exact h) _ _ _ h

theorem execHqcKeygen_k {s0 : State} (a0) (a1) (s : State) (h : Keeps s0 s) : KeepsRes s0 (execHqcKeygen a0 a1 s) :=
  runCmd_k _ _ _ (pureCalc_k _) _ _ _ h

theorem execHqcEncaps_k {s0 : State} (a0) (a1) (s : State) (h : Keeps s0 s) : KeepsRes s0 (execHqcEncaps a0 a1 s) :=
  runCmd_k _ _ _ (pureCalc_k _) _ _ _ h

theorem execHqcDecaps_k {s0 : State} (a0) (a1) (s : State) (h : Keeps s0 s) : KeepsRes s0 (execHqcDecaps a0 a1 s) :=
  runCmd_k _ _ _ (pureCalc_k _) _ _ _ h

theorem execMcelieceKeygen_k {s0 : State} (a0) (a1) (s : State) (h : Keeps s0 s) : KeepsRes s0 (execMcelieceKeygen a0 a1 s) :=
  runCmd_k _ _ _ (pureCalc_k _) _ _ _ h

theorem execMcelieceEncaps_k {s0 : State} (a0) (a1) (s : State) (h : Keeps s0 s) : KeepsRes s0 (execMcelieceEncaps a0 a1 s) :=
  runCmd_k _ _ _ (pureCalc_k _) _ _ _ h

theorem execMcelieceDecaps_k {s0 : State} (a0) (a1) (s : State) (h : Keeps s0 s) : KeepsRes s0 (execMcelieceDecaps a0 a1 s) :=
  runCmd_k _ _ _ (pureCalc_k _) _ _ _ h

theorem execHybridKemKeygen_k {s0 : State} (a0) (a1) (s : State) (h : Keeps s0 s) : KeepsRes s0 (execHybridKemKeygen a0 a1 s) :=
  runCmd_k _ _ _ (pureCalc_k _) _ _ _ h

theorem execHybridEncaps_k {s0 : State} (a0) (a1) (s : State) (h : Keeps s0 s) : KeepsRes s0 (execHybridEncaps a0 a1 s) :=
  runCmd_k _ _ _ (pureCalc_k _) _ _ _ h

theorem execHybridDecaps_k {s0 : State} (a0) (a1) (s : State) (h : Keeps s0 s) : KeepsRes s0 (execHybridDecaps a0 a1 s) :=
  runCmd_k _ _ _ (pureCalc_k _) _ _ _ h

theorem execHybridSignKeygen_k {s0 : State} (a0) (a1) (s : State) (h : Keeps s0 s) : KeepsRes s0 (execHybridSignKeygen a0 a1 s) :=
  runCmd_k _ _ _ (pureCalc_k _) _ _ _ h

theorem execHybridSign_k {s0 : State} (a0) (a1) (a2) (s : State) (h : Keeps s0 s) : KeepsRes s0 (execHybridSign a0 a1 a2 s) :=
  runCmd_k _ _ _ (limited_k _ _ (pureCalc_k _)) _ _ _ h

theorem execHybridVerify_k {s0 : State} (a0) (a1) (s : State) (h : Keeps s0 s) : KeepsRes s0 (execHybridVerify a0 a1 s) :=
  runCmd_k _ _ _ (pureCalc_k _) _ _ _ h

-- Keys ------------------------------------------------------------------------------------------------

theorem execKeyGenerate_k {s0 : State} (a0) (a1) (s : State) (h : Keeps s0 s) : KeepsRes s0 (execKeyGenerate a0 a1 s) :=
  runCmd_k _ _ _ (pureCalc_k _) _ _ _ h

theorem calcCombine_k : KeepsCalc calcCombine := by
  refine ⟨fun s0 s r k n h => ?_⟩
  unfold calcCombine
  split
  · exact h
  · exact updReq_k _ _ _ (reserveApprovals_k ‹_› h)

theorem execKeyComponentsCombine_k {s0 : State} (a0) (a1) (s : State) (h : Keeps s0 s) : KeepsRes s0 (execKeyComponentsCombine a0 a1 s) :=
  runCmd_k _ _ _ calcCombine_k _ _ _ h

theorem releaseLines_cells (m : Mem) (l n : Nat) (h : cellsWf m.cells = true) : cellsWf (releaseLines m l n).cells = true :=
  cellsClear_wf _ _ _ h

theorem releaseRecord_cells (k : KeyRec) (l : Nat) (m : Mem) (h : cellsWf m.cells = true) :
    cellsWf (releaseRecord k l m).cells = true := by
  unfold releaseRecord
  dsimp only
  split
  · exact releaseLines_cells _ _ _ h
  · exact releaseLines_cells _ _ _ (releaseLines_cells _ _ _ h)

theorem freeRecord_k {s0 : State} (l) (s : State) (h : Keeps s0 s) : Keeps s0 (freeRecord l s) := by
  unfold freeRecord
  split
  · exact ⟨h.pending, h.fuses, fun x => releaseRecord_cells _ _ _ (h.cells x), h.buf⟩
  · exact h

theorem finalDelete_k {s0 : State} (a0) (a1) (s : State) (h : Keeps s0 s) :
    Keeps s0 (finalDelete a0 a1 s).2 := by
  unfold finalDelete
  repeat' first
    | (with_reducible first
        | assumption | apply noteChange_k | apply freeRecord_k)
    | (refine KeepsAt.of ?_ rfl rfl rfl rfl) | (simp only [Keeps.fields]) | (dsimp only) | split

theorem calcDelete_k : KeepsCalc calcDelete := by
  refine ⟨fun s0 s r k n h => ?_⟩
  unfold calcDelete
  repeat' first
    | (with_reducible first
        | assumption | apply provisional_k | apply finalDelete_k | apply uncache_k | apply emDelete_k)
    | (dsimp only) | split

theorem execKeyDelete_k {s0 : State} (a0) (a1) (s : State) (h : Keeps s0 s) : KeepsRes s0 (execKeyDelete a0 a1 s) :=
  runCmd_k _ _ _ calcDelete_k _ _ _ h

theorem execKeyInfo_k {s0 : State} (a0) (a1) (s : State) (h : Keeps s0 s) : KeepsRes s0 (execKeyInfo a0 a1 s) :=
  runCmd_k _ _ _ (pureCalc_k _) _ _ _ h

theorem execPublicKeyExport_k {s0 : State} (a0) (a1) (s : State) (h : Keeps s0 s) : KeepsRes s0 (execPublicKeyExport a0 a1 s) :=
  runCmd_k _ _ _ (pureCalc_k _) _ _ _ h

theorem execKeyAttest_k {s0 : State} (a0) (a1) (s : State) (h : Keeps s0 s) : KeepsRes s0 (execKeyAttest a0 a1 s) :=
  runCmd_k _ _ _ ⟨fun _ _ _ _ _ h => h⟩ _ _ _ h

theorem execPublicKeyImport_k {s0 : State} (a0) (a1) (s : State) (h : Keeps s0 s) : KeepsRes s0 (execPublicKeyImport a0 a1 s) :=
  runCmd_k _ _ _ (pureCalc_k _) _ _ _ h

theorem storeLimit_k {s0 : State} (a0) (a1) (a2) (s : State) (h : Keeps s0 s) :
    Keeps s0 (storeLimit a0 a1 a2 s) := by
  unfold storeLimit
  repeat' first
    | (with_reducible assumption)
    | (refine KeepsAt.of ?_ rfl rfl rfl rfl) | (simp only [Keeps.fields])

theorem commitOp_k {s0 : State} (a0) (s : State) (h : Keeps s0 s) :
    Keeps s0 (commitOp a0 s) := by
  unfold commitOp
  repeat' first
    | (with_reducible first
        | assumption | apply storeLimit_k | apply useLimit_k | apply freeRecord_k)
    | (refine KeepsAt.of ?_ rfl rfl rfl rfl) | (simp only [Keeps.fields]) | split

theorem finishCommitted_k {s0 : State} (s : State) (h : Keeps s0 s) :
    Keeps s0 (finishCommitted s) := by
  unfold finishCommitted
  repeat' first
    | (with_reducible first
        | assumption | apply finish_k | (refine Keeps.foldl (fun t a ht => ?_) _ _ ?_))
    | (dsimp only) | split

theorem execKeyStoreCommit_k {s0 : State} (s : State) (h : Keeps s0 s) :
    KeepsRes s0 (execKeyStoreCommit s) := by
  unfold execKeyStoreCommit
  repeat' first
    | (with_reducible first
        | assumption | apply finishCommitted_k | apply commitOp_k | apply KeepsRes.next
        | (refine Keeps.foldl (fun t a ht => ?_) _ _ ?_))
    | (refine KeepsAt.of ?_ rfl rfl rfl rfl) | (simp only [Keeps.fields]) | (dsimp only) | split

theorem execKeyStoreCompaction_k {s0 : State} (s : State) (h : Keeps s0 s) :
    KeepsRes s0 (execKeyStoreCompaction s) := by
  unfold execKeyStoreCompaction
  repeat' with_reducible first
    | assumption | apply KeepsRes.next

-- Metering --------------------------------------------------------------------------------------------

theorem latchSlice_k {s0 : State} (a0) (a1) (a2) (s : State) (h : Keeps s0 s) :
    Keeps s0 (latchSlice a0 a1 a2 s) := by
  unfold latchSlice
  repeat' first
    | (with_reducible first
        | assumption | apply updSlice_k)

theorem latchAll_k {s0 : State} (a0) (s : State) (h : Keeps s0 s) :
    Keeps s0 (latchAll a0 s) := by
  unfold latchAll
  repeat' first
    | (with_reducible first
        | assumption | apply latchSlice_k | (refine Keeps.foldl (fun t a ht => ?_) _ _ ?_))

theorem execMinuteLatch_k {s0 : State} (s : State) (h : Keeps s0 s) :
    KeepsRes s0 (execMinuteLatch s) := by
  unfold execMinuteLatch
  repeat' first
    | (with_reducible first
        | assumption | apply latchAll_k | apply KeepsRes.next)
    | (refine KeepsAt.of ?_ rfl rfl rfl rfl) | (simp only [Keeps.fields]) | (dsimp only) | split

theorem finishLatches_k {s0 : State} (a0) (s : State) (h : Keeps s0 s) :
    Keeps s0 (finishLatches a0 s) := by
  unfold finishLatches
  repeat' first
    | (with_reducible first
        | assumption | apply finish_k | (refine Keeps.foldl (fun t a ht => ?_) _ _ ?_))

theorem execRingEntryWritten_k {s0 : State} (a0) (s : State) (h : Keeps s0 s) :
    KeepsRes s0 (execRingEntryWritten a0 s) := by
  unfold execRingEntryWritten
  repeat' first
    | (with_reducible first
        | assumption | apply finishLatches_k | apply updSlice_k | apply KeepsRes.next)
    | (refine KeepsAt.of ?_ rfl rfl rfl rfl) | (dsimp only) | (dsimp only) | split

theorem execEcho_k {s0 : State} (a0) (a1) (s : State) (h : Keeps s0 s) : KeepsRes s0 (execEcho a0 a1 s) :=
  runCmd_k _ _ _ (pureCalc_k _) _ _ _ h

theorem execMeterLatch_k {s0 : State} (a0) (a1) (s : State) (h : Keeps s0 s) : KeepsRes s0 (execMeterLatch a0 a1 s) :=
  runCmd_k _ _ _ ⟨fun _ _ _ _ _ h => latchSlice_k _ _ _ _ h⟩ _ _ _ h

theorem execMeterRead_k {s0 : State} (a0) (a1) (s : State) (h : Keeps s0 s) : KeepsRes s0 (execMeterRead a0 a1 s) :=
  runCmd_k _ _ _ ⟨fun _ _ _ _ _ h => h⟩ _ _ _ h

theorem execSliceInfo_k {s0 : State} (a0) (a1) (s : State) (h : Keeps s0 s) : KeepsRes s0 (execSliceInfo a0 a1 s) :=
  runCmd_k _ _ _ ⟨fun _ _ _ _ _ h => h⟩ _ _ _ h

end Sys2Proof.Machine
end

