-- ==== Sys2Proof/Laws/KeepsF.lean ====
section
/-! SUPPORT. What engines, the fabric, tamper response, launch and slices keep. -/

namespace Sys2Proof.Machine

-- Engines ---------------------------------------------------------------------------------------------

theorem burnRetired_k {s0 : State} (s : State) (h : Keeps s0 s) :
    Keeps s0 (burnRetired s) := by
  unfold burnRetired
  repeat' first
    | (with_reducible first
        | assumption | (refine stageWrite_k _ _ _ _ (fun t ht => ?_) ?_)
        | (refine Keeps.foldl (fun t a ht => ?_) _ _ ?_) | apply KeepsAt.blow | apply KeepsAt.blowAll)
    | (refine KeepsAt.of ?_ rfl rfl rfl rfl) | (simp only [Keeps.fields]) | (dsimp only) | split

theorem startUnits_k {s0 : State} (s : State) (h : Keeps s0 s) :
    Keeps s0 (startUnits s) := by
  unfold startUnits
  repeat' first
    | (with_reducible assumption)
    | (refine KeepsAt.of ?_ rfl rfl rfl rfl) | (simp only [Keeps.fields])

theorem freshBlinding_k {s0 : State} (a0) (s : State) (h : Keeps s0 s) :
    KeepsOpt s0 (freshBlinding a0 s) := by
  unfold freshBlinding
  repeat' first
    | (with_reducible first
        | assumption | (refine KeepsOpt.map (fun i => ?_)) | apply countCalls_k | apply rrCalls_k
        | (refine Keeps.ofSome (by assumption) ?_) | apply KeepsOpt.some | apply KeepsOpt.none)
    | (dsimp only) | split

theorem reexecute_k {s0 : State} (a0) (a1) (a2) (s : State) (h : Keeps s0 s) :
    Keeps s0 (reexecute a0 a1 a2 s) := by
  unfold reexecute
  repeat' first
    | (with_reducible first
        | assumption | apply offerSeq_k | apply updReq_k | apply endReq_k | apply freshBlinding_k
        | (refine Keeps.ofSome (by assumption) ?_) | apply takeContext_k)
    | (refine KeepsAt.of ?_ rfl rfl rfl rfl) | (simp only [Keeps.fields]) | (dsimp only) | split

theorem markLate_k {s0 : State} (a0) (s : State) (h : Keeps s0 s) :
    Keeps s0 (markLate a0 s) := by
  unfold markLate
  repeat' first
    | (with_reducible assumption)
    | (refine KeepsAt.of ?_ rfl rfl rfl rfl) | (simp only [Keeps.fields]) | (dsimp only) | split

theorem retireUnit_k {s0 : State} (a0) (a1) (a2) (s : State) (h : Keeps s0 s) :
    Keeps s0 (retireUnit a0 a1 a2 s) := by
  unfold retireUnit
  repeat' first
    | (with_reducible first
        | assumption | apply logEvent_k | apply applyThrottle_k | apply markLate_k | apply burnRetired_k
        | apply updUnit_k | apply reexecute_k | apply raise_k | (refine Keeps.foldl (fun t a ht => ?_) _ _ ?_))
    | (refine KeepsAt.of ?_ rfl rfl rfl rfl) | (simp only [Keeps.fields]) | (dsimp only) | split

theorem execUnitCheckFailure_k {s0 : State} (a0) (a1) (a2) (s : State) (h : Keeps s0 s) :
    KeepsRes s0 (execUnitCheckFailure a0 a1 a2 s) := by
  unfold execUnitCheckFailure
  repeat' first
    | (with_reducible first
        | assumption | apply retireUnit_k | apply KeepsRes.next)
    | split

theorem execKnownAnswerTest_k {s0 : State} (a0) (a1) (a2) (s : State) (h : Keeps s0 s) :
    KeepsRes s0 (execKnownAnswerTest a0 a1 a2 s) := by
  unfold execKnownAnswerTest
  repeat' first
    | (with_reducible first
        | assumption | apply retireUnit_k | apply updUnit_k | apply KeepsRes.next)
    | (refine KeepsAt.of ?_ rfl rfl rfl rfl) | (dsimp only) | (dsimp only) | split

theorem execSpareSwitchIn_k {s0 : State} (a0) (a1) (s : State) (h : Keeps s0 s) :
    KeepsRes s0 (execSpareSwitchIn a0 a1 s) := by
  unfold execSpareSwitchIn
  repeat' first
    | (with_reducible first
        | assumption | apply applyThrottle_k | apply updUnit_k | apply KeepsRes.next)
    | (refine KeepsAt.of ?_ rfl rfl rfl rfl) | (simp only [Keeps.fields]) | (dsimp only) | split

theorem execOperationBoundary_k {s0 : State} (a0) (a1) (s : State) (h : Keeps s0 s) :
    KeepsRes s0 (execOperationBoundary a0 a1 s) := by
  unfold execOperationBoundary
  repeat' first
    | (with_reducible first
        | assumption | apply updUnit_k | apply KeepsRes.next)
    | (refine KeepsAt.of ?_ rfl rfl rfl rfl) | (dsimp only) | (dsimp only) | split

theorem execUnitClockStop_k {s0 : State} (a0) (a1) (s : State) (h : Keeps s0 s) :
    KeepsRes s0 (execUnitClockStop a0 a1 s) := by
  unfold execUnitClockStop
  repeat' first
    | (with_reducible first
        | assumption | apply updUnit_k | apply KeepsRes.next)
    | (refine KeepsAt.of ?_ rfl rfl rfl rfl) | (simp only [Keeps.fields]) | (dsimp only) | split

theorem reseedLane_k {s0 : State} (a0) (a1) (s : State) (h : Keeps s0 s) :
    Keeps s0 (reseedLane a0 a1 s) := by
  unfold reseedLane
  repeat' first
    | (with_reducible first
        | assumption | apply logEvent_k | apply draw_k | (refine Keeps.ofPair (by assumption) ?_) | apply rrCalls_k
        | (refine Keeps.ofSome (by assumption) ?_))
    | (refine KeepsAt.of ?_ rfl rfl rfl rfl) | (simp only [Keeps.fields]) | (dsimp only) | split

theorem reseedMasks_k {s0 : State} (s : State) (h : Keeps s0 s) :
    Keeps s0 (reseedMasks s) := by
  unfold reseedMasks
  repeat' first
    | (with_reducible first
        | assumption | apply reseedLane_k | (refine Keeps.foldl (fun t a ht => ?_) _ _ ?_))

theorem execMaskReseed_k {s0 : State} (a0) (a1) (s : State) (h : Keeps s0 s) :
    KeepsRes s0 (execMaskReseed a0 a1 s) := by
  unfold execMaskReseed
  repeat' first
    | (with_reducible first
        | assumption | apply reseedLane_k | apply KeepsRes.next)
    | split

theorem abortUnit_k {s0 : State} (a0) (a1) (s : State) (h : Keeps s0 s) :
    Keeps s0 (abortUnit a0 a1 s) := by
  unfold abortUnit
  repeat' first
    | (with_reducible first
        | assumption | apply logEvent_k | apply endReq_k | apply updUnit_k
        | (refine Keeps.foldl (fun t a ht => ?_) _ _ ?_))
    | (refine KeepsAt.of ?_ rfl rfl rfl rfl) | (simp only [Keeps.fields])

-- Fabric ----------------------------------------------------------------------------------------------

theorem setPort_k {s0 : State} (a0) (a1) (s : State) (h : Keeps s0 s) :
    Keeps s0 (setPort a0 a1 s) := by
  unfold setPort
  repeat' first
    | (with_reducible assumption)
    | (refine KeepsAt.of ?_ rfl rfl rfl rfl) | (simp only [Keeps.fields]) | split

theorem execPortLinkChange_k {s0 : State} (a0) (a1) (s : State) (h : Keeps s0 s) :
    KeepsRes s0 (execPortLinkChange a0 a1 s) := by
  unfold execPortLinkChange
  repeat' first
    | (with_reducible first
        | assumption | apply setPort_k | apply KeepsRes.next)
    | (refine KeepsAt.of ?_ rfl rfl rfl rfl) | (dsimp only) | split

theorem execPauseFrame_k {s0 : State} (a0) (a1) (s : State) (h : Keeps s0 s) :
    KeepsRes s0 (execPauseFrame a0 a1 s) := by
  unfold execPauseFrame
  repeat' first
    | (with_reducible first
        | assumption | apply setPort_k | apply KeepsRes.next)
    | (refine KeepsAt.of ?_ rfl rfl rfl rfl) | (dsimp only) | split

theorem execAddressResolution_k {s0 : State} (a0) (a1) (s : State) (h : Keeps s0 s) :
    KeepsRes s0 (execAddressResolution a0 a1 s) := by
  unfold execAddressResolution
  repeat' first
    | (with_reducible first
        | assumption | apply emit_k | apply KeepsRes.next)
    | split

theorem countDrop_k {s0 : State} (s : State) (h : Keeps s0 s) :
    Keeps s0 (countDrop s) := by
  unfold countDrop
  repeat' first
    | (with_reducible assumption)
    | (refine KeepsAt.of ?_ rfl rfl rfl rfl) | (simp only [Keeps.fields])

theorem execForeignFrame_k {s0 : State} (a0) (s : State) (h : Keeps s0 s) :
    KeepsRes s0 (execForeignFrame a0 s) := by
  unfold execForeignFrame
  repeat' first
    | (with_reducible first
        | assumption | apply countDrop_k | apply KeepsRes.next)
    | split

theorem unmeasure_k {s0 : State} (s : State) (h : Keeps s0 s) :
    Keeps s0 (unmeasure s) := by
  unfold unmeasure
  repeat' first
    | (with_reducible assumption)
    | (refine KeepsAt.of ?_ rfl rfl rfl rfl) | (simp only [Keeps.fields])

theorem execPtpMessage_k {s0 : State} (a0) (s : State) (h : Keeps s0 s) :
    KeepsRes s0 (execPtpMessage a0 s) := by
  unfold execPtpMessage
  repeat' first
    | (with_reducible first
        | assumption | apply fabEvent_k | apply unmeasure_k | apply KeepsRes.next)
    | (refine KeepsAt.of ?_ rfl rfl rfl rfl) | (simp only [Keeps.fields]) | (dsimp only) | split

theorem dropSession_k {s0 : State} (a0) (s : State) (h : Keeps s0 s) :
    Keeps s0 (dropSession a0 s) := by
  unfold dropSession
  repeat' first
    | (with_reducible assumption)
    | (refine KeepsAt.of ?_ rfl rfl rfl rfl) | (simp only [Keeps.fields])

theorem closeSession_k {s0 : State} (a0) (a1) (s : State) (h : Keeps s0 s) :
    Keeps s0 (closeSession a0 a1 s) := by
  unfold closeSession
  repeat' first
    | (with_reducible first
        | assumption | apply emit_k | apply dropSession_k)
    | split

theorem closeAll_k {s0 : State} (a0) (s : State) (h : Keeps s0 s) :
    Keeps s0 (closeAll a0 s) := by
  unfold closeAll
  repeat' first
    | (with_reducible first
        | assumption | apply closeSession_k | (refine Keeps.foldl (fun t a ht => ?_) _ _ ?_))
    | (refine KeepsAt.of ?_ rfl rfl rfl rfl) | (simp only [Keeps.fields])

theorem authDrop_k {s0 : State} (s : State) (h : Keeps s0 s) :
    Keeps s0 (authDrop s) := by
  unfold authDrop
  repeat' first
    | (with_reducible assumption)
    | (refine KeepsAt.of ?_ rfl rfl rfl rfl) | (simp only [Keeps.fields])

theorem finalProv_k {s0 : State} (a0) (s : State) (h : Keeps s0 s) :
    Keeps s0 (finalProv a0 s) := by
  unfold finalProv
  repeat' first
    | (with_reducible first
        | assumption | apply finalDelete_k | (refine Keeps.ofPair (by assumption) ?_) | apply noteChange_k
        | apply setRecord_k | apply keystoreFull_k)
    | (refine KeepsAt.of ?_ rfl rfl rfl rfl) | (simp only [Keeps.fields]) | (dsimp only) | split

theorem reverseProv_k {s0 : State} (a0) (s : State) (h : Keeps s0 s) :
    Keeps s0 (reverseProv a0 s) := by
  unfold reverseProv
  repeat' first
    | (with_reducible first
        | assumption | apply fabEvent_k | apply logEvent_k | apply emInsert_k
        | (refine Keeps.ofPair (by assumption) ?_) | apply emDelete_k | apply freeRecord_k | apply uncache_k)
    | (dsimp only) | split

theorem ackUpTo_k {s0 : State} (a0) (a1) (s : State) (h : Keeps s0 s) :
    Keeps s0 (ackUpTo a0 a1 s) := by
  unfold ackUpTo
  repeat' first
    | (with_reducible first
        | assumption | apply finalProv_k | apply sendWaiting_k | apply updSession_k
        | (refine Keeps.foldl (fun t a ht => ?_) _ _ ?_))
    | (refine KeepsAt.of ?_ rfl rfl rfl rfl) | (simp only [Keeps.fields])

theorem recvFrame_l {s0 s t : State} {x : FrameHead} (e : recvFrame x s = .inl t) (h : Keeps s0 s) : Keeps s0 t := by
  unfold recvFrame at e
  repeat' split at e
  all_goals cases e
  · exact h
  · exact authDrop_k _ h
  · exact authDrop_k _ h

theorem recvFrame_r {s0 s t : State} {x : FrameHead} {y : Session} (e : recvFrame x s = .inr (y, t)) (h : Keeps s0 s) :
    Keeps s0 t := by
  unfold recvFrame at e
  repeat' split at e
  all_goals cases e
  exact ackUpTo_k _ _ _ (updSession_k _ _ _ h)

theorem recvMsg_l {s0 s t : State} {x : FrameHead} (e : recvMsg x s = .inl t) (h : Keeps s0 s) : Keeps s0 t := by
  unfold recvMsg at e
  split at e
  · cases e
    exact recvFrame_l ‹_› h
  · split at e <;> cases e
    exact updSession_k _ _ _ (recvFrame_r ‹_› h)

theorem recvMsg_r {s0 s t : State} {x : FrameHead} {y : Session} (e : recvMsg x s = .inr (y, t)) (h : Keeps s0 s) :
    Keeps s0 t := by
  unfold recvMsg at e
  split at e
  · cases e
  · split at e <;> cases e
    exact updSession_k _ _ _ (recvFrame_r ‹_› h)

theorem onPeer_k {s0 : State} (x : FrameHead) (f : Session → State → State) (s : State)
    (hf : ∀ y t, Keeps s0 t → Keeps s0 (f y t)) (h : Keeps s0 s) : Keeps s0 (onPeer x f s) := by
  unfold onPeer
  split
  · exact recvMsg_l ‹_› h
  · split
    · exact closeSession_k _ _ _ (recvMsg_r ‹_› h)
    · exact hf _ _ (recvMsg_r ‹_› h)

theorem rejectHandshake_k {s0 : State} (a0) (a1) (s : State) (h : Keeps s0 s) :
    Keeps s0 (rejectHandshake a0 a1 s) := by
  unfold rejectHandshake
  repeat' first
    | (with_reducible first
        | assumption | apply fabEvent_k | apply logEvent_k)
    | (refine KeepsAt.of ?_ rfl rfl rfl rfl) | (simp only [Keeps.fields])

theorem nodeConflict_k {s0 : State} (a0) (a1) (s : State) (h : Keeps s0 s) :
    Keeps s0 (nodeConflict a0 a1 s) := by
  unfold nodeConflict
  repeat' first
    | (with_reducible first
        | assumption | apply fabEvent_k | apply logEvent_k | apply closeAll_k)
    | (refine KeepsAt.of ?_ rfl rfl rfl rfl) | (simp only [Keeps.fields]) | (dsimp only) | split

theorem startHello_k {s0 : State} (a0) (s : State) (h : Keeps s0 s) :
    Keeps s0 (startHello a0 s) := by
  unfold startHello
  repeat' first
    | (with_reducible first
        | assumption | apply wardenCalls_k | (refine Keeps.ofSome (by assumption) ?_) | apply draw_k
        | (refine Keeps.ofPair (by assumption) ?_) | apply emit_k)
    | (refine KeepsAt.of ?_ rfl rfl rfl rfl) | (simp only [Keeps.fields]) | (dsimp only) | split

theorem carryOver_k {s0 : State} (a0) (a1) (a2) (s : State) (h : Keeps s0 s) :
    Keeps s0 (carryOver a0 a1 a2 s) := by
  unfold carryOver
  repeat' first
    | (with_reducible first
        | assumption | apply emit_k | apply updSession_k | (refine Keeps.foldl (fun t a ht => ?_) _ _ ?_))
    | (refine KeepsAt.of ?_ rfl rfl rfl rfl) | (simp only [Keeps.fields])

theorem openSession_k {s0 : State} (a0) (a1) (s : State) (h : Keeps s0 s) :
    Keeps s0 (openSession a0 a1 s) := by
  unfold openSession
  repeat' first
    | (with_reducible first
        | assumption | apply carryOver_k | apply updPeer_k | apply draw_k
        | (refine Keeps.ofPair (by assumption) ?_) | apply dropSession_k
        | (refine Keeps.foldl (fun t a ht => ?_) _ _ ?_))
    | (refine KeepsAt.of ?_ rfl rfl rfl rfl) | (simp only [Keeps.fields]) | (dsimp only) | split

theorem execSessionHello_k {s0 : State} (a0) (s : State) (h : Keeps s0 s) :
    KeepsRes s0 (execSessionHello a0 s) := by
  unfold execSessionHello
  repeat' first
    | (with_reducible first
        | assumption | apply rejectHandshake_k | apply countDrop_k | apply nodeConflict_k | apply wardenCalls_k
        | (refine Keeps.ofSome (by assumption) ?_) | apply emit_k | apply KeepsRes.next)
    | (refine KeepsAt.of ?_ rfl rfl rfl rfl) | (simp only [Keeps.fields]) | (dsimp only) | split

theorem dropHs_k {s0 : State} (a0) (s : State) (h : Keeps s0 s) :
    Keeps s0 (dropHs a0 s) := by
  unfold dropHs
  repeat' first
    | (with_reducible assumption)
    | (refine KeepsAt.of ?_ rfl rfl rfl rfl) | (simp only [Keeps.fields])

theorem execSessionAccept_k {s0 : State} (a0) (s : State) (h : Keeps s0 s) :
    KeepsRes s0 (execSessionAccept a0 s) := by
  unfold execSessionAccept
  repeat' first
    | (with_reducible first
        | assumption | apply rejectHandshake_k | apply openSession_k | apply nodeConflict_k | apply dropHs_k
        | apply emit_k | apply KeepsRes.next)
    | (refine KeepsAt.of ?_ rfl rfl rfl rfl) | (dsimp only) | (dsimp only) | split

theorem sendBurgee_k {s0 : State} (a0) (s : State) (h : Keeps s0 s) :
    Keeps s0 (sendBurgee a0 s) := by
  unfold sendBurgee
  repeat' first
    | (with_reducible first
        | assumption | apply updPeer_k | apply emit_k | apply updSession_k)
    | (refine KeepsAt.of ?_ rfl rfl rfl rfl) | (dsimp only) | (dsimp only) | split

theorem execSessionFinish_k {s0 : State} (a0) (s : State) (h : Keeps s0 s) :
    KeepsRes s0 (execSessionFinish a0 s) := by
  unfold execSessionFinish
  repeat' first
    | (with_reducible first
        | assumption | apply rejectHandshake_k | apply sendBurgee_k | apply openSession_k | apply nodeConflict_k
        | apply dropHs_k | apply KeepsRes.next)
    | (dsimp only) | split

theorem execSessionClose_k {s0 : State} (a0) (a1) (s : State) (h : Keeps s0 s) :
    KeepsRes s0 (execSessionClose a0 a1 s) := by
  unfold execSessionClose
  repeat' first
    | (with_reducible first
        | assumption | (refine recvFrame_l (by assumption) ?_) | (refine recvFrame_r (by assumption) ?_)
        | apply closeSession_k | apply KeepsRes.next)
    | split

theorem execHelloResend_k {s0 : State} (a0) (s : State) (h : Keeps s0 s) :
    KeepsRes s0 (execHelloResend a0 s) := by
  unfold execHelloResend
  repeat' first
    | (with_reducible first
        | assumption | apply dropHs_k | apply startHello_k | apply KeepsRes.next)
    | (dsimp only) | split

theorem execFinishTimeout_k {s0 : State} (a0) (s : State) (h : Keeps s0 s) :
    KeepsRes s0 (execFinishTimeout a0 s) := by
  unfold execFinishTimeout
  repeat' first
    | (with_reducible first
        | assumption | apply dropHs_k | apply KeepsRes.next)
    | (dsimp only) | split

theorem execSessionConfirmTimeout_k {s0 : State} (a0) (s : State) (h : Keeps s0 s) :
    KeepsRes s0 (execSessionConfirmTimeout a0 s) := by
  unfold execSessionConfirmTimeout
  repeat' first
    | (with_reducible first
        | assumption | apply closeSession_k | apply startHello_k | apply KeepsRes.next)
    | split

theorem execSessionRekey_k {s0 : State} (a0) (s : State) (h : Keeps s0 s) :
    KeepsRes s0 (execSessionRekey a0 s) := by
  unfold execSessionRekey
  repeat' first
    | (with_reducible first
        | assumption | apply startHello_k | apply KeepsRes.next)
    | split

theorem execRetransmitTimer_k {s0 : State} (a0) (a1) (s : State) (h : Keeps s0 s) :
    KeepsRes s0 (execRetransmitTimer a0 a1 s) := by
  unfold execRetransmitTimer
  repeat' first
    | (with_reducible first
        | assumption | apply emit_k | apply KeepsRes.next)
    | (refine KeepsAt.of ?_ rfl rfl rfl rfl) | (simp only [Keeps.fields]) | (dsimp only) | split

theorem execStaleSession_k {s0 : State} (a0) (s : State) (h : Keeps s0 s) :
    KeepsRes s0 (execStaleSession a0 s) := by
  unfold execStaleSession
  repeat' first
    | (with_reducible first
        | assumption | apply closeSession_k | apply KeepsRes.next)
    | (dsimp only) | split

theorem execAckDelayExpiry_k {s0 : State} (a0) (s : State) (h : Keeps s0 s) :
    KeepsRes s0 (execAckDelayExpiry a0 s) := by
  unfold execAckDelayExpiry
  repeat' first
    | (with_reducible first
        | assumption | apply emit_k | apply updSession_k | apply KeepsRes.next)
    | (refine KeepsAt.of ?_ rfl rfl rfl rfl) | (simp only [Keeps.fields]) | (dsimp only) | split

theorem execReassemblyTimeout_k {s0 : State} (a0) (a1) (s : State) (h : Keeps s0 s) :
    KeepsRes s0 (execReassemblyTimeout a0 a1 s) := by
  unfold execReassemblyTimeout
  repeat' first
    | (with_reducible first
        | assumption | apply updSession_k | apply KeepsRes.next)

theorem execPtpLock_k {s0 : State} (a0) (s : State) (h : Keeps s0 s) :
    KeepsRes s0 (execPtpLock a0 s) := by
  unfold execPtpLock
  repeat' first
    | (with_reducible first
        | assumption | apply rejectHandshake_k | apply fabEvent_k | apply closeSession_k | apply KeepsRes.next
        | (refine Keeps.foldl (fun t a ht => ?_) _ _ ?_))
    | (refine KeepsAt.of ?_ rfl rfl rfl rfl) | (simp only [Keeps.fields]) | (dsimp only) | split

theorem execBeaconPeriod_k {s0 : State} (s : State) (h : Keeps s0 s) :
    KeepsRes s0 (execBeaconPeriod s) := by
  unfold execBeaconPeriod
  repeat' first
    | (with_reducible first
        | assumption | apply emit_k | apply KeepsRes.next | (refine Keeps.foldl (fun t a ht => ?_) _ _ ?_))
    | (dsimp only) | split

theorem execBeacon_k {s0 : State} (a0) (a1) (a2) (a3) (s : State) (h : Keeps s0 s) :
    KeepsRes s0 (execBeacon a0 a1 a2 a3 s) := by
  unfold execBeacon
  repeat' first
    | (with_reducible first
        | assumption | apply startHello_k | apply KeepsRes.next)
    | (dsimp only) | split

theorem execNodeIdAssign_k {s0 : State} (s : State) (h : Keeps s0 s) :
    KeepsRes s0 (execNodeIdAssign s) := by
  unfold execNodeIdAssign
  repeat' first
    | (with_reducible first
        | assumption | apply KeepsRes.next)
    | (refine KeepsAt.of ?_ rfl rfl rfl rfl) | (simp only [Keeps.fields]) | (dsimp only) | split

theorem execNodeIdConfirm_k {s0 : State} (s : State) (h : Keeps s0 s) :
    KeepsRes s0 (execNodeIdConfirm s) := by
  unfold execNodeIdConfirm
  repeat' first
    | (with_reducible first
        | assumption | apply KeepsRes.next)
    | (refine KeepsAt.of ?_ rfl rfl rfl rfl) | (simp only [Keeps.fields]) | split

theorem noteDelay_k {s0 : State} (a0) (a1) (s : State) (h : Keeps s0 s) :
    Keeps s0 (noteDelay a0 a1 s) := by
  unfold noteDelay
  repeat' first
    | (with_reducible first
        | assumption | apply updPeer_k)
    | (refine KeepsAt.of ?_ rfl rfl rfl rfl) | (dsimp only) | (dsimp only) | split

theorem execRequestMessage_k {s0 : State} (a0) (a1) (a2) (s : State) (h : Keeps s0 s) :
    KeepsRes s0 (execRequestMessage a0 a1 a2 s) := by
  unfold execRequestMessage
  repeat' first
    | (with_reducible first
        | assumption | apply noteDelay_k | apply landReq_k | (refine recvMsg_l (by assumption) ?_)
        | (refine recvMsg_r (by assumption) ?_) | apply addReq_k | apply KeepsRes.next)
    | (refine KeepsAt.of ?_ rfl rfl rfl rfl) | (dsimp only) | (dsimp only) | split

theorem execResponseMessage_k {s0 : State} (a0) (a1) (s : State) (h : Keeps s0 s) :
    KeepsRes s0 (execResponseMessage a0 a1 s) := by
  unfold execResponseMessage
  repeat' first
    | (with_reducible first
        | assumption | apply updReq_k | apply finish_k | (refine onPeer_k _ _ _ (fun y t ht => ?_) ?_)
        | apply wakeForward_k | apply KeepsRes.next)
    | (refine KeepsAt.of ?_ rfl rfl rfl rfl) | (dsimp only) | (dsimp only) | split

theorem execAckOnlyBurgee_k {s0 : State} (a0) (s : State) (h : Keeps s0 s) :
    KeepsRes s0 (execAckOnlyBurgee a0 s) := by
  unfold execAckOnlyBurgee
  repeat' first
    | (with_reducible first
        | assumption | (refine recvFrame_l (by assumption) ?_) | (refine recvFrame_r (by assumption) ?_)
        | apply KeepsRes.next)
    | split

theorem sendClaim_k {s0 : State} (a0) (a1) (a2) (a3) (a4) (s : State) (h : Keeps s0 s) :
    Keeps s0 (sendClaim a0 a1 a2 a3 a4 s) := by
  unfold sendClaim
  repeat' first
    | (with_reducible first
        | assumption | apply sendMsg_k | (refine stageWrite_k _ _ _ _ (fun t ht => ?_) ?_)
        | (refine Keeps.foldl (fun t a ht => ?_) _ _ ?_))

theorem writeStandby_k {s0 : State} (a0) (a1) (s : State) (h : Keeps s0 s) :
    Keeps s0 (writeStandby a0 a1 s) := by
  unfold writeStandby
  repeat' first
    | (with_reducible first
        | assumption | apply setDomain_k)

theorem ownClaim_k {s0 : State} (a0) (a1) (a2) (a3) (s : State) (h : Keeps s0 s) :
    Keeps s0 (ownClaim a0 a1 a2 a3 s) := by
  unfold ownClaim
  repeat' first
    | (with_reducible first
        | assumption | apply learn_k | apply sendClaim_k | apply writeStandby_k)
    | (refine KeepsAt.of ?_ rfl rfl rfl rfl) | (simp only [Keeps.fields])

theorem dropDomainRecords_k {s0 : State} (a0) (s : State) (h : Keeps s0 s) :
    Keeps s0 (dropDomainRecords a0 s) := by
  unfold dropDomainRecords
  repeat' first
    | (with_reducible first
        | assumption | apply emDelete_k | (refine Keeps.ofPair (by assumption) ?_) | apply freeRecord_k
        | apply uncache_k | (refine Keeps.foldl (fun t a ht => ?_) _ _ ?_))
    | (refine KeepsAt.of ?_ rfl rfl rfl rfl) | (simp only [Keeps.fields])

theorem startResync_k {s0 : State} (a0) (s : State) (h : Keeps s0 s) :
    Keeps s0 (startResync a0 s) := by
  unfold startResync
  repeat' first
    | (with_reducible first
        | assumption | apply sendMsg_k | apply dropDomainRecords_k)
    | (refine KeepsAt.of ?_ rfl rfl rfl rfl) | (simp only [Keeps.fields]) | (dsimp only) | split

theorem releaseHandover_k {s0 : State} (a0) (a1) (s : State) (h : Keeps s0 s) :
    Keeps s0 (releaseHandover a0 a1 s) := by
  unfold releaseHandover
  repeat' first
    | (with_reducible first
        | assumption | apply offerSeq_k | apply updReq_k | apply endReq_k
        | (refine Keeps.foldl (fun t a ht => ?_) _ _ ?_))
    | (refine KeepsAt.of ?_ rfl rfl rfl rfl) | (simp only [Keeps.fields]) | (dsimp only) | split

theorem learnPeer_k {s0 : State} (a0) (a1) (a2) (a3) (s : State) (h : Keeps s0 s) :
    Keeps s0 (learnPeer a0 a1 a2 a3 s) := by
  unfold learnPeer
  repeat' first
    | (with_reducible first
        | assumption | apply fabEvent_k | apply releaseHandover_k | apply learn_k)
    | (refine KeepsAt.of ?_ rfl rfl rfl rfl) | (simp only [Keeps.fields]) | (dsimp only) | split

theorem claimMessage_k {s0 : State} (a0) (a1) (a2) (a3) (a4) (s : State) (h : Keeps s0 s) :
    Keeps s0 (claimMessage a0 a1 a2 a3 a4 s) := by
  unfold claimMessage
  repeat' first
    | (with_reducible first
        | assumption | (refine onPeer_k _ _ _ (fun y t ht => ?_) ?_) | apply startResync_k | apply learnPeer_k
        | apply writeStandby_k)
    | (refine KeepsAt.of ?_ rfl rfl rfl rfl) | (simp only [Keeps.fields]) | (dsimp only) | split

theorem sendFull_k {s0 : State} (a0) (s : State) (h : Keeps s0 s) :
    Keeps s0 (sendFull a0 s) := by
  unfold sendFull
  repeat' first
    | (with_reducible first
        | assumption | apply sendMsg_k | (refine Keeps.foldl (fun t a ht => ?_) _ _ ?_))
    | (refine KeepsAt.of ?_ rfl rfl rfl rfl) | (simp only [Keeps.fields]) | (dsimp only) | split

theorem execResyncRequest_k {s0 : State} (a0) (a1) (a2) (s : State) (h : Keeps s0 s) :
    KeepsRes s0 (execResyncRequest a0 a1 a2 s) := by
  unfold execResyncRequest
  repeat' first
    | (with_reducible first
        | assumption | (refine onPeer_k _ _ _ (fun y t ht => ?_) ?_) | apply sendFull_k | apply KeepsRes.next)
    | (dsimp only) | split

theorem sendResync_k {s0 : State} (a0) (a1) (a2) (a3) (s : State) (h : Keeps s0 s) :
    Keeps s0 (sendResync a0 a1 a2 a3 s) := by
  unfold sendResync
  repeat' with_reducible first
    | assumption | apply sendMsg_k

theorem execSnapshotMessage_k {s0 : State} (a0) (a1) (a2) (a3) (a4) (a5) (s : State) (h : Keeps s0 s) :
    KeepsRes s0 (execSnapshotMessage a0 a1 a2 a3 a4 a5 s) := by
  unfold execSnapshotMessage
  repeat' first
    | (with_reducible first
        | assumption | (refine onPeer_k _ _ _ (fun y t ht => ?_) ?_) | apply draw_k
        | (refine Keeps.ofPair (by assumption) ?_) | apply sendResync_k | apply KeepsRes.next)
    | (refine KeepsAt.of ?_ rfl rfl rfl rfl) | (simp only [Keeps.fields]) | (dsimp only) | split

theorem removeKey_k {s0 : State} (a0) (a1) (s : State) (h : Keeps s0 s) :
    Keeps s0 (removeKey a0 a1 s) := by
  unfold removeKey
  repeat' first
    | (with_reducible first
        | assumption | apply emDelete_k | (refine Keeps.ofPair (by assumption) ?_) | apply freeRecord_k
        | apply uncache_k)
    | split

theorem installRecord_k {s0 : State} (a0) (a1) (s : State) (h : Keeps s0 s) :
    Keeps s0 (installRecord a0 a1 s) := by
  unfold installRecord
  repeat' first
    | (with_reducible first
        | assumption | (refine KeepsAt.of ?_ rfl rfl (colourRecord_cells _ _ _) rfl) | apply logEvent_k
        | apply removeKey_k | apply emInsert_k | (refine Keeps.ofPair (by assumption) ?_))
    | (refine KeepsAt.of ?_ rfl rfl rfl rfl) | (simp only [Keeps.fields]) | (dsimp only) | split

theorem installItem_k {s0 : State} (a0) (a2) (s : State) (h : Keeps s0 s) :
    Keeps s0 (installItem a0 s a2) := by
  unfold installItem
  repeat' first
    | (with_reducible first
        | assumption | apply removeKey_k | apply installRecord_k | apply setRecord_k)
    | (refine KeepsAt.of ?_ rfl rfl rfl rfl) | (simp only [Keeps.fields]) | split

theorem installStored_k {s0 : State} (d : Nat) : ∀ (n : Nat) (s : State), Keeps s0 s → Keeps s0 (installStored d n s)
  | 0, _, h => h
  | k + 1, s, h => by
    unfold installStored
    dsimp only
    split
    · exact h
    · refine installStored_k d k _ (Keeps.foldl (fun t a ht => installItem_k _ _ _ ht) _ _ ?_)
      simp only [Keeps.fields]
      exact .of h rfl rfl rfl rfl

theorem execSnapshotInstall_k {s0 : State} (a0) (s : State) (h : Keeps s0 s) :
    KeepsRes s0 (execSnapshotInstall a0 s) := by
  unfold execSnapshotInstall
  repeat' first
    | (with_reducible first
        | assumption | apply installStored_k | apply KeepsRes.next)
    | split

theorem settleStateful_k {s0 : State} (a0) (s : State) (h : Keeps s0 s) :
    Keeps s0 (settleStateful a0 s) := by
  unfold settleStateful
  repeat' first
    | (with_reducible first
        | assumption | apply setRecord_k | (refine Keeps.foldl (fun t a ht => ?_) _ _ ?_))
    | (refine KeepsAt.of ?_ rfl rfl rfl rfl) | (simp only [Keeps.fields]) | (dsimp only) | split

theorem persistDomain_k {s0 : State} (a0) (s : State) (h : Keeps s0 s) :
    Keeps s0 (persistDomain a0 s) := by
  unfold persistDomain
  repeat' first
    | (with_reducible assumption)
    | (refine KeepsAt.of ?_ rfl rfl rfl rfl) | (simp only [Keeps.fields])

theorem takeDomain_k {s0 : State} (a0) (a1) (a2) (s : State) (h : Keeps s0 s) :
    Keeps s0 (takeDomain a0 a1 a2 s) := by
  unfold takeDomain
  repeat' first
    | (with_reducible first
        | assumption | apply fabEvent_k | apply logEvent_k | apply installStored_k | apply ownClaim_k
        | apply settleStateful_k | apply persistDomain_k)
    | (refine KeepsAt.of ?_ rfl rfl rfl rfl) | (simp only [Keeps.fields])

theorem execResyncHandover_k {s0 : State} (a0) (a1) (a2) (s : State) (h : Keeps s0 s) :
    KeepsRes s0 (execResyncHandover a0 a1 a2 s) := by
  unfold execResyncHandover
  repeat' first
    | (with_reducible first
        | assumption | apply takeDomain_k | (refine onPeer_k _ _ _ (fun y t ht => ?_) ?_) | apply KeepsRes.next)
    | (dsimp only) | split

theorem abandonHandover_k {s0 : State} (a0) (s : State) (h : Keeps s0 s) :
    Keeps s0 (abandonHandover a0 s) := by
  unfold abandonHandover
  repeat' first
    | (with_reducible first
        | assumption | apply offerSeq_k | (refine Keeps.foldl (fun t a ht => ?_) _ _ ?_))
    | (refine KeepsAt.of ?_ rfl rfl rfl rfl) | (simp only [Keeps.fields])

theorem askClaim_k {s0 : State} (a0) (s : State) (h : Keeps s0 s) :
    Keeps s0 (askClaim a0 s) := by
  unfold askClaim
  repeat' first
    | (with_reducible first
        | assumption | apply sendResync_k)
    | (refine KeepsAt.of ?_ rfl rfl rfl rfl) | (simp only [Keeps.fields]) | (dsimp only) | split

theorem execResyncStored_k {s0 : State} (a0) (a1) (a2) (a3) (s : State) (h : Keeps s0 s) :
    KeepsRes s0 (execResyncStored a0 a1 a2 a3 s) := by
  unfold execResyncStored
  repeat' first
    | (with_reducible first
        | assumption | apply storeLimit_k | (refine onPeer_k _ _ _ (fun y t ht => ?_) ?_) | apply useLimit_k
        | apply askClaim_k | apply KeepsRes.next | (refine Keeps.foldl (fun t a ht => ?_) _ _ ?_))
    | (refine KeepsAt.of ?_ rfl rfl rfl rfl) | (simp only [Keeps.fields]) | (dsimp only) | split

theorem resyncReject_k {s0 : State} (a0) (a1) (s : State) (h : Keeps s0 s) :
    Keeps s0 (resyncReject a0 a1 s) := by
  unfold resyncReject
  repeat' first
    | (with_reducible first
        | assumption | apply fabEvent_k | apply logEvent_k | (refine onPeer_k _ _ _ (fun y t ht => ?_) ?_)
        | apply abandonHandover_k)
    | (refine KeepsAt.of ?_ rfl rfl rfl rfl) | (simp only [Keeps.fields]) | (dsimp only) | split

theorem losePeer_k {s0 : State} (a0) (s : State) (h : Keeps s0 s) :
    Keeps s0 (losePeer a0 s) := by
  unfold losePeer
  repeat' first
    | (with_reducible first
        | assumption | apply reverseProv_k | apply fabEvent_k | apply logEvent_k | apply takeDomain_k
        | apply abandonHandover_k | apply closeSession_k | apply updPeer_k | apply wakeForward_k
        | apply lostOwner_k | (refine Keeps.foldl (fun t a ht => ?_) _ _ ?_))
    | (refine KeepsAt.of ?_ rfl rfl rfl rfl) | (simp only [Keeps.fields]) | (dsimp only) | split

theorem burgeeMissed_k {s0 : State} (a0) (s : State) (h : Keeps s0 s) :
    Keeps s0 (burgeeMissed a0 s) := by
  unfold burgeeMissed
  repeat' first
    | (with_reducible first
        | assumption | apply updPeer_k | apply losePeer_k)
    | (refine KeepsAt.of ?_ rfl rfl rfl rfl) | (dsimp only) | (dsimp only) | split

theorem execPathUnmark_k {s0 : State} (a0) (a1) (s : State) (h : Keeps s0 s) :
    KeepsRes s0 (execPathUnmark a0 a1 s) := by
  unfold execPathUnmark
  repeat' first
    | (with_reducible first
        | assumption | apply updPeer_k | apply KeepsRes.next)
    | (refine KeepsAt.of ?_ rfl rfl rfl rfl) | (dsimp only) | (dsimp only) | split

theorem nameFormer_k {s0 : State} (a0) (s : State) (h : Keeps s0 s) :
    Keeps s0 (nameFormer a0 s) := by
  unfold nameFormer
  repeat' first
    | (with_reducible first
        | assumption | apply ownClaim_k | (refine Keeps.foldl (fun t a ht => ?_) _ _ ?_))
    | (dsimp only) | split

theorem peerBurgee_k {s0 : State} (a0) (a1) (a2) (a3) (s : State) (h : Keeps s0 s) :
    Keeps s0 (peerBurgee a0 a1 a2 a3 s) := by
  unfold peerBurgee
  repeat' first
    | (with_reducible first
        | assumption | apply nameFormer_k | apply fabEvent_k | apply noteDelay_k | apply updPeer_k
        | apply learnPeer_k | apply updSession_k | (refine Keeps.foldl (fun t a ht => ?_) _ _ ?_))
    | (refine KeepsAt.of ?_ rfl rfl rfl rfl) | (simp only [Keeps.fields]) | (dsimp only) | split

theorem contestNode_k {s0 : State} (a0) (a1) (s : State) (h : Keeps s0 s) :
    Keeps s0 (contestNode a0 a1 s) := by
  unfold contestNode
  repeat' first
    | (with_reducible assumption)
    | (refine KeepsAt.of ?_ rfl rfl rfl rfl) | (simp only [Keeps.fields]) | (dsimp only) | split

theorem sessionBurgee_k {s0 : State} (a0) (a1) (s : State) (h : Keeps s0 s) :
    Keeps s0 (sessionBurgee a0 a1 s) := by
  unfold sessionBurgee
  repeat' first
    | (with_reducible first
        | assumption | apply peerBurgee_k | (refine recvFrame_l (by assumption) ?_)
        | (refine recvFrame_r (by assumption) ?_) | apply nodeConflict_k | apply closeSession_k
        | apply contestNode_k)
    | (dsimp only) | split

theorem execBurgeePeriod_k {s0 : State} (s : State) (h : Keeps s0 s) :
    KeepsRes s0 (execBurgeePeriod s) := by
  unfold execBurgeePeriod
  repeat' first
    | (with_reducible first
        | assumption | apply sendBurgee_k | apply askClaim_k | apply sendDelta_k | apply KeepsRes.next
        | (refine Keeps.foldl (fun t a ht => ?_) _ _ ?_))
    | (refine KeepsAt.of ?_ rfl rfl rfl rfl) | (simp only [Keeps.fields]) | (dsimp only) | split

-- Tamper ----------------------------------------------------------------------------------------------

theorem endLive_k {s0 : State} (a0) (a1) (s : State) (h : Keeps s0 s) :
    Keeps s0 (endLive a0 a1 s) := by
  unfold endLive
  repeat' first
    | (with_reducible first
        | assumption | apply endReq_k | (refine Keeps.foldl (fun t a ht => ?_) _ _ ?_))

theorem clearKeys_k {s0 : State} (s : State) (h : Keeps s0 s) :
    Keeps s0 (clearKeys s) := by
  unfold clearKeys
  repeat' first
    | (with_reducible assumption)
    | (refine KeepsAt.of ?_ rfl rfl rfl rfl) | (simp only [Keeps.fields])

theorem loseVault_k {s0 : State} (s : State) (h : Keeps s0 s) :
    Keeps s0 (loseVault s) := by
  unfold loseVault
  repeat' first
    | (with_reducible first
        | assumption | apply KeepsAt.filter)
    | (refine KeepsAt.of ?_ rfl rfl rfl rfl) | (simp only [Keeps.fields])

theorem formatVault_k {s0 : State} (s : State) (h : Keeps s0 s) :
    Keeps s0 (formatVault s) := by
  unfold formatVault
  repeat' first
    | (with_reducible first
        | assumption | apply loseVault_k | apply stashLevel_k)
    | (refine KeepsAt.of ?_ rfl rfl rfl rfl) | (simp only [Keeps.fields])

theorem killSeeds_k {s0 : State} (s : State) (h : Keeps s0 s) :
    Keeps s0 (killSeeds s) := by
  unfold killSeeds
  repeat' first
    | (with_reducible assumption)
    | (refine KeepsAt.of ?_ rfl rfl rfl rfl) | (simp only [Keeps.fields])

theorem execSeedKillDone_k {s0 : State} (s : State) (h : Keeps s0 s) :
    KeepsRes s0 (execSeedKillDone s) := by
  unfold execSeedKillDone
  repeat' first
    | (with_reducible first
        | assumption | apply killSeeds_k | apply KeepsRes.next)
    | (refine KeepsAt.of ?_ rfl rfl rfl rfl) | (simp only [Keeps.fields]) | (dsimp only) | split

theorem logErased_k {s0 : State} (s : State) (h : Keeps s0 s) :
    Keeps s0 (logErased s) := by
  unfold logErased
  repeat' first
    | (with_reducible assumption)
    | (refine KeepsAt.of ?_ rfl rfl rfl rfl) | (simp only [Keeps.fields]) | (dsimp only) | split

theorem eraseNow_k {s0 : State} (s : State) (h : Keeps s0 s) :
    Keeps s0 (eraseNow s) := by
  unfold eraseNow
  repeat' first
    | (with_reducible first
        | assumption | apply logErased_k | apply loseVault_k | apply clearKeys_k | apply dropApprovals_k)
    | (refine KeepsAt.of ?_ rfl rfl rfl rfl) | (simp only [Keeps.fields]) | (dsimp only) | split

theorem lockNow_k {s0 : State} (s : State) (h : Keeps s0 s) :
    Keeps s0 (lockNow s) := by
  unfold lockNow
  repeat' first
    | (with_reducible first
        | assumption | apply endLive_k | apply entropyClear_k | apply closeAll_k | apply refreshHold_k
        | apply dropApprovals_k | apply raise_k)
    | (refine KeepsAt.of ?_ rfl rfl rfl rfl) | (simp only [Keeps.fields]) | (dsimp only) | split

theorem copyReserve_k {s0 : State} (s : State) (h : Keeps s0 s) :
    Keeps s0 (copyReserve s) := by
  unfold copyReserve
  repeat' first
    | (with_reducible first
        | assumption | (refine Keeps.foldl (fun t a ht => ?_) _ _ ?_))
    | (refine KeepsAt.of ?_ rfl rfl rfl rfl) | (simp only [Keeps.fields]) | (dsimp only) | split

theorem confirmAlarm_k {s0 : State} (a0) (a1) (s : State) (h : Keeps s0 s) :
    Keeps s0 (confirmAlarm a0 a1 s) := by
  unfold confirmAlarm
  repeat' first
    | (with_reducible first
        | assumption | apply lockNow_k | apply noteFull_k | apply eraseNow_k | apply logReserve_k
        | apply copyReserve_k)
    | (refine KeepsAt.of ?_ rfl rfl rfl rfl) | (simp only [Keeps.fields]) | (dsimp only) | split

theorem tamperAlarm_k {s0 : State} (a0) (a1) (s : State) (h : Keeps s0 s) :
    Keeps s0 (tamperAlarm a0 a1 s) := by
  unfold tamperAlarm
  repeat' first
    | (with_reducible first
        | assumption | apply confirmAlarm_k)
    | split

theorem exhaustReserve_k {s0 : State} (a0) (s : State) (h : Keeps s0 s) :
    Keeps s0 (exhaustReserve a0 s) := by
  unfold exhaustReserve
  repeat' first
    | (with_reducible first
        | assumption | apply lockNow_k | apply eraseNow_k | apply logReserve_k)
    | (refine KeepsAt.of ?_ rfl rfl rfl rfl) | (simp only [Keeps.fields])

theorem tmpFuseWrite_k {s0 : State} (a0) (a1) (s : State) (h : Keeps s0 s) :
    Keeps s0 (tmpFuseWrite a0 a1 s) := by
  unfold tmpFuseWrite
  repeat' first
    | (with_reducible assumption)
    | (refine KeepsAt.of ?_ rfl rfl rfl rfl) | (simp only [Keeps.fields]) | (dsimp only) | split

theorem execFuseBurnDone_k {s0 : State} (a0) (s : State) (h : Keeps s0 s) :
    KeepsRes s0 (execFuseBurnDone a0 s) := by
  unfold execFuseBurnDone
  repeat' first
    | (with_reducible first
        | assumption | apply draw_k | (refine Keeps.ofPair (by assumption) ?_)
        | (refine stageWrite_k _ _ _ _ (fun t ht => ?_) ?_) | apply KeepsRes.next | apply KeepsAt.blow)
    | (refine KeepsAt.of ?_ rfl rfl rfl rfl) | (simp only [Keeps.fields]) | (dsimp only) | split

-- Launch ----------------------------------------------------------------------------------------------

theorem mgtInvalid_k {s0 : State} (a0) (a1) (a2) (s : State) (h : Keeps s0 s) :
    Keeps s0 (mgtInvalid a0 a1 a2 s) := by
  unfold mgtInvalid
  repeat' with_reducible first
    | assumption | apply logEvent_k

theorem mgtDone_k {s0 : State} (a0) (a1) (a2) (a3) (a4) (s : State) (h : Keeps s0 s) :
    Keeps s0 (mgtDone a0 a1 a2 a3 a4 s) := by
  unfold mgtDone
  repeat' first
    | (with_reducible first
        | assumption | apply logEvent_k | apply raise_k)
    | (refine KeepsAt.of ?_ rfl rfl rfl rfl) | (simp only [Keeps.fields])

theorem writeOut_k {s0 : State} (a0) (a1) (s : State) (h : Keeps s0 s) :
    Keeps s0 (writeOut a0 a1 s) := by
  unfold writeOut
  repeat' first
    | (with_reducible first
        | assumption | apply emit_k | apply KeepsAt.bufWrite)
    | (refine KeepsAt.of ?_ rfl rfl rfl rfl) | (simp only [Keeps.fields]) | split

theorem mgtEnd_k {s0 : State} (a0) (a1) (a2) (s : State) (h : Keeps s0 s) :
    Keeps s0 (mgtEnd a0 a1 a2 s) := by
  unfold mgtEnd
  repeat' first
    | (with_reducible first
        | assumption | apply writeOut_k | apply mgtDone_k)
    | (refine KeepsAt.of ?_ rfl rfl rfl rfl) | (simp only [Keeps.fields]) | (dsimp only) | split

theorem flushOutput_k {s0 : State} (s : State) (h : Keeps s0 s) :
    Keeps s0 (flushOutput s) := by
  unfold flushOutput
  repeat' first
    | (with_reducible first
        | assumption | apply writeOut_k | apply mgtDone_k)
    | split

theorem endRunning_k {s0 : State} (a0) (a1) (s : State) (h : Keeps s0 s) :
    Keeps s0 (endRunning a0 a1 s) := by
  unfold endRunning
  repeat' first
    | (with_reducible first
        | assumption | apply mgtDone_k)
    | split

theorem launch_k {s0 : State} (a0) (a1) (s : State) (h : Keeps s0 s) :
    Keeps s0 (launch a0 a1 s) := by
  unfold launch
  repeat' first
    | (with_reducible first
        | assumption | apply mgtInvalid_k)
    | (refine KeepsAt.of ?_ rfl rfl rfl rfl) | (simp only [Keeps.fields]) | split

theorem writeCmd_k {s0 : State} (a0) (a1) (s : State) (h : Keeps s0 s) :
    Keeps s0 (writeCmd a0 a1 s) := by
  unfold writeCmd
  repeat' first
    | (with_reducible first
        | assumption | apply logEvent_k | apply launch_k)
    | (refine KeepsAt.of ?_ rfl rfl rfl rfl) | (simp only [Keeps.fields]) | (dsimp only) | split

theorem hostLaunch_k {s0 : State} (a0) (a1) (s : State) (h : Keeps s0 s) :
    Keeps s0 (hostLaunch a0 a1 s) := by
  unfold hostLaunch
  repeat' first
    | (with_reducible first
        | assumption | apply writeCmd_k | apply mgtInvalid_k)
    | (refine KeepsAt.of ?_ rfl rfl rfl rfl) | (simp only [Keeps.fields]) | (dsimp only) | split

-- Slices ----------------------------------------------------------------------------------------------

theorem okCmd_k {s0 : State} (s : State) (h : Keeps s0 s) :
    Keeps s0 (okCmd s).2 := by
  unfold okCmd
  repeat' with_reducible first
    | assumption

theorem outCmd_k {s0 : State} (a0) (s : State) (h : Keeps s0 s) :
    Keeps s0 (outCmd a0 s).2 := by
  unfold outCmd
  repeat' with_reducible first
    | assumption

theorem failCmd_k {s0 : State} (a0) (a1) (s : State) (h : Keeps s0 s) :
    Keeps s0 (failCmd a0 a1 s).2 := by
  unfold failCmd
  repeat' with_reducible first
    | assumption

theorem stateCmd_k {s0 : State} (s : State) (h : Keeps s0 s) :
    Keeps s0 (stateCmd s).2 := by
  unfold stateCmd
  repeat' with_reducible first
    | assumption

theorem rngCmd_k {s0 : State} (s : State) (h : Keeps s0 s) :
    Keeps s0 (rngCmd s).2 := by
  unfold rngCmd
  repeat' with_reducible first
    | assumption

theorem drawMany_k {s0 : State} (a0) (s : State) (h : Keeps s0 s) :
    Keeps s0 (drawMany a0 s).2 := by
  unfold drawMany
  repeat' first
    | (with_reducible assumption)
    | (refine KeepsAt.of ?_ rfl rfl rfl rfl) | (simp only [Keeps.fields])

theorem queueCreateRun_k {s0 : State} (a0) (s : State) (h : Keeps s0 s) :
    Keeps s0 (queueCreateRun a0 s).2 := by
  unfold queueCreateRun
  repeat' first
    | (with_reducible first
        | assumption | apply setQueue_k | apply stateCmd_k | (refine Keeps.ofPair (by assumption) ?_)
        | apply okCmd_k)
    | (dsimp only) | split

theorem dropQueue_k {s0 : State} (a0) (a1) (s : State) (h : Keeps s0 s) :
    Keeps s0 (dropQueue a0 a1 s) := by
  unfold dropQueue
  repeat' first
    | (with_reducible assumption)
    | (refine KeepsAt.of ?_ rfl rfl rfl rfl) | (simp only [Keeps.fields])

theorem queueDeleteRun_k {s0 : State} (a0) (s : State) (h : Keeps s0 s) :
    Keeps s0 (queueDeleteRun a0 s).2 := by
  unfold queueDeleteRun
  repeat' first
    | (with_reducible first
        | assumption | apply dropQueue_k | apply stateCmd_k | (refine Keeps.ofPair (by assumption) ?_)
        | apply okCmd_k | apply trimOrder_k)
    | (dsimp only) | split

theorem dropQueues_k {s0 : State} (a0) (s : State) (h : Keeps s0 s) :
    Keeps s0 (dropQueues a0 s) := by
  unfold dropQueues
  repeat' first
    | (with_reducible assumption)
    | (refine KeepsAt.of ?_ rfl rfl rfl rfl) | (simp only [Keeps.fields])

theorem squashSlice_k {s0 : State} (a0) (a1) (s : State) (h : Keeps s0 s) :
    Keeps s0 (squashSlice a0 a1 s) := by
  unfold squashSlice
  repeat' first
    | (with_reducible first
        | assumption | apply endLive_k)

theorem sliceResetRun_k {s0 : State} (a0) (a1) (s : State) (h : Keeps s0 s) :
    Keeps s0 (sliceResetRun a0 a1 s).2 := by
  unfold sliceResetRun
  repeat' first
    | (with_reducible first
        | assumption | apply stateCmd_k | (refine Keeps.ofPair (by assumption) ?_) | apply checkpoint_k
        | apply dropScopeApprovals_k | apply squashSlice_k | apply updSlice_k)
    | (refine KeepsAt.of ?_ rfl rfl rfl rfl) | (simp only [Keeps.fields]) | (dsimp only) | split

theorem releaseLanding_k {s0 : State} (a0) (s : State) (h : Keeps s0 s) :
    Keeps s0 (releaseLanding a0 s) := by
  unfold releaseLanding
  repeat' first
    | (with_reducible first
        | assumption | apply KeepsAt.releaseAll | (refine Keeps.foldl (fun t a ht => ?_) _ _ ?_)
        | apply KeepsAt.release)
    | (refine KeepsAt.of ?_ rfl rfl rfl rfl) | (simp only [Keeps.fields])

theorem completes_k {s0 : State} (a0) (s : State) (h : Keeps s0 s) :
    Keeps s0 (completes a0 s) := by
  unfold completes
  repeat' first
    | (with_reducible first
        | assumption | apply endRunning_k)
    | split

theorem sliceResetDone_k {s0 : State} (a0) (s : State) (h : Keeps s0 s) :
    Keeps s0 (sliceResetDone a0 s) := by
  unfold sliceResetDone
  repeat' first
    | (with_reducible first
        | assumption | apply checkpoint_k | apply dropQueues_k | apply completes_k | apply squashSlice_k
        | apply raise_k | apply updSlice_k | apply releaseLanding_k)
    | (refine KeepsAt.of ?_ rfl rfl rfl rfl) | (dsimp only) | (dsimp only) | split

theorem sliceFreezeRun_k {s0 : State} (a0) (a1) (s : State) (h : Keeps s0 s) :
    Keeps s0 (sliceFreezeRun a0 a1 s).2 := by
  unfold sliceFreezeRun
  repeat' first
    | (with_reducible first
        | assumption | apply stateCmd_k | (refine Keeps.ofPair (by assumption) ?_) | apply checkpoint_k
        | apply okCmd_k | apply updSlice_k)
    | (refine KeepsAt.of ?_ rfl rfl rfl rfl) | (simp only [Keeps.fields]) | (dsimp only) | split

theorem sliceFreezeDone_k {s0 : State} (a0) (s : State) (h : Keeps s0 s) :
    Keeps s0 (sliceFreezeDone a0 s) := by
  unfold sliceFreezeDone
  repeat' first
    | (with_reducible first
        | assumption | apply checkpoint_k | apply completes_k | apply closeSession_k | apply raise_k
        | apply updSlice_k | (refine Keeps.foldl (fun t a ht => ?_) _ _ ?_))
    | (refine KeepsAt.of ?_ rfl rfl rfl rfl) | (dsimp only) | (dsimp only) | split

theorem drainCeiling_k {s0 : State} (a0) (s : State) (h : Keeps s0 s) :
    Keeps s0 (drainCeiling a0 s) := by
  unfold drainCeiling
  repeat' first
    | (with_reducible first
        | assumption | apply endLive_k | apply squashSlice_k)
    | (dsimp only) | split

theorem restorePrepare_k {s0 : State} (a0) (s : State) (h : Keeps s0 s) :
    Keeps s0 (restorePrepare a0 s).2 := by
  unfold restorePrepare
  repeat' first
    | (with_reducible first
        | assumption | apply stateCmd_k | (refine Keeps.ofPair (by assumption) ?_) | apply drawMany_k
        | apply wardenCalls_k | (refine Keeps.ofSome (by assumption) ?_) | apply rngCmd_k | apply outCmd_k
        | apply updSlice_k)
    | (refine KeepsAt.of ?_ rfl rfl rfl rfl) | (dsimp only) | (dsimp only) | split

theorem sliceSaveRun_k {s0 : State} (a0) (a1) (a2) (s : State) (h : Keeps s0 s) :
    Keeps s0 (sliceSaveRun a0 a1 a2 s).2 := by
  unfold sliceSaveRun
  repeat' first
    | (with_reducible first
        | assumption | apply stateCmd_k | (refine Keeps.ofPair (by assumption) ?_) | apply checkpoint_k
        | apply drawMany_k | apply dropQueues_k | apply wardenCalls_k | (refine Keeps.ofSome (by assumption) ?_)
        | apply rngCmd_k | apply outCmd_k | apply updSlice_k | apply failCmd_k)
    | (refine KeepsAt.of ?_ rfl rfl rfl rfl) | (dsimp only) | (dsimp only) | split

theorem applyBlob_k {s0 : State} (a0) (a1) (a2) (a3) (a4) (s : State) (h : Keeps s0 s) :
    Keeps s0 (applyBlob a0 a1 a2 a3 a4 s) := by
  unfold applyBlob
  repeat' first
    | (with_reducible first
        | assumption | apply setQueue_k | apply checkpoint_k | apply fillBucket_k | apply raise_k
        | apply updSlice_k | (refine Keeps.foldl (fun t a ht => ?_) _ _ ?_))
    | (refine KeepsAt.of ?_ rfl rfl rfl rfl) | (simp only [Keeps.fields]) | (dsimp only) | split

theorem restoreRun_k {s0 : State} (a0) (a1) (s : State) (h : Keeps s0 s) :
    Keeps s0 (restoreRun a0 a1 s).2 := by
  unfold restoreRun
  repeat' first
    | (with_reducible first
        | assumption | apply stateCmd_k | (refine Keeps.ofPair (by assumption) ?_) | apply okCmd_k
        | apply applyBlob_k | apply failCmd_k)
    | (dsimp only) | split

theorem sliceRestoreRun_k {s0 : State} (a0) (a1) (s : State) (h : Keeps s0 s) :
    Keeps s0 (sliceRestoreRun a0 a1 s).2 := by
  unfold sliceRestoreRun
  repeat' first
    | (with_reducible first
        | assumption | apply restorePrepare_k | (refine Keeps.ofPair (by assumption) ?_) | apply restoreRun_k)
    | split

theorem execOfferExpiry_k {s0 : State} (a0) (s : State) (h : Keeps s0 s) :
    KeepsRes s0 (execOfferExpiry a0 s) := by
  unfold execOfferExpiry
  repeat' first
    | (with_reducible first
        | assumption | apply updSlice_k | apply KeepsRes.next)
    | (refine KeepsAt.of ?_ rfl rfl rfl rfl) | (simp only [Keeps.fields]) | (dsimp only) | split

theorem execRosterReservationExpiry_k {s0 : State} (a0) (s : State) (h : Keeps s0 s) :
    KeepsRes s0 (execRosterReservationExpiry a0 s) := by
  unfold execRosterReservationExpiry
  repeat' first
    | (with_reducible first
        | assumption | apply updSlice_k | apply KeepsRes.next)

end Sys2Proof.Machine
end

