-- ==== Sys2Proof/Laws/KeepsG.lean ====
section
/-! SUPPORT. What the management commands keep. -/

namespace Sys2Proof.Machine

-- ImageCmd --------------------------------------------------------------------------------------------

theorem setSlot_k {s0 : State} (a0) (a1) (s : State) (h : Keeps s0 s) :
    Keeps s0 (setSlot a0 a1 s) := by
  unfold setSlot
  repeat' first
    | (with_reducible assumption)
    | (refine KeepsAt.of ?_ rfl rfl rfl rfl) | (simp only [Keeps.fields]) | split

theorem wrapSlots_k {s0 : State} (a0) (s : State) (h : Keeps s0 s) :
    Keeps s0 (wrapSlots a0 s) := by
  unfold wrapSlots
  repeat' first
    | (with_reducible assumption)
    | (refine KeepsAt.of ?_ rfl rfl rfl rfl) | (simp only [Keeps.fields])

theorem unsealFailed_k {s0 : State} (a0) (s : State) (h : Keeps s0 s) :
    Keeps s0 (unsealFailed a0 s) := by
  unfold unsealFailed
  repeat' first
    | (with_reducible first
        | assumption | apply logEvent_k | apply raise_k)
    | (refine KeepsAt.of ?_ rfl rfl rfl rfl) | (simp only [Keeps.fields])

theorem seedKnown_k {s0 : State} (a0) (s : State) (h : Keeps s0 s) :
    Keeps s0 (seedKnown a0 s) := by
  unfold seedKnown
  repeat' first
    | (with_reducible assumption)
    | (refine KeepsAt.of ?_ rfl rfl rfl rfl) | (simp only [Keeps.fields])

theorem firstSeed_k {s0 : State} (a0) (s : State) (h : Keeps s0 s) :
    KeepsOpt s0 (firstSeed a0 s) := by
  unfold firstSeed
  repeat' first
    | (with_reducible first
        | assumption | apply wardenCalls_k | (refine Keeps.ofSome (by assumption) ?_) | apply KeepsOpt.some
        | apply draw_k | (refine Keeps.ofPair (by assumption) ?_) | apply seedKnown_k | apply setSlot_k
        | apply KeepsOpt.some | apply KeepsOpt.none)
    | (refine KeepsAt.of ?_ rfl rfl rfl rfl) | (simp only [Keeps.fields]) | (dsimp only) | split

theorem unsealStart_k {s0 : State} (a0) (s : State) (h : Keeps s0 s) :
    Keeps s0 (unsealStart a0 s) := by
  unfold unsealStart
  repeat' first
    | (with_reducible first
        | assumption | apply Keeps.ofGetD | apply unsealFailed_k | apply firstSeed_k
        | (refine Keeps.ofSome (by assumption) ?_) | apply KeepsOpt.some | apply wrapSlots_k | apply seedKnown_k)
    | (refine KeepsAt.of ?_ rfl rfl rfl rfl) | (simp only [Keeps.fields]) | (dsimp only) | split

theorem raiseFloor_k {s0 : State} (a0) (s : State) (h : Keeps s0 s) :
    Keeps s0 (raiseFloor a0 s) := by
  unfold raiseFloor
  repeat' first
    | (with_reducible first
        | assumption | apply logEvent_k | (refine stageWrite_k _ _ _ _ (fun t ht => ?_) ?_) | apply KeepsAt.blow)
    | (refine KeepsAt.of ?_ rfl rfl rfl rfl) | (simp only [Keeps.fields]) | (dsimp only) | split

theorem nodeSources_k {s0 : State} (a0) (s : State) (h : Keeps s0 s) :
    Keeps s0 (nodeSources a0 s) := by
  unfold nodeSources
  repeat' first
    | (with_reducible assumption)
    | (refine KeepsAt.of ?_ rfl rfl rfl rfl) | (simp only [Keeps.fields]) | (dsimp only) | split

theorem applyProfile_k {s0 : State} (a0) (s : State) (h : Keeps s0 s) :
    Keeps s0 (applyProfile a0 s) := by
  unfold applyProfile
  repeat' first
    | (with_reducible assumption)
    | (refine KeepsAt.of ?_ rfl rfl rfl rfl) | (simp only [Keeps.fields])

theorem resetSlices_k {s0 : State} (a0) (s : State) (h : Keeps s0 s) :
    Keeps s0 (resetSlices a0 s) := by
  unfold resetSlices
  repeat' first
    | (with_reducible first
        | assumption | apply endLive_k)
    | (refine KeepsAt.of ?_ rfl rfl rfl rfl) | (simp only [Keeps.fields])

theorem applySections_k {s0 : State} (a0) (s : State) (h : Keeps s0 s) :
    Keeps s0 (applySections a0 s) := by
  unfold applySections
  repeat' first
    | (with_reducible first
        | assumption | apply nodeSources_k | apply applyThrottle_k | apply applyProfile_k | apply applyPolicy_k)
    | (refine KeepsAt.of ?_ rfl rfl rfl rfl) | (simp only [Keeps.fields])

theorem rejectSlot_k {s0 : State} (a0) (a1) (s : State) (h : Keeps s0 s) :
    Keeps s0 (rejectSlot a0 a1 s) := by
  unfold rejectSlot
  repeat' with_reducible first
    | assumption | apply logEvent_k | apply setReject_k

theorem chooseImage_k {s0 : State} (a0) (s : State) (h : Keeps s0 s) :
    Keeps s0 (chooseImage a0 s).2 := by
  unfold chooseImage
  repeat' first
    | (with_reducible first
        | assumption | apply setSlot_k | apply rejectSlot_k)
    | (refine KeepsAt.of ?_ rfl rfl rfl rfl) | (simp only [Keeps.fields]) | (dsimp only) | split

theorem loadImage_k {s0 : State} (a0) (s : State) (h : Keeps s0 s) :
    Keeps s0 (loadImage a0 s) := by
  unfold loadImage
  repeat' first
    | (with_reducible first
        | assumption | apply unsealStart_k | apply raiseFloor_k | apply applySections_k | apply chooseImage_k
        | (refine Keeps.ofPair (by assumption) ?_))
    | (refine KeepsAt.of ?_ rfl rfl rfl rfl) | (simp only [Keeps.fields]) | (dsimp only) | split

theorem imageStageRun_k {s0 : State} (a0) (a1) (a2) (s : State) (h : Keeps s0 s) :
    Keeps s0 (imageStageRun a0 a1 a2 s).2 := by
  unfold imageStageRun
  repeat' first
    | (with_reducible first
        | assumption | apply okCmd_k | (refine Keeps.ofPair (by assumption) ?_) | apply raise_k | apply failCmd_k
        | apply setSlot_k)
    | (refine KeepsAt.of ?_ rfl rfl rfl rfl) | (simp only [Keeps.fields]) | (dsimp only) | split

theorem clearMain_k {s0 : State} (s : State) (h : Keeps s0 s) :
    Keeps s0 (clearMain s) := by
  unfold clearMain
  repeat' first
    | (with_reducible assumption)
    | (refine KeepsAt.of ?_ rfl rfl rfl rfl) | (simp only [Keeps.fields])

theorem clearLines_k {s0 : State} (a0) (s : State) (h : Keeps s0 s) :
    Keeps s0 (clearLines a0 s) := by
  unfold clearLines
  repeat' first
    | (with_reducible first
        | assumption | apply KeepsAt.release)
    | (refine KeepsAt.of ?_ rfl rfl rfl rfl) | (simp only [Keeps.fields])

theorem loseRecords_k {s0 : State} (s : State) (h : Keeps s0 s) :
    Keeps s0 (loseRecords s) := by
  unfold loseRecords
  repeat' first
    | (with_reducible first
        | assumption | apply sendResync_k | (refine Keeps.foldl (fun t a ht => ?_) _ _ ?_))
    | (refine KeepsAt.of ?_ rfl rfl rfl rfl) | (simp only [Keeps.fields]) | (dsimp only) | split

theorem loseRegion_k {s0 : State} (a0) (s : State) (h : Keeps s0 s) :
    Keeps s0 (loseRegion a0 s) := by
  unfold loseRegion
  repeat' first
    | (with_reducible first
        | assumption | apply stashLevel_k | apply clearMain_k | apply loseRecords_k)
    | (refine KeepsAt.of ?_ rfl rfl rfl rfl) | (simp only [Keeps.fields]) | (dsimp only) | split

theorem clearRegions_k {s0 : State} (a0) (s : State) (h : Keeps s0 s) :
    Keeps s0 (clearRegions a0 s) := by
  unfold clearRegions
  repeat' first
    | (with_reducible first
        | assumption | apply loseRegion_k | apply clearLines_k | (refine Keeps.foldl (fun t a ht => ?_) _ _ ?_))
    | (dsimp only) | split

theorem closeTenants_k {s0 : State} (s : State) (h : Keeps s0 s) :
    Keeps s0 (closeTenants s) := by
  unfold closeTenants
  repeat' first
    | (with_reducible first
        | assumption | apply closeSession_k | (refine Keeps.foldl (fun t a ht => ?_) _ _ ?_))

theorem resealStaged_k {s0 : State} (a0) (s : State) (h : Keeps s0 s) :
    KeepsOpt s0 (resealStaged a0 s) := by
  unfold resealStaged
  repeat' first
    | (with_reducible first
        | assumption | apply unsealFailed_k | apply firstSeed_k | (refine Keeps.ofSome (by assumption) ?_)
        | apply KeepsOpt.some | apply setSlot_k | apply KeepsOpt.some | apply KeepsOpt.none)
    | (refine KeepsAt.of ?_ rfl rfl rfl rfl) | (simp only [Keeps.fields]) | split

theorem commitImage_k {s0 : State} (a0) (a1) (s : State) (h : Keeps s0 s) :
    Keeps s0 (commitImage a0 a1 s) := by
  unfold commitImage
  repeat' first
    | (with_reducible first
        | assumption | apply logEvent_k | apply resetSlices_k | apply checkpoint_k | apply closeTenants_k
        | apply clearRegions_k | apply refreshHold_k | apply raiseFloor_k | apply raise_k | apply applySections_k
        | apply setSlot_k)
    | (refine KeepsAt.of ?_ rfl rfl rfl rfl) | (simp only [Keeps.fields])

theorem imageActivateRun_k {s0 : State} (a0) (s : State) (h : Keeps s0 s) :
    Keeps s0 (imageActivateRun a0 s).2 := by
  unfold imageActivateRun
  repeat' first
    | (with_reducible first
        | assumption | apply okCmd_k | (refine Keeps.ofPair (by assumption) ?_) | apply resealStaged_k
        | (refine Keeps.ofSome (by assumption) ?_) | apply KeepsOpt.some | apply latchAll_k | apply rngCmd_k
        | apply commitImage_k | apply rejectSlot_k)
    | (refine KeepsAt.of ?_ rfl rfl rfl rfl) | (dsimp only) | (dsimp only) | split

-- Vault -----------------------------------------------------------------------------------------------

theorem enrolRun_k {s0 : State} (a0) (a1) (s : State) (h : Keeps s0 s) :
    Keeps s0 (enrolRun a0 a1 s).2 := by
  unfold enrolRun
  repeat' first
    | (with_reducible first
        | assumption | apply stateCmd_k | (refine Keeps.ofPair (by assumption) ?_) | apply okCmd_k
        | apply failCmd_k)
    | (refine KeepsAt.of ?_ rfl rfl rfl rfl) | (simp only [Keeps.fields]) | split

theorem rosterRun_k {s0 : State} (a0) (a1) (s : State) (h : Keeps s0 s) :
    Keeps s0 (rosterRun a0 a1 s).2 := by
  unfold rosterRun
  repeat' first
    | (with_reducible first
        | assumption | apply stateCmd_k | (refine Keeps.ofPair (by assumption) ?_) | apply okCmd_k
        | apply dropApprovals_k | apply failCmd_k)
    | (refine KeepsAt.of ?_ rfl rfl rfl rfl) | (simp only [Keeps.fields]) | (dsimp only) | split

theorem ownerEnrolRun_k {s0 : State} (a0) (a1) (a2) (s : State) (h : Keeps s0 s) :
    Keeps s0 (ownerEnrolRun a0 a1 a2 s).2 := by
  unfold ownerEnrolRun
  repeat' first
    | (with_reducible first
        | assumption | apply enrolRun_k | (refine Keeps.ofPair (by assumption) ?_) | apply rosterRun_k)
    | split

theorem identityAttestRun_k {s0 : State} (a0) (s : State) (h : Keeps s0 s) :
    Keeps s0 (identityAttestRun a0 s).2 := by
  unfold identityAttestRun
  repeat' first
    | (with_reducible first
        | assumption | apply stateCmd_k | (refine Keeps.ofPair (by assumption) ?_) | apply wardenCalls_k
        | (refine Keeps.ofSome (by assumption) ?_) | apply KeepsOpt.some | apply draw_k | apply rngCmd_k
        | apply outCmd_k)
    | (refine KeepsAt.of ?_ rfl rfl rfl rfl) | (dsimp only) | (dsimp only) | split

theorem resealStage_k {s0 : State} (a0) (s : State) (h : Keeps s0 s) :
    Keeps s0 (resealStage a0 s).2 := by
  unfold resealStage
  repeat' first
    | (with_reducible first
        | assumption | apply okCmd_k | (refine Keeps.ofPair (by assumption) ?_))
    | (refine KeepsAt.of ?_ rfl rfl rfl rfl) | (simp only [Keeps.fields])

theorem resealCommit_k {s0 : State} (a0) (a1) (s : State) (h : Keeps s0 s) :
    Keeps s0 (resealCommit a0 a1 s).2 := by
  unfold resealCommit
  repeat' first
    | (with_reducible first
        | assumption | apply stateCmd_k | (refine Keeps.ofPair (by assumption) ?_) | apply okCmd_k
        | apply failCmd_k)
    | (refine KeepsAt.of ?_ rfl rfl rfl rfl) | (simp only [Keeps.fields]) | (dsimp only) | split

theorem newSeed_k {s0 : State} (a0) (s : State) (h : Keeps s0 s) :
    Keeps s0 (newSeed a0 s) := by
  unfold newSeed
  repeat' first
    | (with_reducible first
        | assumption | apply formatVault_k | apply seedKnown_k | apply setSlot_k)
    | (refine KeepsAt.of ?_ rfl rfl rfl rfl) | (simp only [Keeps.fields]) | (dsimp only) | split

theorem rekeyDone_k {s0 : State} (a0) (a1) (s : State) (h : Keeps s0 s) :
    Keeps s0 (rekeyDone a0 a1 s) := by
  unfold rekeyDone
  repeat' first
    | (with_reducible first
        | assumption | apply logEvent_k | apply mgtDone_k)
    | (refine KeepsAt.of ?_ rfl rfl rfl rfl) | (simp only [Keeps.fields]) | (dsimp only) | split

theorem endRekey_k {s0 : State} (a0) (s : State) (h : Keeps s0 s) :
    Keeps s0 (endRekey a0 s) := by
  unfold endRekey
  repeat' first
    | (with_reducible first
        | assumption | apply rekeyDone_k)
    | (refine KeepsAt.of ?_ rfl rfl rfl rfl) | (simp only [Keeps.fields]) | split

theorem resealAbandon_k {s0 : State} (a0) (a1) (s : State) (h : Keeps s0 s) :
    Keeps s0 (resealAbandon a0 a1 s).2 := by
  unfold resealAbandon
  repeat' first
    | (with_reducible first
        | assumption | apply endRekey_k | apply wardenCalls_k | (refine Keeps.ofSome (by assumption) ?_)
        | apply KeepsOpt.some | apply okCmd_k | (refine Keeps.ofPair (by assumption) ?_) | apply refreshHold_k
        | apply draw_k | apply newSeed_k | apply rngCmd_k | apply failCmd_k)
    | (refine KeepsAt.of ?_ rfl rfl rfl rfl) | (dsimp only) | (dsimp only) | split

theorem vaultResealRun_k {s0 : State} (a0) (a1) (a2) (s : State) (h : Keeps s0 s) :
    Keeps s0 (vaultResealRun a0 a1 a2 s).2 := by
  unfold vaultResealRun
  repeat' first
    | (with_reducible first
        | assumption | apply resealStage_k | (refine Keeps.ofPair (by assumption) ?_) | apply resealAbandon_k
        | apply resealCommit_k)
    | (refine KeepsAt.of ?_ rfl rfl rfl rfl) | (simp only [Keeps.fields]) | split

theorem vaultRekeyRun_k {s0 : State} (a0) (s : State) (h : Keeps s0 s) :
    Keeps s0 (vaultRekeyRun a0 s).2 := by
  unfold vaultRekeyRun
  repeat' first
    | (with_reducible first
        | assumption | apply stateCmd_k | (refine Keeps.ofPair (by assumption) ?_) | apply checkpoint_k
        | apply wardenCalls_k | (refine Keeps.ofSome (by assumption) ?_) | apply KeepsOpt.some | apply draw_k
        | apply rngCmd_k)
    | (refine KeepsAt.of ?_ rfl rfl rfl rfl) | (simp only [Keeps.fields]) | (dsimp only) | split

theorem finishRekey_k {s0 : State} (a0) (s : State) (h : Keeps s0 s) :
    Keeps s0 (finishRekey a0 s) := by
  unfold finishRekey
  repeat' first
    | (with_reducible first
        | assumption | apply wrapSlots_k | apply seedKnown_k)
    | (refine KeepsAt.of ?_ rfl rfl rfl rfl) | (simp only [Keeps.fields])

theorem rekeyRangeDone_k {s0 : State} (s : State) (h : Keeps s0 s) :
    Keeps s0 (rekeyRangeDone s) := by
  unfold rekeyRangeDone
  repeat' first
    | (with_reducible first
        | assumption | apply finishRekey_k | apply rekeyDone_k)
    | (refine KeepsAt.of ?_ rfl rfl rfl rfl) | (simp only [Keeps.fields]) | (dsimp only) | split

theorem membershipRun_k {s0 : State} (a0) (a1) (s : State) (h : Keeps s0 s) :
    Keeps s0 (membershipRun a0 a1 s).2 := by
  unfold membershipRun
  repeat' first
    | (with_reducible first
        | assumption | apply stateCmd_k | (refine Keeps.ofPair (by assumption) ?_) | apply nodeSources_k
        | apply okCmd_k | apply failCmd_k | apply startHello_k | (refine Keeps.foldl (fun t a ht => ?_) _ _ ?_))
    | (refine KeepsAt.of ?_ rfl rfl rfl rfl) | (simp only [Keeps.fields]) | (dsimp only) | split

theorem domainCreateRun_k {s0 : State} (a0) (a1) (s : State) (h : Keeps s0 s) :
    Keeps s0 (domainCreateRun a0 a1 s).2 := by
  unfold domainCreateRun
  repeat' first
    | (with_reducible first
        | assumption | apply stateCmd_k | (refine Keeps.ofPair (by assumption) ?_) | apply ownClaim_k
        | apply wardenCalls_k | (refine Keeps.ofSome (by assumption) ?_) | apply KeepsOpt.some | apply okCmd_k
        | apply draw_k | apply rngCmd_k | apply persistDomain_k | apply failCmd_k)
    | (refine KeepsAt.of ?_ rfl rfl rfl rfl) | (simp only [Keeps.fields]) | (dsimp only) | split

theorem setStandbyRun_k {s0 : State} (a0) (a1) (s : State) (h : Keeps s0 s) :
    Keeps s0 (setStandbyRun a0 a1 s).2 := by
  unfold setStandbyRun
  repeat' first
    | (with_reducible first
        | assumption | apply stateCmd_k | (refine Keeps.ofPair (by assumption) ?_) | apply ownClaim_k
        | apply okCmd_k)
    | (dsimp only) | split

theorem handoverRun_k {s0 : State} (a0) (a1) (s : State) (h : Keeps s0 s) :
    Keeps s0 (handoverRun a0 a1 s).2 := by
  unfold handoverRun
  repeat' first
    | (with_reducible first
        | assumption | apply stateCmd_k | (refine Keeps.ofPair (by assumption) ?_) | apply askClaim_k
        | apply sendDelta_k)
    | (refine KeepsAt.of ?_ rfl rfl rfl rfl) | (simp only [Keeps.fields]) | (dsimp only) | split

theorem domainRun_k {s0 : State} (a0) (a1) (a2) (a3) (s : State) (h : Keeps s0 s) :
    Keeps s0 (domainRun a0 a1 a2 a3 s).2 := by
  unfold domainRun
  repeat' first
    | (with_reducible first
        | assumption | apply setStandbyRun_k | (refine Keeps.ofPair (by assumption) ?_) | apply domainCreateRun_k
        | apply handoverRun_k)
    | (refine KeepsAt.of ?_ rfl rfl rfl rfl) | (simp only [Keeps.fields]) | split

-- Custodian -------------------------------------------------------------------------------------------

theorem custOpen_k {s0 : State} (a0) (a1) (s : State) (h : Keeps s0 s) :
    Keeps s0 (custOpen a0 a1 s).2 := by
  unfold custOpen
  repeat' first
    | (with_reducible first
        | assumption | apply stateCmd_k | (refine Keeps.ofPair (by assumption) ?_) | apply wardenCalls_k
        | (refine Keeps.ofSome (by assumption) ?_) | apply KeepsOpt.some | apply draw_k | apply updPort_k
        | apply rngCmd_k | apply outCmd_k | apply failCmd_k)
    | (refine KeepsAt.of ?_ rfl rfl rfl rfl) | (dsimp only) | (dsimp only) | split

theorem custApprove_k {s0 : State} (a0) (a1) (a2) (s : State) (h : Keeps s0 s) :
    Keeps s0 (custApprove a0 a1 a2 s).2 := by
  unfold custApprove
  repeat' first
    | (with_reducible first
        | assumption | apply stateCmd_k | (refine Keeps.ofPair (by assumption) ?_) | apply updPort_k
        | apply outCmd_k | apply failCmd_k)
    | (refine KeepsAt.of ?_ rfl rfl rfl rfl) | (simp only [Keeps.fields]) | (dsimp only) | split

theorem custWithdraw_k {s0 : State} (a0) (s : State) (h : Keeps s0 s) :
    Keeps s0 (custWithdraw a0 s).2 := by
  unfold custWithdraw
  repeat' first
    | (with_reducible first
        | assumption | apply stateCmd_k | (refine Keeps.ofPair (by assumption) ?_) | apply okCmd_k
        | apply failCmd_k | apply setApprovals_k)
    | (refine KeepsAt.of ?_ rfl rfl rfl rfl) | (simp only [Keeps.fields]) | (dsimp only) | split

theorem custodianRun_k {s0 : State} (a0) (a1) (a2) (s : State) (h : Keeps s0 s) :
    Keeps s0 (custodianRun a0 a1 a2 s).2 := by
  unfold custodianRun
  repeat' first
    | (with_reducible first
        | assumption | apply custApprove_k | (refine Keeps.ofPair (by assumption) ?_) | apply custWithdraw_k
        | apply okCmd_k | apply updPort_k | apply custOpen_k | apply outCmd_k)
    | (refine KeepsAt.of ?_ rfl rfl rfl rfl) | (simp only [Keeps.fields]) | split

theorem dualControl_k {s0 : State} (n d i) (run : State → Ran) (s : State) (hr : ∀ t, Keeps s0 t → Keeps s0 (run t).2)
    (h : Keeps s0 s) : Keeps s0 (dualControl n d i run s).2 := by
  unfold dualControl
  dsimp only
  split
  · exact failCmd_k _ _ _ h
  · exact settleApprovals_k _ _ _ (hr _ (reserveApprovals_k ‹_› h))

theorem clearReserve_k {s0 : State} (s : State) (h : Keeps s0 s) :
    Keeps s0 (clearReserve s) := by
  unfold clearReserve
  repeat' first
    | (with_reducible assumption)
    | (refine KeepsAt.of ?_ rfl rfl rfl rfl) | (simp only [Keeps.fields])

theorem logClearRun_k {s0 : State} (a0) (a1) (s : State) (h : Keeps s0 s) :
    Keeps s0 (logClearRun a0 a1 s).2 := by
  unfold logClearRun
  repeat' first
    | (with_reducible first
        | assumption | apply clearReserve_k | apply okCmd_k | (refine Keeps.ofPair (by assumption) ?_)
        | apply clearMain_k | apply failCmd_k | (refine dualControl_k _ _ _ _ _ (fun t ht => ?_) ?_))
    | (dsimp only) | split

theorem unlockNow_k {s0 : State} (s : State) (h : Keeps s0 s) :
    Keeps s0 (unlockNow s).2 := by
  unfold unlockNow
  repeat' first
    | (with_reducible first
        | assumption | apply logEvent_k | apply endRekey_k | apply wardenCalls_k
        | (refine Keeps.ofSome (by assumption) ?_) | apply KeepsOpt.some | apply okCmd_k
        | (refine Keeps.ofPair (by assumption) ?_) | apply refreshHold_k | apply draw_k | apply newSeed_k
        | apply rngCmd_k | apply instantiateAll_k | apply reseedMasks_k)
    | (refine KeepsAt.of ?_ rfl rfl rfl rfl) | (simp only [Keeps.fields]) | (dsimp only) | split

theorem unlockRun_k {s0 : State} (a0) (a1) (a2) (s : State) (h : Keeps s0 s) :
    Keeps s0 (unlockRun a0 a1 a2 s).2 := by
  unfold unlockRun
  repeat' first
    | (with_reducible first
        | assumption | apply stateCmd_k | (refine Keeps.ofPair (by assumption) ?_) | apply unlockNow_k
        | apply failCmd_k | (refine dualControl_k _ _ _ _ _ (fun t ht => ?_) ?_))
    | (refine KeepsAt.of ?_ rfl rfl rfl rfl) | (simp only [Keeps.fields]) | (dsimp only) | split

theorem engineAbortRun_k {s0 : State} (a0) (s : State) (h : Keeps s0 s) :
    Keeps s0 (engineAbortRun a0 s).2 := by
  unfold engineAbortRun
  repeat' with_reducible first
    | assumption | apply okCmd_k | (refine Keeps.ofPair (by assumption) ?_) | apply abortUnit_k

-- Lifecycle -------------------------------------------------------------------------------------------

theorem decodeLife_k {s0 : State} (s : State) (h : Keeps s0 s) :
    Keeps s0 (decodeLife s) := by
  unfold decodeLife
  repeat' first
    | (with_reducible first
        | assumption | apply logEvent_k | (refine Keeps.foldl (fun t a ht => ?_) _ _ ?_))
    | (refine KeepsAt.of ?_ rfl rfl rfl rfl) | (simp only [Keeps.fields]) | (dsimp only) | split

theorem burnDs_k {s0 : State} (a0) (a1) (s : State) (h : Keeps s0 s) :
    Keeps s0 (burnDs a0 a1 s) := by
  unfold burnDs
  repeat' first
    | (with_reducible first
        | assumption | apply KeepsAt.blow)
    | (refine KeepsAt.of ?_ rfl rfl rfl rfl) | (simp only [Keeps.fields])

theorem deriveIdentity_k {s0 : State} (s : State) (h : Keeps s0 s) :
    Keeps s0 (deriveIdentity s) := by
  unfold deriveIdentity
  repeat' first
    | (with_reducible assumption)
    | (refine KeepsAt.of ?_ rfl rfl rfl rfl) | (simp only [Keeps.fields]) | (dsimp only) | split

theorem eraseUser_k {s0 : State} (s : State) (h : Keeps s0 s) :
    Keeps s0 (eraseUser s) := by
  unfold eraseUser
  repeat' first
    | (with_reducible first
        | assumption | apply logErased_k | apply entropyClear_k | apply clearKeys_k | apply closeAll_k
        | apply formatVault_k | apply dropApprovals_k | apply killSeeds_k)
    | (refine KeepsAt.of ?_ rfl rfl rfl rfl) | (simp only [Keeps.fields])

theorem burnCopies_k {s0 : State} (a0) (s : State) (h : Keeps s0 s) :
    Keeps s0 (burnCopies a0 s) := by
  unfold burnCopies
  repeat' first
    | (with_reducible first
        | assumption | apply KeepsAt.blow)
    | (refine KeepsAt.of ?_ rfl rfl rfl rfl) | (simp only [Keeps.fields])

theorem burnBadly_k {s0 : State} (a0) (s : State) (h : Keeps s0 s) :
    Keeps s0 (burnBadly a0 s) := by
  unfold burnBadly
  repeat' first
    | (with_reducible first
        | assumption | apply draw_k | (refine Keeps.ofPair (by assumption) ?_) | apply KeepsAt.blow)
    | (refine KeepsAt.of ?_ rfl rfl rfl rfl) | (simp only [Keeps.fields])

theorem middleStep_k {s0 : State} (a0) (a1) (s : State) (h : Keeps s0 s) :
    Keeps s0 (middleStep a0 a1 s) := by
  unfold middleStep
  repeat' first
    | (with_reducible first
        | assumption | apply eraseUser_k | apply burnDs_k | (refine stageWrite_k _ _ _ _ (fun t ht => ?_) ?_)
        | apply KeepsAt.blow)
    | (refine KeepsAt.of ?_ rfl rfl rfl rfl) | (simp only [Keeps.fields]) | (dsimp only) | split

theorem enterState_k {s0 : State} (a0) (s : State) (h : Keeps s0 s) :
    Keeps s0 (enterState a0 s) := by
  unfold enterState
  repeat' first
    | (with_reducible first
        | assumption | apply logEvent_k | apply checkpoint_k | apply deriveIdentity_k | apply refreshHold_k)
    | (refine KeepsAt.of ?_ rfl rfl rfl rfl) | (simp only [Keeps.fields]) | (dsimp only) | split

theorem stopScrapped_k {s0 : State} (s : State) (h : Keeps s0 s) :
    Keeps s0 (stopScrapped s) := by
  unfold stopScrapped
  repeat' first
    | (with_reducible assumption)
    | (refine KeepsAt.of ?_ rfl rfl rfl rfl) | (simp only [Keeps.fields])

theorem xstatus_k {s0 : State} (a0) (a1) (s : State) (h : Keeps s0 s) :
    Keeps s0 (xstatus a0 a1 s) := by
  unfold xstatus
  repeat' first
    | (with_reducible assumption)
    | (refine KeepsAt.of ?_ rfl rfl rfl rfl) | (simp only [Keeps.fields])

theorem burnTransition_k {s0 : State} (a0) (a1) (a2) (s : State) (h : Keeps s0 s) :
    Keeps s0 (burnTransition a0 a1 a2 s) := by
  unfold burnTransition
  repeat' first
    | (with_reducible first
        | assumption | apply burnCopies_k | (refine stageWrite_k _ _ _ _ (fun t ht => ?_) ?_) | apply burnBadly_k
        | apply middleStep_k | apply KeepsAt.blow)
    | (refine KeepsAt.of ?_ rfl rfl rfl rfl) | (simp only [Keeps.fields]) | (dsimp only) | split

theorem endTransition_k {s0 : State} (a0) (s : State) (h : Keeps s0 s) :
    Keeps s0 (endTransition a0 s).2 := by
  unfold endTransition
  repeat' first
    | (with_reducible first
        | assumption | apply enterState_k | apply xstatus_k)
    | (refine KeepsAt.of ?_ rfl rfl rfl rfl) | (simp only [Keeps.fields]) | split

theorem drawDs_k {s0 s t : State} {x} (e : drawDs s = .inl (x, t)) (h : Keeps s0 s) : Keeps s0 t := by
  unfold drawDs at e
  split at e
  · cases e
    exact h
  · split at e
    · cases e
    · split at e
      · cases e
      · cases e
        exact draw_k _ ((wardenCalls_k _ _ h).all _ ‹_›)

theorem runTransition_k {s0 : State} (a0) (a1) (s : State) (h : Keeps s0 s) :
    Keeps s0 (runTransition a0 a1 s).2 := by
  unfold runTransition
  repeat' first
    | (with_reducible first
        | assumption | apply endLive_k | apply burnTransition_k | apply endTransition_k
        | (refine Keeps.ofPair (by assumption) ?_) | apply xstatus_k | (refine drawDs_k (by assumption) ?_))
    | (refine KeepsAt.of ?_ rfl rfl rfl rfl) | (simp only [Keeps.fields]) | (dsimp only) | split

theorem completeTransition_k {s0 : State} (a0) (a1) (a2) (a3) (s : State) (h : Keeps s0 s) :
    Keeps s0 (completeTransition a0 a1 a2 a3 s) := by
  unfold completeTransition
  repeat' first
    | (with_reducible first
        | assumption | apply mgtDone_k | apply stopScrapped_k | apply runTransition_k
        | (refine Keeps.ofPair (by assumption) ?_))
    | (dsimp only) | split

theorem startTransition_k {s0 : State} (a0) (a1) (a2) (a3) (s : State) (h : Keeps s0 s) :
    Keeps s0 (startTransition a0 a1 a2 a3 s).2 := by
  unfold startTransition
  repeat' first
    | (with_reducible first
        | assumption | apply completeTransition_k)
    | (refine KeepsAt.of ?_ rfl rfl rfl rfl) | (simp only [Keeps.fields]) | (dsimp only) | split

theorem lifecycleRun_k {s0 : State} (a0) (a1) (a2) (a3) (s : State) (h : Keeps s0 s) :
    Keeps s0 (lifecycleRun a0 a1 a2 a3 s).2 := by
  unfold lifecycleRun
  repeat' first
    | (with_reducible first
        | assumption | apply startTransition_k | (refine Keeps.ofPair (by assumption) ?_) | apply failCmd_k)
    | (refine KeepsAt.of ?_ rfl rfl rfl rfl) | (simp only [Keeps.fields]) | (dsimp only) | split

theorem scrapRun_k {s0 : State} (a0) (a1) (s : State) (h : Keeps s0 s) :
    Keeps s0 (scrapRun a0 a1 s).2 := by
  unfold scrapRun
  repeat' with_reducible first
    | assumption | apply startTransition_k

theorem energyWait_k {s0 : State} (s : State) (h : Keeps s0 s) :
    Keeps s0 (energyWait s) := by
  unfold energyWait
  repeat' first
    | (with_reducible first
        | assumption | apply logEvent_k | apply mgtDone_k | apply xstatus_k)
    | (refine KeepsAt.of ?_ rfl rfl rfl rfl) | (dsimp only) | (dsimp only) | split

theorem chargeFull_k {s0 : State} (s : State) (h : Keeps s0 s) :
    Keeps s0 (chargeFull s) := by
  unfold chargeFull
  repeat' first
    | (with_reducible first
        | assumption | apply completeTransition_k | apply mgtDone_k | apply xstatus_k)
    | (refine KeepsAt.of ?_ rfl rfl rfl rfl) | (simp only [Keeps.fields]) | split

theorem rollForward_k {s0 : State} (s : State) (h : Keeps s0 s) :
    Keeps s0 (rollForward s) := by
  unfold rollForward
  repeat' first
    | (with_reducible first
        | assumption | apply burnCopies_k | apply logEvent_k | apply middleStep_k
        | (refine drawDs_k (by assumption) ?_))
    | (refine KeepsAt.of ?_ rfl rfl rfl rfl) | (simp only [Keeps.fields]) | (dsimp only) | split

theorem logPartial_k {s0 : State} (s : State) (h : Keeps s0 s) :
    Keeps s0 (logPartial s) := by
  unfold logPartial
  repeat' first
    | (with_reducible first
        | assumption | apply logEvent_k | (refine Keeps.foldl (fun t a ht => ?_) _ _ ?_))

theorem startDecode_k {s0 : State} (s : State) (h : Keeps s0 s) :
    Keeps s0 (startDecode s) := by
  unfold startDecode
  repeat' with_reducible first
    | assumption | apply logPartial_k | apply decodeLife_k | apply deriveIdentity_k | apply rollForward_k

-- Warden ----------------------------------------------------------------------------------------------

theorem retireCore_k {s0 : State} (a0) (s : State) (h : Keeps s0 s) :
    Keeps s0 (retireCore a0 s) := by
  unfold retireCore
  repeat' first
    | (with_reducible first
        | assumption | apply logEvent_k)
    | (refine KeepsAt.of ?_ rfl rfl rfl rfl) | (simp only [Keeps.fields])

theorem loseWarden_k {s0 : State} (a0) (s : State) (h : Keeps s0 s) :
    Keeps s0 (loseWarden a0 s) := by
  unfold loseWarden
  repeat' first
    | (with_reducible first
        | assumption | apply lockNow_k | apply noteFull_k | apply logReserve_k)
    | (refine KeepsAt.of ?_ rfl rfl rfl rfl) | (simp only [Keeps.fields])

theorem replaceCore_k {s0 : State} (a0) (s : State) (h : Keeps s0 s) :
    Keeps s0 (replaceCore a0 s) := by
  unfold replaceCore
  repeat' first
    | (with_reducible assumption)
    | (refine KeepsAt.of ?_ rfl rfl rfl rfl) | (simp only [Keeps.fields])

theorem abortCommand_k {s0 : State} (s : State) (h : Keeps s0 s) :
    Keeps s0 (abortCommand s) := by
  unfold abortCommand
  repeat' first
    | (with_reducible first
        | assumption | apply endRunning_k)
    | (refine KeepsAt.of ?_ rfl rfl rfl rfl) | (simp only [Keeps.fields]) | (dsimp only) | split

theorem restartHandshakes_k {s0 : State} (s : State) (h : Keeps s0 s) :
    Keeps s0 (restartHandshakes s) := by
  unfold restartHandshakes
  repeat' first
    | (with_reducible first
        | assumption | apply startHello_k | (refine Keeps.foldl (fun t a ht => ?_) _ _ ?_))
    | (refine KeepsAt.of ?_ rfl rfl rfl rfl) | (simp only [Keeps.fields])

theorem takeOver_k {s0 : State} (a0) (s : State) (h : Keeps s0 s) :
    Keeps s0 (takeOver a0 s) := by
  unfold takeOver
  repeat' first
    | (with_reducible first
        | assumption | apply logEvent_k | apply checkpoint_k | apply dropApprovals_k | apply raise_k
        | apply restartHandshakes_k)
    | (refine KeepsAt.of ?_ rfl rfl rfl rfl) | (simp only [Keeps.fields])

theorem failOver_k {s0 : State} (a0) (s : State) (h : Keeps s0 s) :
    Keeps s0 (failOver a0 s) := by
  unfold failOver
  repeat' with_reducible first
    | assumption | apply replaceCore_k | apply takeOver_k

theorem coreFailure_k {s0 : State} (a0) (a1) (a2) (s : State) (h : Keeps s0 s) :
    Keeps s0 (coreFailure a0 a1 a2 s) := by
  unfold coreFailure
  repeat' first
    | (with_reducible first
        | assumption | apply replaceCore_k | apply abortCommand_k | apply loseWarden_k | apply failOver_k)
    | split

theorem execFailedCoreSelfTest_k {s0 : State} (a0) (s : State) (h : Keeps s0 s) :
    KeepsRes s0 (execFailedCoreSelfTest a0 s) := by
  unfold execFailedCoreSelfTest
  repeat' first
    | (with_reducible first
        | assumption | apply retireCore_k | apply KeepsRes.next)
    | (refine KeepsAt.of ?_ rfl rfl rfl rfl) | (simp only [Keeps.fields]) | (dsimp only) | split

theorem switchbackRun_k {s0 : State} (s : State) (h : Keeps s0 s) :
    Keeps s0 (switchbackRun s).2 := by
  unfold switchbackRun
  repeat' first
    | (with_reducible first
        | assumption | apply stateCmd_k | (refine Keeps.ofPair (by assumption) ?_) | apply okCmd_k
        | apply failOver_k)
    | split

theorem burnSpare_k {s0 : State} (a0) (s : State) (h : Keeps s0 s) :
    Keeps s0 (burnSpare a0 s) := by
  unfold burnSpare
  repeat' first
    | (with_reducible first
        | assumption | apply logEvent_k | apply KeepsAt.blow)
    | (refine KeepsAt.of ?_ rfl rfl rfl rfl) | (simp only [Keeps.fields]) | (dsimp only) | split

theorem burnSpares_k {s0 : State} (s : State) (h : Keeps s0 s) :
    Keeps s0 (burnSpares s) := by
  unfold burnSpares
  repeat' first
    | (with_reducible first
        | assumption | apply burnSpare_k | (refine stageWrite_k _ _ _ _ (fun t ht => ?_) ?_)
        | (refine Keeps.foldl (fun t a ht => ?_) _ _ ?_))
    | (refine KeepsAt.of ?_ rfl rfl rfl rfl) | (simp only [Keeps.fields]) | (dsimp only) | split

theorem execWardenCheckpoint_k {s0 : State} (s : State) (h : Keeps s0 s) :
    KeepsRes s0 (execWardenCheckpoint s) := by
  unfold execWardenCheckpoint
  repeat' first
    | (with_reducible first
        | assumption | apply checkpoint_k | apply burnRetired_k | apply burnSpares_k | apply KeepsRes.next)
    | split

theorem execLogStagingFlush_k {s0 : State} (s : State) (h : Keeps s0 s) :
    KeepsRes s0 (execLogStagingFlush s) := by
  unfold execLogStagingFlush
  repeat' first
    | (with_reducible first
        | assumption | apply flushLog_k | apply KeepsRes.next)
    | split

theorem logSelWrite_k {s0 : State} (a0) (s : State) (h : Keeps s0 s) :
    Keeps s0 (logSelWrite a0 s) := by
  unfold logSelWrite
  repeat' first
    | (with_reducible assumption)
    | (refine KeepsAt.of ?_ rfl rfl rfl rfl) | (simp only [Keeps.fields])

theorem execLogSelFetchDone_k {s0 : State} (s : State) (h : Keeps s0 s) :
    KeepsRes s0 (execLogSelFetchDone s) := by
  unfold execLogSelFetchDone
  repeat' first
    | (with_reducible first
        | assumption | apply flushLog_k | apply KeepsRes.next)
    | (refine KeepsAt.of ?_ rfl rfl rfl rfl) | (simp only [Keeps.fields]) | (dsimp only) | split

end Sys2Proof.Machine
end

