-- ==== Sys2Proof/Laws/KeepsH.lean ====
section
/-! SUPPORT. What power and the management window keep. -/

namespace Sys2Proof.Machine

-- Power -----------------------------------------------------------------------------------------------

theorem setFault_k {s0 : State} (a0) (s : State) (h : Keeps s0 s) :
    Keeps s0 (setFault a0 s) := by
  unfold setFault
  repeat' first
    | (with_reducible first
        | assumption | apply logEvent_k | apply noteFull_k | apply logReserve_k | apply raise_k)
    | (refine KeepsAt.of ?_ rfl rfl rfl rfl) | (simp only [Keeps.fields]) | (dsimp only) | split

theorem clearFaults_k {s0 : State} (a0) (s : State) (h : Keeps s0 s) :
    Keeps s0 (clearFaults a0 s) := by
  unfold clearFaults
  repeat' first
    | (with_reducible assumption)
    | (refine KeepsAt.of ?_ rfl rfl rfl rfl) | (simp only [Keeps.fields])

theorem lifeCheck_k {s0 : State} (s : State) (h : Keeps s0 s) :
    Keeps s0 (lifeCheck s) := by
  unfold lifeCheck
  repeat' first
    | (with_reducible first
        | assumption | apply setFault_k)
    | split

theorem recharge_k {s0 : State} (s : State) (h : Keeps s0 s) :
    Keeps s0 (recharge s) := by
  unfold recharge
  repeat' first
    | (with_reducible assumption)
    | (refine KeepsAt.of ?_ rfl rfl rfl rfl) | (simp only [Keeps.fields])

theorem execChargerPhaseChange_k {s0 : State} (a0) (a1) (s : State) (h : Keeps s0 s) :
    KeepsRes s0 (execChargerPhaseChange a0 a1 s) := by
  unfold execChargerPhaseChange
  repeat' first
    | (with_reducible first
        | assumption | apply KeepsRes.next)
    | (refine KeepsAt.of ?_ rfl rfl rfl rfl) | (simp only [Keeps.fields]) | (dsimp only) | split

theorem execCellTempReading_k {s0 : State} (a0) (a1) (s : State) (h : Keeps s0 s) :
    KeepsRes s0 (execCellTempReading a0 a1 s) := by
  unfold execCellTempReading
  repeat' first
    | (with_reducible first
        | assumption | apply setFault_k | apply recharge_k | apply KeepsRes.next)
    | (refine KeepsAt.of ?_ rfl rfl rfl rfl) | (simp only [Keeps.fields]) | (dsimp only) | split

theorem execChargeStepRestore_k {s0 : State} (s : State) (h : Keeps s0 s) :
    KeepsRes s0 (execChargeStepRestore s) := by
  unfold execChargeStepRestore
  repeat' first
    | (with_reducible first
        | assumption | apply KeepsRes.next)
    | (refine KeepsAt.of ?_ rfl rfl rfl rfl) | (simp only [Keeps.fields]) | (dsimp only) | split

theorem execPrechargeTimeout_k {s0 : State} (s : State) (h : Keeps s0 s) :
    KeepsRes s0 (execPrechargeTimeout s) := by
  unfold execPrechargeTimeout
  repeat' first
    | (with_reducible first
        | assumption | apply setFault_k | apply recharge_k | apply KeepsRes.next)
    | split

theorem execChargeTimeout_k {s0 : State} (s : State) (h : Keeps s0 s) :
    KeepsRes s0 (execChargeTimeout s) := by
  unfold execChargeTimeout
  repeat' first
    | (with_reducible first
        | assumption | apply setFault_k | apply recharge_k | apply KeepsRes.next)
    | split

theorem execCellFault_k {s0 : State} (a0) (s : State) (h : Keeps s0 s) :
    KeepsRes s0 (execCellFault a0 s) := by
  unfold execCellFault
  repeat' first
    | (with_reducible first
        | assumption | apply setFault_k | apply recharge_k | apply KeepsRes.next)
    | (refine KeepsAt.of ?_ rfl rfl rfl rfl) | (simp only [Keeps.fields]) | (dsimp only) | split

theorem newCell_k {s0 : State} (s : State) (h : Keeps s0 s) :
    Keeps s0 (newCell s) := by
  unfold newCell
  repeat' first
    | (with_reducible assumption)
    | (refine KeepsAt.of ?_ rfl rfl rfl rfl) | (simp only [Keeps.fields]) | split

theorem execCellFaultRecheck_k {s0 : State} (a0) (a1) (s : State) (h : Keeps s0 s) :
    KeepsRes s0 (execCellFaultRecheck a0 a1 s) := by
  unfold execCellFaultRecheck
  repeat' first
    | (with_reducible first
        | assumption | apply clearFaults_k | apply recharge_k | apply newCell_k | apply KeepsRes.next)
    | (refine KeepsAt.of ?_ rfl rfl rfl rfl) | (simp only [Keeps.fields]) | (dsimp only) | split

theorem execCellInserted_k {s0 : State} (a0) (s : State) (h : Keeps s0 s) :
    KeepsRes s0 (execCellInserted a0 s) := by
  unfold execCellInserted
  repeat' first
    | (with_reducible first
        | assumption | apply newCell_k | apply KeepsRes.next)
    | (refine KeepsAt.of ?_ rfl rfl rfl rfl) | (simp only [Keeps.fields]) | split

theorem cellFaultWrite_k {s0 : State} (a0) (s : State) (h : Keeps s0 s) :
    Keeps s0 (cellFaultWrite a0 s) := by
  unfold cellFaultWrite
  repeat' first
    | (with_reducible first
        | assumption | apply clearFaults_k | apply setFault_k | apply recharge_k
        | (refine Keeps.foldl (fun t a ht => ?_) _ _ ?_))

theorem fade_k {s0 : State} (a0) (s : State) (h : Keeps s0 s) :
    Keeps s0 (fade a0 s) := by
  unfold fade
  repeat' first
    | (with_reducible first
        | assumption | apply lifeCheck_k)
    | (refine KeepsAt.of ?_ rfl rfl rfl rfl) | (simp only [Keeps.fields])

theorem countCycles_k {s0 : State} (a0) (s : State) (h : Keeps s0 s) :
    Keeps s0 (countCycles a0 s) := by
  unfold countCycles
  repeat' first
    | (with_reducible first
        | assumption | apply fade_k)
    | (refine KeepsAt.of ?_ rfl rfl rfl rfl) | (simp only [Keeps.fields]) | (dsimp only) | split

theorem execCoulombCounterTick_k {s0 : State} (a0) (s : State) (h : Keeps s0 s) :
    KeepsRes s0 (execCoulombCounterTick a0 s) := by
  unfold execCoulombCounterTick
  repeat' first
    | (with_reducible first
        | assumption | apply countCycles_k | apply KeepsRes.next)
    | (refine KeepsAt.of ?_ rfl rfl rfl rfl) | (simp only [Keeps.fields]) | (dsimp only) | split

theorem execQestDailyUpdate_k {s0 : State} (a0) (s : State) (h : Keeps s0 s) :
    KeepsRes s0 (execQestDailyUpdate a0 s) := by
  unfold execQestDailyUpdate
  repeat' first
    | (with_reducible first
        | assumption | apply fade_k | apply KeepsRes.next)
    | (refine KeepsAt.of ?_ rfl rfl rfl rfl) | (simp only [Keeps.fields]) | split

theorem vanish_k {s0 : State} (a0) (s : State) (h : Keeps s0 s) :
    Keeps s0 (vanish a0 s) := by
  unfold vanish
  repeat' first
    | (with_reducible first
        | assumption | apply dropWork_k | apply settleApprovals_k | apply dropCalls_k | apply countBurned_k
        | apply clearContexts_k | apply parkAfter_k | apply dropReq_k)
    | (dsimp only) | split

theorem hostReset_k {s0 : State} (s : State) (h : Keeps s0 s) :
    Keeps s0 (hostReset s) := by
  unfold hostReset
  repeat' first
    | (with_reducible first
        | assumption | (refine KeepsAt.ofMgtReset (.of ?_ rfl rfl rfl rfl)) | apply vanish_k
        | (refine Keeps.foldl (fun t a ht => ?_) _ _ ?_))
    | (refine KeepsAt.of ?_ rfl rfl rfl rfl) | (simp only [Keeps.fields])

theorem trainLink_k {s0 : State} (s : State) (h : Keeps s0 s) :
    Keeps s0 (trainLink s) := by
  unfold trainLink
  repeat' first
    | (with_reducible first
        | assumption | apply drawMany_k | (refine Keeps.ofPair (by assumption) ?_))
    | (refine KeepsAt.of ?_ rfl rfl rfl rfl) | (simp only [Keeps.fields]) | (dsimp only) | split

theorem dropLink_k {s0 : State} (s : State) (h : Keeps s0 s) :
    Keeps s0 (dropLink s) := by
  unfold dropLink
  repeat' first
    | (with_reducible assumption)
    | (refine KeepsAt.of ?_ rfl rfl rfl rfl) | (simp only [Keeps.fields])

theorem stopClocks_k {s0 : State} (s : State) (h : Keeps s0 s) :
    Keeps s0 (stopClocks s) := by
  unfold stopClocks
  repeat' first
    | (with_reducible assumption)
    | (refine KeepsAt.of ?_ rfl rfl rfl rfl) | (simp only [Keeps.fields])

theorem moveTo_k {s0 : State} (a0) (s : State) (h : Keeps s0 s) :
    Keeps s0 (moveTo a0 s) := by
  unfold moveTo
  repeat' with_reducible first
    | assumption | apply checkpoint_k | apply setPState_k | (refine stageWrite_k _ _ _ _ (fun t ht => ?_) ?_)

theorem tapForRun_k {s0 : State} (s : State) (h : Keeps s0 s) :
    Keeps s0 (tapForRun s) := by
  unfold tapForRun
  repeat' first
    | (with_reducible assumption)
    | (refine KeepsAt.of ?_ rfl rfl rfl rfl) | (simp only [Keeps.fields]) | split

theorem enterRun_k {s0 : State} (s : State) (h : Keeps s0 s) :
    Keeps s0 (enterRun s) := by
  unfold enterRun
  repeat' with_reducible first
    | assumption | apply setSelfRefresh_k | apply tapForRun_k | apply moveTo_k | apply reseedMasks_k

theorem beginDrain_k {s0 : State} (a0) (s : State) (h : Keeps s0 s) :
    Keeps s0 (beginDrain a0 s) := by
  unfold beginDrain
  repeat' first
    | (with_reducible first
        | assumption | apply endReq_k | (refine Keeps.foldl (fun t a ht => ?_) _ _ ?_))
    | (refine KeepsAt.of ?_ rfl rfl rfl rfl) | (simp only [Keeps.fields])

theorem readyDrainDone_k {s0 : State} (s : State) (h : Keeps s0 s) :
    Keeps s0 (readyDrainDone s) := by
  unfold readyDrainDone
  repeat' first
    | (with_reducible first
        | assumption | apply completes_k | apply setSelfRefresh_k | apply moveTo_k | apply stopClocks_k)
    | (refine KeepsAt.of ?_ rfl rfl rfl rfl) | (simp only [Keeps.fields]) | (dsimp only) | split

theorem enterSleep_k {s0 : State} (s : State) (h : Keeps s0 s) :
    Keeps s0 (enterSleep s) := by
  unfold enterSleep
  repeat' first
    | (with_reducible first
        | assumption | apply entropyClear_k | apply setSelfRefresh_k | apply closeAll_k | apply hostReset_k
        | apply moveTo_k | apply dropLink_k)
    | (refine KeepsAt.of ?_ rfl rfl rfl rfl) | (simp only [Keeps.fields])

theorem leaveSleep_k {s0 : State} (a0) (s : State) (h : Keeps s0 s) :
    Keeps s0 (leaveSleep a0 s) := by
  unfold leaveSleep
  repeat' first
    | (with_reducible first
        | assumption | apply trainLink_k | apply refreshHold_k | apply entropyStart_k | apply moveTo_k)
    | (refine KeepsAt.of ?_ rfl rfl rfl rfl) | (simp only [Keeps.fields]) | (dsimp only) | split

theorem powerRun_k {s0 : State} (a0) (a1) (a2) (s : State) (h : Keeps s0 s) :
    Keeps s0 (powerRun a0 a1 a2 s).2 := by
  unfold powerRun
  repeat' first
    | (with_reducible first
        | assumption | apply stateCmd_k | (refine Keeps.ofPair (by assumption) ?_) | apply leaveSleep_k
        | apply beginDrain_k | apply okCmd_k | apply enterRun_k | apply refreshHold_k | apply enterSleep_k)
    | (refine KeepsAt.of ?_ rfl rfl rfl rfl) | (dsimp only) | (dsimp only) | split

theorem reloadRecord_k {s0 : State} (a1) (s : State) (h : Keeps s0 s) :
    Keeps s0 (reloadRecord s a1) := by
  unfold reloadRecord
  repeat' first
    | (with_reducible first
        | assumption | apply installRecord_k)
    | split

theorem logBadDomains_k {s0 : State} (a0) (s : State) (h : Keeps s0 s) :
    Keeps s0 (logBadDomains a0 s) := by
  unfold logBadDomains
  repeat' first
    | (with_reducible first
        | assumption | apply logEvent_k | (refine Keeps.foldl (fun t a ht => ?_) _ _ ?_))

theorem reloadStore_k {s0 : State} (s : State) (h : Keeps s0 s) :
    Keeps s0 (reloadStore s) := by
  unfold reloadStore
  repeat' first
    | (with_reducible first
        | assumption | apply logBadDomains_k | apply reloadRecord_k
        | (refine Keeps.foldl (fun t a ht => ?_) _ _ ?_))
    | (refine KeepsAt.of ?_ rfl rfl rfl rfl) | (simp only [Keeps.fields]) | (dsimp only) | split

theorem releaseVolatile_k {s0 : State} (s : State) (h : Keeps s0 s) :
    Keeps s0 (releaseVolatile s) := by
  unfold releaseVolatile
  repeat' first
    | (with_reducible first
        | assumption | apply emDelete_k | (refine Keeps.ofPair (by assumption) ?_) | apply freeRecord_k
        | (refine Keeps.foldl (fun t a ht => ?_) _ _ ?_))
    | (refine KeepsAt.of ?_ rfl rfl rfl rfl) | (simp only [Keeps.fields]) | (dsimp only) | split

theorem resumeRekey_k {s0 : State} (a0) (s : State) (h : Keeps s0 s) :
    Keeps s0 (resumeRekey a0 s) := by
  unfold resumeRekey
  repeat' first
    | (with_reducible first
        | assumption | apply finishRekey_k | apply rekeyDone_k)
    | (refine KeepsAt.of ?_ rfl rfl rfl rfl) | (simp only [Keeps.fields]) | (dsimp only) | split

theorem dropBadRecords_k {s0 : State} (s : State) (h : Keeps s0 s) :
    Keeps s0 (dropBadRecords s) := by
  unfold dropBadRecords
  repeat' first
    | (with_reducible first
        | assumption | apply logEvent_k | (refine Keeps.foldl (fun t a ht => ?_) _ _ ?_))
    | (refine KeepsAt.of ?_ rfl rfl rfl rfl) | (simp only [Keeps.fields]) | (dsimp only) | split

theorem startMem_k {s0 : State} (a0) (s : State) (h : Keeps s0 s) :
    Keeps s0 (startMem a0 s).2 := by
  unfold startMem
  repeat' first
    | (with_reducible first
        | assumption | apply drawMany_k | (refine Keeps.ofPair (by assumption) ?_) | apply KeepsAt.filter)
    | (refine KeepsAt.of ?_ rfl rfl rfl rfl) | (dsimp only) | (dsimp only) | split



theorem startMem_cells (c : Bool) (s : State) (h : cellsWf s.mem.cells = true) : cellsWf (startMem c s).1.cells = true := by
  unfold startMem
  dsimp only
  split
  · rfl
  · exact cells_filter_wf _ _ h

theorem startBase_k {s0 : State} (c : Nat) (s : State) (h : Keeps s0 s) : Keeps s0 (startBase c s) := by
  have k := startMem_k (c != 3) s h
  exact ⟨k.pending, k.fuses, fun x => startMem_cells _ _ (h.cells x), fun _ => rfl⟩

theorem startWarden_k {s0 : State} (a0) (a1) (a2) (s : State) (h : Keeps s0 s) :
    Keeps s0 (startWarden a0 a1 a2 s) := by
  unfold startWarden
  repeat' first
    | (with_reducible first
        | assumption | apply logEvent_k | apply dropBadRecords_k | apply retireCore_k | apply raise_k
        | apply copyReserve_k | (refine Keeps.foldl (fun t a ht => ?_) _ _ ?_))
    | (refine KeepsAt.of ?_ rfl rfl rfl rfl) | (simp only [Keeps.fields]) | (dsimp only) | split

theorem seedMesh_k {s0 : State} (s : State) (h : Keeps s0 s) :
    Keeps s0 (seedMesh s) := by
  unfold seedMesh
  repeat' first
    | (with_reducible first
        | assumption | apply wardenCalls_k | (refine Keeps.ofSome (by assumption) ?_) | apply KeepsOpt.some
        | apply draw_k | (refine Keeps.ofPair (by assumption) ?_))
    | (refine KeepsAt.of ?_ rfl rfl rfl rfl) | (simp only [Keeps.fields]) | (dsimp only) | split

theorem lockedInstances_k {s0 : State} (s : State) (h : Keeps s0 s) :
    Keeps s0 (lockedInstances s) := by
  unfold lockedInstances
  repeat' first
    | (with_reducible assumption)
    | (refine KeepsAt.of ?_ rfl rfl rfl rfl) | (simp only [Keeps.fields]) | (dsimp only) | split

theorem startLoad_k {s0 : State} (a0) (a1) (s : State) (h : Keeps s0 s) :
    Keeps s0 (startLoad a0 a1 s) := by
  unfold startLoad
  repeat' first
    | (with_reducible first
        | assumption | apply unsealFailed_k | apply startDecode_k | apply lockedInstances_k | apply loadImage_k
        | apply stopScrapped_k | apply seedMesh_k | apply entropyStart_k | apply startUnits_k)
    | (dsimp only) | split

theorem endStart_k {s0 : State} (s : State) (h : Keeps s0 s) :
    Keeps s0 (endStart s) := by
  unfold endStart
  repeat' first
    | (with_reducible first
        | assumption | apply checkpoint_k | apply setPState_k | apply setSelfRefresh_k | apply refreshHold_k
        | apply tapForRun_k | apply reseedMasks_k)
    | (refine KeepsAt.of ?_ rfl rfl rfl rfl) | (simp only [Keeps.fields]) | (dsimp only) | split

theorem startFinish_k {s0 : State} (a0) (s : State) (h : Keeps s0 s) :
    Keeps s0 (startFinish a0 s) := by
  unfold startFinish
  repeat' first
    | (with_reducible first
        | assumption | apply trainLink_k | apply endStart_k | apply resumeRekey_k | apply releaseVolatile_k
        | apply setFault_k | apply recharge_k | apply reloadStore_k)
    | (dsimp only) | split

theorem start_k {s0 : State} (a0) (a1) (a2) (s : State) (h : Keeps s0 s) :
    Keeps s0 (start a0 a1 a2 s) := by
  unfold start
  repeat' first
    | (with_reducible first
        | assumption | apply startFinish_k | apply loseWarden_k | apply startBase_k | apply startWarden_k
        | apply killSeeds_k | apply startLoad_k)
    | (refine KeepsAt.of ?_ rfl rfl rfl rfl) | (simp only [Keeps.fields]) | (dsimp only) | split

theorem finishBurn_k {s0 : State} (s : State) (h : Keeps s0 s) :
    Keeps s0 (finishBurn s) := by
  unfold finishBurn
  repeat' first
    | (with_reducible first
        | assumption | apply KeepsAt.blow)
    | (refine KeepsAt.of ?_ rfl rfl rfl rfl) | (simp only [Keeps.fields]) | split

theorem execVinValid_k {s0 : State} (a0) (s : State) (h : Keeps s0 s) :
    KeepsRes s0 (execVinValid a0 s) := by
  unfold execVinValid
  repeat' first
    | (with_reducible first
        | assumption | apply start_k | apply KeepsRes.next)
    | (refine KeepsAt.of ?_ rfl rfl rfl rfl) | (simp only [Keeps.fields]) | split

theorem execModRstN_k {s0 : State} (a0) (a1) (a2) (s : State) (h : Keeps s0 s) :
    KeepsRes s0 (execModRstN a0 a1 a2 s) := by
  unfold execModRstN
  repeat' first
    | (with_reducible first
        | assumption | apply reverseProv_k | apply start_k | apply finishBurn_k | apply flushLog_k
        | apply KeepsRes.next | (refine Keeps.foldl (fun t a ht => ?_) _ _ ?_))
    | (dsimp only) | split

theorem reloadDomain_k {s0 : State} (a0) (s : State) (h : Keeps s0 s) :
    Keeps s0 (reloadDomain a0 s) := by
  unfold reloadDomain
  repeat' first
    | (with_reducible first
        | assumption | apply setDomain_k)
    | (refine KeepsAt.of ?_ rfl rfl rfl rfl) | (simp only [Keeps.fields]) | (dsimp only) | split

theorem execDomainReloadLocal_k {s0 : State} (a0) (s : State) (h : Keeps s0 s) :
    KeepsRes s0 (execDomainReloadLocal a0 s) := by
  unfold execDomainReloadLocal
  repeat' first
    | (with_reducible first
        | assumption | apply endStart_k | apply reloadDomain_k | apply KeepsRes.next)
    | (dsimp only) | split

theorem execStartEndTimeout_k {s0 : State} (s : State) (h : Keeps s0 s) :
    KeepsRes s0 (execStartEndTimeout s) := by
  unfold execStartEndTimeout
  repeat' first
    | (with_reducible first
        | assumption | apply endStart_k | apply KeepsRes.next)
    | split

theorem loseVin_k {s0 : State} (a0) (s : State) (h : Keeps s0 s) :
    Keeps s0 (loseVin a0 s) := by
  unfold loseVin
  repeat' first
    | (with_reducible first
        | assumption | apply noteFull_k | apply loseVault_k | apply logReserve_k | apply clearKeys_k
        | apply dropApprovals_k)
    | (refine KeepsAt.of ?_ rfl rfl rfl rfl) | (simp only [Keeps.fields])

theorem execVinLockout_k {s0 : State} (a0) (a1) (a2) (s : State) (h : Keeps s0 s) :
    KeepsRes s0 (execVinLockout a0 a1 a2 s) := by
  unfold execVinLockout
  repeat' first
    | (with_reducible first
        | assumption | apply KeepsRes.fault | apply loseVin_k | apply KeepsRes.next)
    | (refine KeepsAt.of ?_ rfl rfl rfl rfl) | (simp only [Keeps.fields]) | (dsimp only) | split

theorem execReserveEntry_k {s0 : State} (s : State) (h : Keeps s0 s) :
    KeepsRes s0 (execReserveEntry s) := by
  unfold execReserveEntry
  repeat' first
    | (with_reducible first
        | assumption | apply logReserve_k | apply finishBurn_k | apply KeepsRes.next)
    | (refine KeepsAt.of ?_ rfl rfl rfl rfl) | (simp only [Keeps.fields]) | (dsimp only) | split

theorem execReserveExhaustion_k {s0 : State} (a0) (s : State) (h : Keeps s0 s) :
    KeepsRes s0 (execReserveExhaustion a0 s) := by
  unfold execReserveExhaustion
  repeat' first
    | (with_reducible first
        | assumption | apply exhaustReserve_k | apply killSeeds_k | apply KeepsRes.next)
    | (refine KeepsAt.of ?_ rfl rfl rfl rfl) | (simp only [Keeps.fields]) | (dsimp only) | split

theorem execCapFloorReached_k {s0 : State} (s : State) (h : Keeps s0 s) :
    KeepsRes s0 (execCapFloorReached s) := by
  unfold execCapFloorReached
  repeat' first
    | (with_reducible first
        | assumption | apply KeepsRes.next)
    | (refine KeepsAt.of ?_ rfl rfl rfl rfl) | (simp only [Keeps.fields]) | split

theorem capFullReached_k {s0 : State} (s : State) (h : Keeps s0 s) :
    Keeps s0 (capFullReached s) := by
  unfold capFullReached
  repeat' first
    | (with_reducible first
        | assumption | apply chargeFull_k)
    | (refine KeepsAt.of ?_ rfl rfl rfl rfl) | (simp only [Keeps.fields]) | split

theorem idle_k {s0 : State} (s : State) (h : Keeps s0 s) :
    Keeps s0 (idle s) := by
  unfold idle
  repeat' first
    | (with_reducible assumption)
    | (refine KeepsAt.of ?_ rfl rfl rfl rfl) | (simp only [Keeps.fields]) | (dsimp only) | split

-- Flags -----------------------------------------------------------------------------------------------

theorem setLatch_k {s0 : State} (a0) (a1) (s : State) (h : Keeps s0 s) :
    Keeps s0 (setLatch a0 a1 s) := by
  unfold setLatch
  repeat' first
    | (with_reducible assumption)
    | (refine KeepsAt.of ?_ rfl rfl rfl rfl) | (simp only [Keeps.fields]) | split

theorem readReg_k {s0 : State} (a0) (a1) (s : State) (h : Keeps s0 s) :
    Keeps s0 (readReg a0 a1 s).2 := by
  unfold readReg
  repeat' first
    | (with_reducible first
        | assumption | apply setLatch_k | apply rawPop_k | (refine Keeps.ofPair (by assumption) ?_))
    | (refine KeepsAt.of ?_ rfl rfl rfl rfl) | (simp only [Keeps.fields]) | split

-- Mgmt ------------------------------------------------------------------------------------------------

theorem mgtRun_k {s0 : State} (a0) (a1) (a2) (a3) (s : State) (h : Keeps s0 s) :
    Keeps s0 (mgtRun a0 a1 a2 a3 s).2 := by
  unfold mgtRun
  repeat' first
    | (with_reducible first
        | assumption | apply sliceResetRun_k | (refine Keeps.ofPair (by assumption) ?_) | apply custodianRun_k
        | apply imageActivateRun_k | apply lifecycleRun_k | apply logClearRun_k | apply sliceRestoreRun_k
        | apply queueCreateRun_k | apply vaultRekeyRun_k | apply okCmd_k | apply identityAttestRun_k
        | apply imageStageRun_k | apply membershipRun_k | apply latchAll_k | apply ownerEnrolRun_k
        | apply sliceSaveRun_k | apply sliceFreezeRun_k | apply domainRun_k | apply engineAbortRun_k
        | apply switchbackRun_k | apply scrapRun_k | apply unlockRun_k | apply powerRun_k | apply queueDeleteRun_k
        | apply recharge_k | apply failCmd_k | apply vaultResealRun_k)
    | (refine KeepsAt.of ?_ rfl rfl rfl rfl) | (dsimp only) | (dsimp only) | split

theorem mgtRefuse_k {s0 : State} (a0) (s : State) (h : Keeps s0 s) :
    Keeps s0 (mgtRefuse a0 s).2 := by
  unfold mgtRefuse
  repeat' first
    | (with_reducible first
        | assumption | apply setReject_k)
    | (refine KeepsAt.of ?_ rfl rfl rfl rfl) | (dsimp only) | (dsimp only) | split

theorem runHeld_k {s0 : State} (a0) (s : State) (h : Keeps s0 s) :
    Keeps s0 (runHeld a0 s) := by
  unfold runHeld
  repeat' first
    | (with_reducible first
        | assumption | apply mgtRun_k | (refine Keeps.ofPair (by assumption) ?_) | apply mgtEnd_k
        | apply mgtRefuse_k)
    | (refine KeepsAt.of ?_ rfl rfl rfl rfl) | (dsimp only) | (dsimp only) | split

theorem checkRunning_k {s0 : State} (s : State) (h : Keeps s0 s) :
    Keeps s0 (checkRunning s) := by
  unfold checkRunning
  repeat' first
    | (with_reducible first
        | assumption | apply endRunning_k | apply flushOutput_k)
    | (refine KeepsAt.of ?_ rfl rfl rfl rfl) | (dsimp only) | (dsimp only) | split

theorem pumpN_k {s0 : State} : ∀ (n : Nat) (s : State), Keeps s0 s → Keeps s0 (pumpN n s)
  | 0, _, h => h
  | n + 1, s, h => by
    unfold pumpN
    have t := checkRunning_k s h
    dsimp only
    split
    · exact t
    · split
      · exact t
      · refine pumpN_k n _ (runHeld_k _ _ ?_)
        simp only [Keeps.fields]
        exact .of t rfl rfl rfl rfl

theorem pump_k {s0 : State} (s : State) (h : Keeps s0 s) :
    Keeps s0 (pump s) := by
  unfold pump
  repeat' with_reducible first
    | assumption | apply pumpN_k

theorem lockCommand_k {s0 : State} (s : State) (h : Keeps s0 s) :
    Keeps s0 (lockCommand s) := by
  unfold lockCommand
  repeat' first
    | (with_reducible first
        | assumption | apply endRunning_k)
    | (refine KeepsAt.of ?_ rfl rfl rfl rfl) | (simp only [Keeps.fields]) | (dsimp only) | split

theorem execPowerStateRun_k {s0 : State} (a0) (s : State) (h : Keeps s0 s) :
    KeepsRes s0 (execPowerStateRun a0 s) := by
  unfold execPowerStateRun
  repeat' with_reducible first
    | assumption | apply pump_k | apply hostLaunch_k | apply KeepsRes.next

theorem execPowerStateReady_k {s0 : State} (a0) (s : State) (h : Keeps s0 s) :
    KeepsRes s0 (execPowerStateReady a0 s) := by
  unfold execPowerStateReady
  repeat' with_reducible first
    | assumption | apply pump_k | apply hostLaunch_k | apply KeepsRes.next

theorem execPowerStateSleep_k {s0 : State} (a0) (s : State) (h : Keeps s0 s) :
    KeepsRes s0 (execPowerStateSleep a0 s) := by
  unfold execPowerStateSleep
  repeat' with_reducible first
    | assumption | apply pump_k | apply hostLaunch_k | apply KeepsRes.next

theorem execImageStage_k {s0 : State} (a0) (s : State) (h : Keeps s0 s) :
    KeepsRes s0 (execImageStage a0 s) := by
  unfold execImageStage
  repeat' with_reducible first
    | assumption | apply pump_k | apply hostLaunch_k | apply KeepsRes.next

theorem execImageActivate_k {s0 : State} (a0) (s : State) (h : Keeps s0 s) :
    KeepsRes s0 (execImageActivate a0 s) := by
  unfold execImageActivate
  repeat' with_reducible first
    | assumption | apply pump_k | apply hostLaunch_k | apply KeepsRes.next

theorem execQueueCreate_k {s0 : State} (a0) (s : State) (h : Keeps s0 s) :
    KeepsRes s0 (execQueueCreate a0 s) := by
  unfold execQueueCreate
  repeat' with_reducible first
    | assumption | apply pump_k | apply hostLaunch_k | apply KeepsRes.next

theorem execQueueDelete_k {s0 : State} (a0) (s : State) (h : Keeps s0 s) :
    KeepsRes s0 (execQueueDelete a0 s) := by
  unfold execQueueDelete
  repeat' with_reducible first
    | assumption | apply pump_k | apply hostLaunch_k | apply KeepsRes.next

theorem execSliceResetDrain_k {s0 : State} (a0) (s : State) (h : Keeps s0 s) :
    KeepsRes s0 (execSliceResetDrain a0 s) := by
  unfold execSliceResetDrain
  repeat' with_reducible first
    | assumption | apply pump_k | apply hostLaunch_k | apply KeepsRes.next

theorem execSliceResetSquash_k {s0 : State} (a0) (s : State) (h : Keeps s0 s) :
    KeepsRes s0 (execSliceResetSquash a0 s) := by
  unfold execSliceResetSquash
  repeat' with_reducible first
    | assumption | apply pump_k | apply hostLaunch_k | apply KeepsRes.next

theorem execSliceFreeze_k {s0 : State} (a0) (s : State) (h : Keeps s0 s) :
    KeepsRes s0 (execSliceFreeze a0 s) := by
  unfold execSliceFreeze
  repeat' with_reducible first
    | assumption | apply pump_k | apply hostLaunch_k | apply KeepsRes.next

theorem execSliceThaw_k {s0 : State} (a0) (s : State) (h : Keeps s0 s) :
    KeepsRes s0 (execSliceThaw a0 s) := by
  unfold execSliceThaw
  repeat' with_reducible first
    | assumption | apply pump_k | apply hostLaunch_k | apply KeepsRes.next

theorem execSliceSave_k {s0 : State} (a0) (s : State) (h : Keeps s0 s) :
    KeepsRes s0 (execSliceSave a0 s) := by
  unfold execSliceSave
  repeat' with_reducible first
    | assumption | apply pump_k | apply hostLaunch_k | apply KeepsRes.next

theorem execSliceRestorePrepare_k {s0 : State} (a0) (s : State) (h : Keeps s0 s) :
    KeepsRes s0 (execSliceRestorePrepare a0 s) := by
  unfold execSliceRestorePrepare
  repeat' with_reducible first
    | assumption | apply pump_k | apply hostLaunch_k | apply KeepsRes.next

theorem execSliceRestore_k {s0 : State} (a0) (s : State) (h : Keeps s0 s) :
    KeepsRes s0 (execSliceRestore a0 s) := by
  unfold execSliceRestore
  repeat' with_reducible first
    | assumption | apply pump_k | apply hostLaunch_k | apply KeepsRes.next

theorem execMeterLatchAll_k {s0 : State} (a0) (s : State) (h : Keeps s0 s) :
    KeepsRes s0 (execMeterLatchAll a0 s) := by
  unfold execMeterLatchAll
  repeat' with_reducible first
    | assumption | apply pump_k | apply hostLaunch_k | apply KeepsRes.next

theorem execLogClearMain_k {s0 : State} (a0) (s : State) (h : Keeps s0 s) :
    KeepsRes s0 (execLogClearMain a0 s) := by
  unfold execLogClearMain
  repeat' with_reducible first
    | assumption | apply pump_k | apply hostLaunch_k | apply KeepsRes.next

theorem execLogClearReserve_k {s0 : State} (a0) (s : State) (h : Keeps s0 s) :
    KeepsRes s0 (execLogClearReserve a0 s) := by
  unfold execLogClearReserve
  repeat' with_reducible first
    | assumption | apply pump_k | apply hostLaunch_k | apply KeepsRes.next

theorem execLogClearBoth_k {s0 : State} (a0) (s : State) (h : Keeps s0 s) :
    KeepsRes s0 (execLogClearBoth a0 s) := by
  unfold execLogClearBoth
  repeat' with_reducible first
    | assumption | apply pump_k | apply hostLaunch_k | apply KeepsRes.next

theorem execWardenSwitchback_k {s0 : State} (a0) (s : State) (h : Keeps s0 s) :
    KeepsRes s0 (execWardenSwitchback a0 s) := by
  unfold execWardenSwitchback
  repeat' with_reducible first
    | assumption | apply pump_k | apply hostLaunch_k | apply KeepsRes.next

theorem execUnlock_k {s0 : State} (a0) (s : State) (h : Keeps s0 s) :
    KeepsRes s0 (execUnlock a0 s) := by
  unfold execUnlock
  repeat' with_reducible first
    | assumption | apply pump_k | apply hostLaunch_k | apply KeepsRes.next

theorem execLifecycleRequestIntegrator_k {s0 : State} (a0) (s : State) (h : Keeps s0 s) :
    KeepsRes s0 (execLifecycleRequestIntegrator a0 s) := by
  unfold execLifecycleRequestIntegrator
  repeat' with_reducible first
    | assumption | apply pump_k | apply hostLaunch_k | apply KeepsRes.next

theorem execLifecycleRequestFielded_k {s0 : State} (a0) (s : State) (h : Keeps s0 s) :
    KeepsRes s0 (execLifecycleRequestFielded a0 s) := by
  unfold execLifecycleRequestFielded
  repeat' with_reducible first
    | assumption | apply pump_k | apply hostLaunch_k | apply KeepsRes.next

theorem execLifecycleRequestReturned_k {s0 : State} (a0) (s : State) (h : Keeps s0 s) :
    KeepsRes s0 (execLifecycleRequestReturned a0 s) := by
  unfold execLifecycleRequestReturned
  repeat' with_reducible first
    | assumption | apply pump_k | apply hostLaunch_k | apply KeepsRes.next

theorem execScrap_k {s0 : State} (a0) (s : State) (h : Keeps s0 s) :
    KeepsRes s0 (execScrap a0 s) := by
  unfold execScrap
  repeat' with_reducible first
    | assumption | apply pump_k | apply hostLaunch_k | apply KeepsRes.next

theorem execOwnerEnrol_k {s0 : State} (a0) (s : State) (h : Keeps s0 s) :
    KeepsRes s0 (execOwnerEnrol a0 s) := by
  unfold execOwnerEnrol
  repeat' with_reducible first
    | assumption | apply pump_k | apply hostLaunch_k | apply KeepsRes.next

theorem execOwnerEnrolRoster_k {s0 : State} (a0) (s : State) (h : Keeps s0 s) :
    KeepsRes s0 (execOwnerEnrolRoster a0 s) := by
  unfold execOwnerEnrolRoster
  repeat' with_reducible first
    | assumption | apply pump_k | apply hostLaunch_k | apply KeepsRes.next

theorem execIdentityAttest_k {s0 : State} (a0) (s : State) (h : Keeps s0 s) :
    KeepsRes s0 (execIdentityAttest a0 s) := by
  unfold execIdentityAttest
  repeat' with_reducible first
    | assumption | apply pump_k | apply hostLaunch_k | apply KeepsRes.next

theorem execVaultResealStage_k {s0 : State} (a0) (s : State) (h : Keeps s0 s) :
    KeepsRes s0 (execVaultResealStage a0 s) := by
  unfold execVaultResealStage
  repeat' with_reducible first
    | assumption | apply pump_k | apply hostLaunch_k | apply KeepsRes.next

theorem execVaultResealCommit_k {s0 : State} (a0) (s : State) (h : Keeps s0 s) :
    KeepsRes s0 (execVaultResealCommit a0 s) := by
  unfold execVaultResealCommit
  repeat' with_reducible first
    | assumption | apply pump_k | apply hostLaunch_k | apply KeepsRes.next

theorem execVaultResealAbandon_k {s0 : State} (a0) (s : State) (h : Keeps s0 s) :
    KeepsRes s0 (execVaultResealAbandon a0 s) := by
  unfold execVaultResealAbandon
  repeat' with_reducible first
    | assumption | apply pump_k | apply hostLaunch_k | apply KeepsRes.next

theorem execVaultRekey_k {s0 : State} (a0) (s : State) (h : Keeps s0 s) :
    KeepsRes s0 (execVaultRekey a0 s) := by
  unfold execVaultRekey
  repeat' with_reducible first
    | assumption | apply pump_k | apply hostLaunch_k | apply KeepsRes.next

theorem execCustodianSessionOpen_k {s0 : State} (a0) (s : State) (h : Keeps s0 s) :
    KeepsRes s0 (execCustodianSessionOpen a0 s) := by
  unfold execCustodianSessionOpen
  repeat' with_reducible first
    | assumption | apply pump_k | apply hostLaunch_k | apply KeepsRes.next

theorem execCustodianSessionApprove_k {s0 : State} (a0) (s : State) (h : Keeps s0 s) :
    KeepsRes s0 (execCustodianSessionApprove a0 s) := by
  unfold execCustodianSessionApprove
  repeat' with_reducible first
    | assumption | apply pump_k | apply hostLaunch_k | apply KeepsRes.next

theorem execCustodianSessionWithdraw_k {s0 : State} (a0) (s : State) (h : Keeps s0 s) :
    KeepsRes s0 (execCustodianSessionWithdraw a0 s) := by
  unfold execCustodianSessionWithdraw
  repeat' with_reducible first
    | assumption | apply pump_k | apply hostLaunch_k | apply KeepsRes.next

theorem execCustodianSessionClose_k {s0 : State} (a0) (s : State) (h : Keeps s0 s) :
    KeepsRes s0 (execCustodianSessionClose a0 s) := by
  unfold execCustodianSessionClose
  repeat' with_reducible first
    | assumption | apply pump_k | apply hostLaunch_k | apply KeepsRes.next

theorem execCustodianSessionStatus_k {s0 : State} (a0) (s : State) (h : Keeps s0 s) :
    KeepsRes s0 (execCustodianSessionStatus a0 s) := by
  unfold execCustodianSessionStatus
  repeat' with_reducible first
    | assumption | apply pump_k | apply hostLaunch_k | apply KeepsRes.next

theorem execMembershipInstall_k {s0 : State} (a0) (s : State) (h : Keeps s0 s) :
    KeepsRes s0 (execMembershipInstall a0 s) := by
  unfold execMembershipInstall
  repeat' with_reducible first
    | assumption | apply pump_k | apply hostLaunch_k | apply KeepsRes.next

theorem execDomainCreate_k {s0 : State} (a0) (s : State) (h : Keeps s0 s) :
    KeepsRes s0 (execDomainCreate a0 s) := by
  unfold execDomainCreate
  repeat' with_reducible first
    | assumption | apply pump_k | apply hostLaunch_k | apply KeepsRes.next

theorem execDomainSetStandby_k {s0 : State} (a0) (s : State) (h : Keeps s0 s) :
    KeepsRes s0 (execDomainSetStandby a0 s) := by
  unfold execDomainSetStandby
  repeat' with_reducible first
    | assumption | apply pump_k | apply hostLaunch_k | apply KeepsRes.next

theorem execDomainHandover_k {s0 : State} (a0) (s : State) (h : Keeps s0 s) :
    KeepsRes s0 (execDomainHandover a0 s) := by
  unfold execDomainHandover
  repeat' with_reducible first
    | assumption | apply pump_k | apply hostLaunch_k | apply KeepsRes.next

theorem execEngineAbort_k {s0 : State} (a0) (s : State) (h : Keeps s0 s) :
    KeepsRes s0 (execEngineAbort a0 s) := by
  unfold execEngineAbort
  repeat' with_reducible first
    | assumption | apply pump_k | apply hostLaunch_k | apply KeepsRes.next

theorem execReadyDrainDone_k {s0 : State} (s : State) (h : Keeps s0 s) :
    KeepsRes s0 (execReadyDrainDone s) := by
  unfold execReadyDrainDone
  repeat' with_reducible first
    | assumption | apply readyDrainDone_k | apply pump_k | apply KeepsRes.next

theorem execSliceResetDone_k {s0 : State} (a0) (s : State) (h : Keeps s0 s) :
    KeepsRes s0 (execSliceResetDone a0 s) := by
  unfold execSliceResetDone
  repeat' with_reducible first
    | assumption | apply sliceResetDone_k | apply pump_k | apply KeepsRes.next

theorem execSliceFreezeDone_k {s0 : State} (a0) (s : State) (h : Keeps s0 s) :
    KeepsRes s0 (execSliceFreezeDone a0 s) := by
  unfold execSliceFreezeDone
  repeat' with_reducible first
    | assumption | apply sliceFreezeDone_k | apply pump_k | apply KeepsRes.next

theorem execDrainCeilingExpiry_k {s0 : State} (a0) (s : State) (h : Keeps s0 s) :
    KeepsRes s0 (execDrainCeilingExpiry a0 s) := by
  unfold execDrainCeilingExpiry
  repeat' with_reducible first
    | assumption | apply drainCeiling_k | apply KeepsRes.next

theorem execRekeyRangeDone_k {s0 : State} (s : State) (h : Keeps s0 s) :
    KeepsRes s0 (execRekeyRangeDone s) := by
  unfold execRekeyRangeDone
  repeat' with_reducible first
    | assumption | apply pump_k | apply rekeyRangeDone_k | apply KeepsRes.next

theorem execLcsEnergyWait_k {s0 : State} (s : State) (h : Keeps s0 s) :
    KeepsRes s0 (execLcsEnergyWait s) := by
  unfold execLcsEnergyWait
  repeat' with_reducible first
    | assumption | apply energyWait_k | apply pump_k | apply KeepsRes.next

theorem execCapFullReached_k {s0 : State} (s : State) (h : Keeps s0 s) :
    KeepsRes s0 (execCapFullReached s) := by
  unfold execCapFullReached
  repeat' with_reducible first
    | assumption | apply capFullReached_k | apply pump_k | apply KeepsRes.next

theorem execTamperAlarm_k {s0 : State} (a0) (a1) (s : State) (h : Keeps s0 s) :
    KeepsRes s0 (execTamperAlarm a0 a1 s) := by
  unfold execTamperAlarm
  repeat' first
    | (with_reducible first
        | assumption | apply tamperAlarm_k | apply pump_k | apply lockCommand_k | apply KeepsRes.next)
    | (dsimp only) | split

theorem execWardenCoreFailure_k {s0 : State} (a0) (a1) (a2) (s : State) (h : Keeps s0 s) :
    KeepsRes s0 (execWardenCoreFailure a0 a1 a2 s) := by
  unfold execWardenCoreFailure
  repeat' with_reducible first
    | assumption | apply coreFailure_k | apply pump_k | apply KeepsRes.next

theorem execSessionBurgee_k {s0 : State} (a0) (a1) (s : State) (h : Keeps s0 s) :
    KeepsRes s0 (execSessionBurgee a0 a1 s) := by
  unfold execSessionBurgee
  repeat' with_reducible first
    | assumption | apply sessionBurgee_k | apply pump_k | apply KeepsRes.next

theorem execBurgeeMissed_k {s0 : State} (a0) (s : State) (h : Keeps s0 s) :
    KeepsRes s0 (execBurgeeMissed a0 s) := by
  unfold execBurgeeMissed
  repeat' with_reducible first
    | assumption | apply pump_k | apply burgeeMissed_k | apply KeepsRes.next

theorem execClaimMessage_k {s0 : State} (a0) (a1) (a2) (a3) (a4) (a5) (a6) (s : State) (h : Keeps s0 s) :
    KeepsRes s0 (execClaimMessage a0 a1 a2 a3 a4 a5 a6 s) := by
  unfold execClaimMessage
  repeat' with_reducible first
    | assumption | apply claimMessage_k | apply pump_k | apply KeepsRes.next

theorem execResyncReject_k {s0 : State} (a0) (a1) (a2) (s : State) (h : Keeps s0 s) :
    KeepsRes s0 (execResyncReject a0 a1 a2 s) := by
  unfold execResyncReject
  repeat' with_reducible first
    | assumption | apply resyncReject_k | apply pump_k | apply KeepsRes.next

end Sys2Proof.Machine
end

