-- ==== Sys2Proof/Laws/KeepsI.lean ====
section
/-! SUPPORT. What the host interface and the test port keep. -/

namespace Sys2Proof.Machine

-- Hostif ----------------------------------------------------------------------------------------------

theorem mgtWrite_k {s0 : State} (a0) (a1) (a2) (a3) (s : State) (h : Keeps s0 s) :
    Keeps s0 (mgtWrite a0 a1 a2 a3 s) := by
  unfold mgtWrite
  repeat' first
    | (with_reducible first
        | assumption | apply writeCmd_k | apply KeepsAt.bufWrite)
    | (refine KeepsAt.of ?_ rfl rfl rfl rfl) | (simp only [Keeps.fields]) | (dsimp only) | split

theorem admWrite_k {s0 : State} (a0) (a1) (s : State) (h : Keeps s0 s) :
    Keeps s0 (admWrite a0 a1 s) := by
  unfold admWrite
  repeat' first
    | (with_reducible assumption)
    | (refine KeepsAt.of ?_ rfl rfl rfl rfl) | (simp only [Keeps.fields]) | split

theorem slcWrite_k {s0 : State} (a0) (a1) (s : State) (h : Keeps s0 s) :
    Keeps s0 (slcWrite a0 a1 s) := by
  unfold slcWrite
  repeat' first
    | (with_reducible first
        | assumption | apply updSlice_k)
    | (refine KeepsAt.of ?_ rfl rfl rfl rfl) | (simp only [Keeps.fields]) | (dsimp only) | split

theorem lkuWrite_k {s0 : State} (a0) (a1) (a2) (s : State) (h : Keeps s0 s) :
    Keeps s0 (lkuWrite a0 a1 a2 s) := by
  unfold lkuWrite
  repeat' first
    | (with_reducible first
        | assumption | apply lkuRun_k | apply lkuBusyWrite_k | apply lkuBatchRun_k)
    | (refine KeepsAt.of ?_ rfl rfl rfl rfl) | (simp only [Keeps.fields]) | (dsimp only) | split

theorem fabWrite_k {s0 : State} (a0) (a1) (s : State) (h : Keeps s0 s) :
    Keeps s0 (fabWrite a0 a1 s) := by
  unfold fabWrite
  repeat' first
    | (with_reducible assumption)
    | (refine KeepsAt.of ?_ rfl rfl rfl rfl) | (simp only [Keeps.fields]) | (dsimp only) | split

theorem engWrite_k {s0 : State} (a0) (a1) (s : State) (h : Keeps s0 s) :
    Keeps s0 (engWrite a0 a1 s) := by
  unfold engWrite
  repeat' first
    | (with_reducible assumption)
    | (refine KeepsAt.of ?_ rfl rfl rfl rfl) | (simp only [Keeps.fields]) | split

theorem entWrite_k {s0 : State} (a0) (a1) (s : State) (h : Keeps s0 s) :
    Keeps s0 (entWrite a0 a1 s) := by
  unfold entWrite
  repeat' first
    | (with_reducible first
        | assumption | apply rawCtrl_k)
    | (refine KeepsAt.of ?_ rfl rfl rfl rfl) | (simp only [Keeps.fields]) | split

theorem wdnIgnored_k {s0 : State} (a0) (s : State) (h : Keeps s0 s) :
    Keeps s0 (wdnIgnored a0 s) := by
  unfold wdnIgnored
  repeat' first
    | (with_reducible first
        | assumption | apply logEvent_k)
    | (refine KeepsAt.of ?_ rfl rfl rfl rfl) | (simp only [Keeps.fields])

theorem memWrite_k {s0 : State} (a0) (s : State) (h : Keeps s0 s) :
    Keeps s0 (memWrite a0 s) := by
  unfold memWrite
  repeat' first
    | (with_reducible first
        | assumption | apply wdnIgnored_k)
    | split

theorem tmpWrite_k {s0 : State} (a0) (a1) (s : State) (h : Keeps s0 s) :
    Keeps s0 (tmpWrite a0 a1 s) := by
  unfold tmpWrite
  repeat' first
    | (with_reducible first
        | assumption | apply tmpFuseWrite_k)
    | (refine KeepsAt.of ?_ rfl rfl rfl rfl) | (simp only [Keeps.fields]) | (dsimp only) | split

theorem pwrWrite_k {s0 : State} (a0) (a1) (s : State) (h : Keeps s0 s) :
    Keeps s0 (pwrWrite a0 a1 s) := by
  unfold pwrWrite
  repeat' first
    | (with_reducible first
        | assumption | apply cellFaultWrite_k)
    | (refine KeepsAt.of ?_ rfl rfl rfl rfl) | (simp only [Keeps.fields]) | split

theorem regWrite_k {s0 : State} (a0) (a1) (a2) (a3) (s : State) (h : Keeps s0 s) :
    Keeps s0 (regWrite a0 a1 a2 a3 s) := by
  unfold regWrite
  repeat' first
    | (with_reducible first
        | assumption | apply mgtWrite_k | apply slcWrite_k | apply memWrite_k | apply engWrite_k | apply pwrWrite_k
        | apply entWrite_k | apply tmpWrite_k | apply fabWrite_k | apply admWrite_k | apply lkuWrite_k
        | apply logSelWrite_k)
    | (refine KeepsAt.of ?_ rfl rfl rfl rfl) | (simp only [Keeps.fields]) | (dsimp only) | split

theorem writeReg_k {s0 : State} (a0) (a1) (a2) (a3) (s : State) (h : Keeps s0 s) :
    Keeps s0 (writeReg a0 a1 a2 a3 s) := by
  unfold writeReg
  repeat' first
    | (with_reducible first
        | assumption | apply regWrite_k | apply mgtInvalid_k | apply pump_k)
    | split

theorem execRegisterWrite_k {s0 : State} (a0) (a1) (a2) (a3) (s : State) (h : Keeps s0 s) :
    KeepsRes s0 (execRegisterWrite a0 a1 a2 a3 s) := by
  unfold execRegisterWrite
  repeat' with_reducible first
    | assumption | apply writeReg_k | apply KeepsRes.next

theorem execEntRawCtrl_k {s0 : State} (a0) (a1) (s : State) (h : Keeps s0 s) :
    KeepsRes s0 (execEntRawCtrl a0 a1 s) := by
  unfold execEntRawCtrl
  repeat' first
    | (with_reducible first
        | assumption | apply writeReg_k | apply KeepsRes.next)

theorem execLogSel_k {s0 : State} (a0) (a1) (s : State) (h : Keeps s0 s) :
    KeepsRes s0 (execLogSel a0 a1 s) := by
  unfold execLogSel
  repeat' first
    | (with_reducible first
        | assumption | apply writeReg_k | apply KeepsRes.next)

theorem execPwrCellFaultClear_k {s0 : State} (a0) (a1) (s : State) (h : Keeps s0 s) :
    KeepsRes s0 (execPwrCellFaultClear a0 a1 s) := by
  unfold execPwrCellFaultClear
  repeat' first
    | (with_reducible first
        | assumption | apply writeReg_k | apply KeepsRes.next)

theorem execTmpFuseCmd_k {s0 : State} (a0) (a1) (s : State) (h : Keeps s0 s) :
    KeepsRes s0 (execTmpFuseCmd a0 a1 s) := by
  unfold execTmpFuseCmd
  repeat' first
    | (with_reducible first
        | assumption | apply writeReg_k | apply KeepsRes.next)

theorem answer_k {s0 : State} (a0) (a1) (s : State) (h : Keeps s0 s) :
    Keeps s0 (answer a0 a1 s) := by
  unfold answer
  repeat' first
    | (with_reducible first
        | assumption | apply emit_k)
    | (refine KeepsAt.of ?_ rfl rfl rfl rfl) | (simp only [Keeps.fields]) | split

theorem execEntRawData_k {s0 : State} (a0) (s : State) (h : Keeps s0 s) :
    KeepsRes s0 (execEntRawData a0 s) := by
  unfold execEntRawData
  repeat' first
    | (with_reducible first
        | assumption | apply readReg_k | (refine Keeps.ofPair (by assumption) ?_) | apply answer_k
        | apply KeepsRes.next)
    | (dsimp only) | split

theorem execReg64LowRead_k {s0 : State} (a0) (a1) (s : State) (h : Keeps s0 s) :
    KeepsRes s0 (execReg64LowRead a0 a1 s) := by
  unfold execReg64LowRead
  repeat' first
    | (with_reducible first
        | assumption | apply readReg_k | (refine Keeps.ofPair (by assumption) ?_) | apply answer_k
        | apply KeepsRes.next)
    | (dsimp only) | split

theorem execRegisterAccessInvalid_k {s0 : State} (a0) (a1) (a2) (a3) (s : State) (h : Keeps s0 s) :
    KeepsRes s0 (execRegisterAccessInvalid a0 a1 a2 a3 s) := by
  unfold execRegisterAccessInvalid
  repeat' first
    | (with_reducible first
        | assumption | apply answer_k | apply mgtInvalid_k | apply KeepsRes.next)
    | (dsimp only) | split

theorem flushMsix_k {s0 : State} (s : State) (h : Keeps s0 s) :
    Keeps s0 (flushMsix s) := by
  unfold flushMsix
  repeat' first
    | (with_reducible first
        | assumption | apply emit_k | (refine Keeps.foldl (fun t a ht => ?_) _ _ ?_))
    | (refine KeepsAt.of ?_ rfl rfl rfl rfl) | (simp only [Keeps.fields]) | (dsimp only) | split

theorem resumeDma_k {s0 : State} (s : State) (h : Keeps s0 s) :
    Keeps s0 (resumeDma s) := by
  unfold resumeDma
  repeat' with_reducible first
    | assumption | apply flushWaiting_k | apply flushMsix_k | apply pump_k

theorem execMsixUnmask_k {s0 : State} (a0) (s : State) (h : Keeps s0 s) :
    KeepsRes s0 (execMsixUnmask a0 s) := by
  unfold execMsixUnmask
  repeat' first
    | (with_reducible first
        | assumption | apply flushMsix_k | apply KeepsRes.next)
    | (refine KeepsAt.of ?_ rfl rfl rfl rfl) | (simp only [Keeps.fields]) | split

theorem execPcieRequestRefused_k {s0 : State} (a0) (a1) (s : State) (h : Keeps s0 s) :
    KeepsRes s0 (execPcieRequestRefused a0 a1 s) := by
  unfold execPcieRequestRefused
  repeat' first
    | (with_reducible first
        | assumption | apply emit_k | apply KeepsRes.next)
    | split

theorem clearPasid_k {s0 : State} (s : State) (h : Keeps s0 s) :
    Keeps s0 (clearPasid s) := by
  unfold clearPasid
  repeat' first
    | (with_reducible first
        | assumption | apply hostReset_k)
    | (refine KeepsAt.of ?_ rfl rfl rfl rfl) | (simp only [Keeps.fields]) | split

theorem execConfigRequest_k {s0 : State} (a0) (a1) (s : State) (h : Keeps s0 s) :
    KeepsRes s0 (execConfigRequest a0 a1 s) := by
  unfold execConfigRequest
  repeat' first
    | (with_reducible first
        | assumption | apply clearPasid_k | apply flushWaiting_k | apply emit_k | apply KeepsRes.next)
    | (refine KeepsAt.of ?_ rfl rfl rfl rfl) | (simp only [Keeps.fields]) | (dsimp only) | split

theorem execPcieReset_k {s0 : State} (a0) (s : State) (h : Keeps s0 s) :
    KeepsRes s0 (execPcieReset a0 s) := by
  unfold execPcieReset
  repeat' first
    | (with_reducible first
        | assumption | apply hostReset_k | apply dropLink_k | apply KeepsRes.next)
    | (refine KeepsAt.of ?_ rfl rfl rfl rfl) | (simp only [Keeps.fields]) | (dsimp only) | split

theorem execPerstNRelease_k {s0 : State} (s : State) (h : Keeps s0 s) :
    KeepsRes s0 (execPerstNRelease s) := by
  unfold execPerstNRelease
  repeat' first
    | (with_reducible first
        | assumption | apply trainLink_k | apply resumeDma_k | apply KeepsRes.next)
    | (refine KeepsAt.of ?_ rfl rfl rfl rfl) | (simp only [Keeps.fields]) | (dsimp only) | split

theorem execD3hotEntry_k {s0 : State} (s : State) (h : Keeps s0 s) :
    KeepsRes s0 (execD3hotEntry s) := by
  unfold execD3hotEntry
  repeat' first
    | (with_reducible first
        | assumption | apply KeepsRes.next)
    | (refine KeepsAt.of ?_ rfl rfl rfl rfl) | (simp only [Keeps.fields]) | split

theorem execD0Return_k {s0 : State} (s : State) (h : Keeps s0 s) :
    KeepsRes s0 (execD0Return s) := by
  unfold execD0Return
  repeat' first
    | (with_reducible first
        | assumption | apply hostReset_k | apply KeepsRes.next)
    | split

theorem execBusMasterDisable_k {s0 : State} (s : State) (h : Keeps s0 s) :
    KeepsRes s0 (execBusMasterDisable s) := by
  unfold execBusMasterDisable
  repeat' first
    | (with_reducible first
        | assumption | apply KeepsRes.next)
    | (refine KeepsAt.of ?_ rfl rfl rfl rfl) | (simp only [Keeps.fields]) | split

theorem execBusMasterEnable_k {s0 : State} (s : State) (h : Keeps s0 s) :
    KeepsRes s0 (execBusMasterEnable s) := by
  unfold execBusMasterEnable
  repeat' first
    | (with_reducible first
        | assumption | apply resumeDma_k | apply KeepsRes.next)
    | (refine KeepsAt.of ?_ rfl rfl rfl rfl) | (simp only [Keeps.fields]) | split

theorem execPasidEnableClear_k {s0 : State} (s : State) (h : Keeps s0 s) :
    KeepsRes s0 (execPasidEnableClear s) := by
  unfold execPasidEnableClear
  repeat' first
    | (with_reducible first
        | assumption | apply clearPasid_k | apply KeepsRes.next)
    | split

theorem execPostedWriteCreditReturn_k {s0 : State} (s : State) (h : Keeps s0 s) :
    KeepsRes s0 (execPostedWriteCreditReturn s) := by
  unfold execPostedWriteCreditReturn
  repeat' first
    | (with_reducible first
        | assumption | apply resumeDma_k | apply KeepsRes.next)
    | (refine KeepsAt.of ?_ rfl rfl rfl rfl) | (simp only [Keeps.fields]) | split

theorem execSpdmMessage_k {s0 : State} (a0) (a1) (s : State) (h : Keeps s0 s) :
    KeepsRes s0 (execSpdmMessage a0 a1 s) := by
  unfold execSpdmMessage
  repeat' first
    | (with_reducible first
        | assumption | apply emit_k | apply KeepsRes.next)
    | (refine KeepsAt.of ?_ rfl rfl rfl rfl) | (simp only [Keeps.fields]) | (dsimp only) | split

theorem execIdeStreamSecure_k {s0 : State} (s : State) (h : Keeps s0 s) :
    KeepsRes s0 (execIdeStreamSecure s) := by
  unfold execIdeStreamSecure
  repeat' first
    | (with_reducible first
        | assumption | apply resumeDma_k | apply KeepsRes.next)
    | (refine KeepsAt.of ?_ rfl rfl rfl rfl) | (simp only [Keeps.fields]) | split

theorem execIdeStreamInsecure_k {s0 : State} (s : State) (h : Keeps s0 s) :
    KeepsRes s0 (execIdeStreamInsecure s) := by
  unfold execIdeStreamInsecure
  repeat' first
    | (with_reducible first
        | assumption | apply KeepsRes.next)
    | (refine KeepsAt.of ?_ rfl rfl rfl rfl) | (simp only [Keeps.fields])

theorem smbusWord_k {s0 : State} (a0) (s : State) (h : Keeps s0 s) :
    Keeps s0 (smbusWord a0 s).2 := by
  unfold smbusWord
  repeat' first
    | (with_reducible first
        | assumption | apply readReg_k | (refine Keeps.ofPair (by assumption) ?_) | apply mgtInvalid_k)
    | split

theorem smbusAdvance_k {s0 : State} (a0) (s : State) (h : Keeps s0 s) :
    Keeps s0 (smbusAdvance a0 s) := by
  unfold smbusAdvance
  repeat' first
    | (with_reducible assumption)
    | (refine KeepsAt.of ?_ rfl rfl rfl rfl) | (simp only [Keeps.fields])

theorem smbusWords_k {s0 : State} : ∀ (n a : Nat) (s : State), Keeps s0 s → Keeps s0 (smbusWords n a s).2
  | 0, _, _, h => h
  | n + 1, a, _, h => smbusWords_k n (a + 4) _ (smbusWord_k _ _ h)

theorem execSmbusTelemetry_k {s0 : State} (a0) (s : State) (h : Keeps s0 s) :
    KeepsRes s0 (execSmbusTelemetry a0 s) := by
  unfold execSmbusTelemetry
  repeat' first
    | (with_reducible first
        | assumption | apply emit_k | apply KeepsRes.next)
    | split

theorem execSmbusPower_k {s0 : State} (a0) (a1) (s : State) (h : Keeps s0 s) :
    KeepsRes s0 (execSmbusPower a0 a1 s) := by
  unfold execSmbusPower
  repeat' first
    | (with_reducible first
        | assumption | apply emit_k | apply pump_k | apply launch_k | apply KeepsRes.next)
    | (refine KeepsAt.of ?_ rfl rfl rfl rfl) | (simp only [Keeps.fields]) | split

theorem execSmbusSetAddr_k {s0 : State} (a0) (a1) (s : State) (h : Keeps s0 s) :
    KeepsRes s0 (execSmbusSetAddr a0 a1 s) := by
  unfold execSmbusSetAddr
  repeat' first
    | (with_reducible first
        | assumption | apply emit_k | apply KeepsRes.next)
    | (refine KeepsAt.of ?_ rfl rfl rfl rfl) | (simp only [Keeps.fields]) | split

theorem execSmbusRead_k {s0 : State} (s : State) (h : Keeps s0 s) :
    KeepsRes s0 (execSmbusRead s) := by
  unfold execSmbusRead
  repeat' first
    | (with_reducible first
        | assumption | apply smbusAdvance_k | apply emit_k | apply smbusWord_k
        | (refine Keeps.ofPair (by assumption) ?_) | apply KeepsRes.next)
    | (dsimp only) | split

theorem execSmbusWrite_k {s0 : State} (a0) (a1) (a2) (s : State) (h : Keeps s0 s) :
    KeepsRes s0 (execSmbusWrite a0 a1 a2 s) := by
  unfold execSmbusWrite
  repeat' first
    | (with_reducible first
        | assumption | apply writeReg_k | apply smbusAdvance_k | apply emit_k | apply KeepsRes.next)
    | split

theorem execSmbusReadBurst_k {s0 : State} (s : State) (h : Keeps s0 s) :
    KeepsRes s0 (execSmbusReadBurst s) := by
  unfold execSmbusReadBurst
  repeat' first
    | (with_reducible first
        | assumption | apply smbusWords_k | (refine Keeps.ofPair (by assumption) ?_) | apply smbusAdvance_k
        | apply emit_k | apply KeepsRes.next)
    | (dsimp only) | split

theorem smbusPut_k {s0 : State} (env) : ∀ (l : List Word) (a : Nat) (s : State), Keeps s0 s → Keeps s0 (smbusPut env l a s)
  | [], _, _, h => h
  | _ :: r, a, _, h => smbusPut_k env r (a + 4) _ (regWrite_k _ _ _ _ _ h)

theorem execSmbusWriteBurst_k {s0 : State} (a0) (a1) (a2) (s : State) (h : Keeps s0 s) :
    KeepsRes s0 (execSmbusWriteBurst a0 a1 a2 s) := by
  unfold execSmbusWriteBurst
  repeat' first
    | (with_reducible first
        | assumption | apply smbusAdvance_k | apply mgtInvalid_k | apply emit_k | apply pump_k | apply smbusPut_k
        | apply KeepsRes.next)
    | (dsimp only) | split

theorem execSmbusUnknownCommand_k {s0 : State} (a0) (s : State) (h : Keeps s0 s) :
    KeepsRes s0 (execSmbusUnknownCommand a0 s) := by
  unfold execSmbusUnknownCommand
  repeat' first
    | (with_reducible first
        | assumption | apply emit_k | apply KeepsRes.next)
    | split

-- Jtag ------------------------------------------------------------------------------------------------

theorem loadIr_k {s0 : State} (a0) (a1) (s : State) (h : Keeps s0 s) :
    Keeps s0 (loadIr a0 a1 s) := by
  unfold loadIr
  repeat' first
    | (with_reducible assumption)
    | (refine KeepsAt.of ?_ rfl rfl rfl rfl) | (simp only [Keeps.fields])

theorem bypassOut_k {s0 : State} (s : State) (h : Keeps s0 s) :
    Keeps s0 (bypassOut s) := by
  unfold bypassOut
  repeat' with_reducible first
    | assumption | apply emit_k

theorem scanIr_k {s0 : State} (a0) (s : State) (h : Keeps s0 s) :
    Keeps s0 (scanIr a0 s) := by
  unfold scanIr
  repeat' first
    | (with_reducible first
        | assumption | apply loadIr_k | apply bypassOut_k)
    | (dsimp only) | split

theorem execExtest_k {s0 : State} (s : State) (h : Keeps s0 s) :
    KeepsRes s0 (execExtest s) := by
  unfold execExtest
  repeat' first
    | (with_reducible first
        | assumption | apply scanIr_k | apply KeepsRes.next)

theorem execHighz_k {s0 : State} (s : State) (h : Keeps s0 s) :
    KeepsRes s0 (execHighz s) := by
  unfold execHighz
  repeat' first
    | (with_reducible first
        | assumption | apply scanIr_k | apply KeepsRes.next)

theorem execClamp_k {s0 : State} (s : State) (h : Keeps s0 s) :
    KeepsRes s0 (execClamp s) := by
  unfold execClamp
  repeat' first
    | (with_reducible first
        | assumption | apply scanIr_k | apply KeepsRes.next)

theorem execExtestPulse_k {s0 : State} (s : State) (h : Keeps s0 s) :
    KeepsRes s0 (execExtestPulse s) := by
  unfold execExtestPulse
  repeat' first
    | (with_reducible first
        | assumption | apply scanIr_k | apply KeepsRes.next)

theorem execExtestTrain_k {s0 : State} (s : State) (h : Keeps s0 s) :
    KeepsRes s0 (execExtestTrain s) := by
  unfold execExtestTrain
  repeat' first
    | (with_reducible first
        | assumption | apply scanIr_k | apply KeepsRes.next)

theorem execSamplePreload_k {s0 : State} (s : State) (h : Keeps s0 s) :
    KeepsRes s0 (execSamplePreload s) := by
  unfold execSamplePreload
  repeat' first
    | (with_reducible first
        | assumption | apply loadIr_k | apply KeepsRes.next)
    | (refine KeepsAt.of ?_ rfl rfl rfl rfl) | (simp only [Keeps.fields]) | split

theorem execIdcode_k {s0 : State} (s : State) (h : Keeps s0 s) :
    KeepsRes s0 (execIdcode s) := by
  unfold execIdcode
  repeat' first
    | (with_reducible first
        | assumption | apply loadIr_k | apply emit_k | apply KeepsRes.next)
    | (refine KeepsAt.of ?_ rfl rfl rfl rfl) | (simp only [Keeps.fields]) | split

theorem execBypass_k {s0 : State} (s : State) (h : Keeps s0 s) :
    KeepsRes s0 (execBypass s) := by
  unfold execBypass
  repeat' first
    | (with_reducible first
        | assumption | apply loadIr_k | apply bypassOut_k | apply KeepsRes.next)
    | (refine KeepsAt.of ?_ rfl rfl rfl rfl) | (simp only [Keeps.fields]) | split

theorem execTapReset_k {s0 : State} (s : State) (h : Keeps s0 s) :
    KeepsRes s0 (execTapReset s) := by
  unfold execTapReset
  repeat' first
    | (with_reducible first
        | assumption | apply KeepsRes.next)
    | (refine KeepsAt.of ?_ rfl rfl rfl rfl) | (simp only [Keeps.fields]) | split

theorem execLcsRead_k {s0 : State} (s : State) (h : Keeps s0 s) :
    KeepsRes s0 (execLcsRead s) := by
  unfold execLcsRead
  repeat' first
    | (with_reducible first
        | assumption | apply loadIr_k | apply emit_k | apply KeepsRes.next)
    | split

theorem execDbgChallenge_k {s0 : State} (s : State) (h : Keeps s0 s) :
    KeepsRes s0 (execDbgChallenge s) := by
  unfold execDbgChallenge
  repeat' first
    | (with_reducible first
        | assumption | apply wardenCalls_k | (refine Keeps.ofSome (by assumption) ?_) | apply KeepsOpt.some
        | apply loadIr_k | apply draw_k | (refine Keeps.ofPair (by assumption) ?_) | apply emit_k
        | apply bypassOut_k | apply KeepsRes.next)
    | (refine KeepsAt.of ?_ rfl rfl rfl rfl) | (simp only [Keeps.fields]) | (dsimp only) | split

theorem openScope_k {s0 : State} (a0) (s : State) (h : Keeps s0 s) :
    Keeps s0 (openScope a0 s) := by
  unfold openScope
  repeat' first
    | (with_reducible assumption)
    | (refine KeepsAt.of ?_ rfl rfl rfl rfl) | (simp only [Keeps.fields])

theorem refuseAuth_k {s0 : State} (s : State) (h : Keeps s0 s) :
    Keeps s0 (refuseAuth s) := by
  unfold refuseAuth
  repeat' first
    | (with_reducible first
        | assumption | apply logEvent_k | apply draw_k | (refine Keeps.ofPair (by assumption) ?_))
    | (refine KeepsAt.of ?_ rfl rfl rfl rfl) | (simp only [Keeps.fields])

theorem execDbgAuth_k {s0 : State} (a0) (a1) (s : State) (h : Keeps s0 s) :
    KeepsRes s0 (execDbgAuth a0 a1 s) := by
  unfold execDbgAuth
  repeat' first
    | (with_reducible first
        | assumption | apply loadIr_k | apply openScope_k | apply refuseAuth_k | apply bypassOut_k
        | apply KeepsRes.next)
    | (refine KeepsAt.of ?_ rfl rfl rfl rfl) | (simp only [Keeps.fields]) | (dsimp only) | split

theorem execDbgStatus_k {s0 : State} (s : State) (h : Keeps s0 s) :
    KeepsRes s0 (execDbgStatus s) := by
  unfold execDbgStatus
  repeat' first
    | (with_reducible first
        | assumption | apply loadIr_k | apply emit_k | apply bypassOut_k | apply KeepsRes.next)
    | (dsimp only) | split

theorem debugDenied_k {s0 : State} (a0) (s : State) (h : Keeps s0 s) :
    Keeps s0 (debugDenied a0 s) := by
  unfold debugDenied
  repeat' first
    | (with_reducible first
        | assumption | apply logEvent_k)
    | (refine KeepsAt.of ?_ rfl rfl rfl rfl) | (simp only [Keeps.fields])

theorem execDbgMem_k {s0 : State} (a0) (a1) (a2) (s : State) (h : Keeps s0 s) :
    KeepsRes s0 (execDbgMem a0 a1 a2 s) := by
  unfold execDbgMem
  repeat' first
    | (with_reducible first
        | assumption | apply loadIr_k | apply emit_k | apply bypassOut_k | apply debugDenied_k
        | apply spUncorrectable_k | apply KeepsRes.next | apply KeepsAt.write)
    | (refine KeepsAt.of ?_ rfl rfl rfl rfl) | (simp only [Keeps.fields]) | (dsimp only) | split

end Sys2Proof.Machine
end

