-- ==== Sys2Proof/Laws/Mailbox.lean ====
section
/-! SUPPORT. The mailbox: a launch that reaches it idle runs at once, and how its command ends (**R421**, **R466**). -/

namespace Sys2Proof.Machine

/-- With no command running, the next one runs. -/
theorem pumpN_next {n : Nat} {s : State} {h : Held} {r : List Held} (hr : s.mgt.running = none) (hw : wardenUp s = true)
    (hh : s.mgt.held = h :: r) : pumpN (n + 1) s = pumpN n (runHeld h { s with mgt := { s.mgt with held := r } }) := by
  have hk : checkRunning s = s := by simp [checkRunning, flushOutput, hr]
  simp only [pumpN, hk, hr, hw, hh]
  rfl

/-- A launch that reaches an idle mailbox is looked at in `u`. -/
theorem pump_hostLaunch {code : Nat} {l : Launch} {s u : State} (h : MailboxFree code l s u) (hc : BitVec.ofNat 16 code ≠ 0) :
    pump (hostLaunch code l s) = pumpN 4 (runHeld { code := BitVec.ofNat 16 code, launch := l } u) := by
  obtain ⟨hp, hd, hw, hh, hr, rfl⟩ := h
  have hl : hostLaunch code l s = { s with mgt := { s.mgt with
      desc := l.desc, cmd := BitVec.ofNat 16 code, held := [{ code := BitVec.ofNat 16 code, launch := l }] } } := by
    unfold hostLaunch writeCmd launch
    cases hq : l.path <;> simp_all [mailboxReached, heldCount, b2n]
  rw [hl]
  exact pumpN_next hr hw rfl

/-- A command that nothing turns away runs. -/
theorem runHeld_takes {code : Nat} {l : Launch} {s u : State} {inp : Bytes} (h : MailboxTakes code l s inp u) :
    runHeld { code := BitVec.ofNat 16 code, launch := l } u =
      match (mgtRun l.path (launched code l) l.env inp u) with
      | (some y, t) => mgtEnd (launched code l) l.path y t
      | (none, t) => t := by
  obtain ⟨_, h1, h2, h3, h4, h5⟩ := h
  have hd : ({ l.desc with command := BitVec.ofNat 16 code } : Desc) = launched code l := rfl
  simp only [runHeld, hd, h1, h2, h3, h4, h5]
  rcases mgtRun l.path (launched code l) l.env inp u with ⟨_ | y, t⟩ <;> rfl

/-- A command that completes. -/
theorem mailbox_ends {code : Nat} {l : Launch} {s u v : State} {inp : Bytes} {y : Done} (h : MailboxTakes code l s inp u)
    (hc : BitVec.ofNat 16 code ≠ 0) (hr : mgtRun l.path (launched code l) l.env inp u = (some y, v)) :
    pump (hostLaunch code l s) = mailboxEnds code l y v := by
  rw [pump_hostLaunch h.free hc, runHeld_takes h, hr]
  rfl

/-- A command that waits, or that has ended by itself. -/
theorem mailbox_waits {code : Nat} {l : Launch} {s u v : State} {inp : Bytes} (h : MailboxTakes code l s inp u)
    (hc : BitVec.ofNat 16 code ≠ 0) (hr : mgtRun l.path (launched code l) l.env inp u = (none, v)) :
    pump (hostLaunch code l s) = pumpN 4 v := by
  rw [pump_hostLaunch h.free hc, runHeld_takes h, hr]

-- The descriptor of a launch and the command of its code ------------------------------------------------------------------------

@[simp] theorem launched_p (c : Nat) (l : Launch) : (launched c l).p = l.desc.p := rfl
@[simp] theorem launched_slice (c : Nat) (l : Launch) : (launched c l).slice = l.desc.slice := rfl
@[simp] theorem launched_domain (c : Nat) (l : Launch) : (launched c l).domain = l.desc.domain := rfl
@[simp] theorem launched_keyA (c : Nat) (l : Launch) : (launched c l).keyA = l.desc.keyA := rfl
@[simp] theorem launched_keyB (c : Nat) (l : Launch) : (launched c l).keyB = l.desc.keyB := rfl
@[simp] theorem launched_inLen (c : Nat) (l : Launch) : (launched c l).inLen = l.desc.inLen := rfl
@[simp] theorem launched_inAddr (c : Nat) (l : Launch) : (launched c l).inAddr = l.desc.inAddr := rfl
@[simp] theorem launched_outAddr (c : Nat) (l : Launch) : (launched c l).outAddr = l.desc.outAddr := rfl
@[simp] theorem withOp_path (m n : Nat) (l : Launch) : (withOp m n l).path = l.path := rfl
@[simp] theorem withOp_env (m n : Nat) (l : Launch) : (withOp m n l).env = l.env := rfl
@[simp] theorem withOp_slice (m n : Nat) (l : Launch) : (withOp m n l).desc.slice = l.desc.slice := rfl
@[simp] theorem withOp_domain (m n : Nat) (l : Launch) : (withOp m n l).desc.domain = l.desc.domain := rfl
@[simp] theorem withOp_inLen (m n : Nat) (l : Launch) : (withOp m n l).desc.inLen = l.desc.inLen := rfl

theorem mgtRun_6001 (l : Launch) (inp : Bytes) (s : State) :
    mgtRun l.path (launched 0x6001 l) l.env inp s = powerRun l.path (launched 0x6001 l) l.env s := by
  simp only [mgtRun, show (launched 0x6001 l).code = 0x6001 from rfl]
theorem mgtRun_6002 (l : Launch) (inp : Bytes) (s : State) :
    mgtRun l.path (launched 0x6002 l) l.env inp s = imageStageRun (launched 0x6002 l) l.env inp s := by
  simp only [mgtRun, show (launched 0x6002 l).code = 0x6002 from rfl]
theorem mgtRun_6003 (l : Launch) (inp : Bytes) (s : State) :
    mgtRun l.path (launched 0x6003 l) l.env inp s = (let x := imageActivateRun l.env s; (x.1, recharge x.2)) := by
  simp only [mgtRun, show (launched 0x6003 l).code = 0x6003 from rfl]
theorem mgtRun_6004 (l : Launch) (inp : Bytes) (s : State) :
    mgtRun l.path (launched 0x6004 l) l.env inp s = queueCreateRun (launched 0x6004 l) s := by
  simp only [mgtRun, show (launched 0x6004 l).code = 0x6004 from rfl]
theorem mgtRun_6005 (l : Launch) (inp : Bytes) (s : State) :
    mgtRun l.path (launched 0x6005 l) l.env inp s = queueDeleteRun (launched 0x6005 l) s := by
  simp only [mgtRun, show (launched 0x6005 l).code = 0x6005 from rfl]
theorem mgtRun_6006 (l : Launch) (inp : Bytes) (s : State) :
    mgtRun l.path (launched 0x6006 l) l.env inp s = sliceResetRun l.path (launched 0x6006 l) s := by
  simp only [mgtRun, show (launched 0x6006 l).code = 0x6006 from rfl]
theorem mgtRun_6007 (l : Launch) (inp : Bytes) (s : State) :
    mgtRun l.path (launched 0x6007 l) l.env inp s = sliceFreezeRun l.path (launched 0x6007 l) s := by
  simp only [mgtRun, show (launched 0x6007 l).code = 0x6007 from rfl]
theorem mgtRun_6008 (l : Launch) (inp : Bytes) (s : State) :
    mgtRun l.path (launched 0x6008 l) l.env inp s = sliceSaveRun (launched 0x6008 l) l.env inp s := by
  simp only [mgtRun, show (launched 0x6008 l).code = 0x6008 from rfl]
theorem mgtRun_6009 (l : Launch) (inp : Bytes) (s : State) :
    mgtRun l.path (launched 0x6009 l) l.env inp s = sliceRestoreRun (launched 0x6009 l) inp s := by
  simp only [mgtRun, show (launched 0x6009 l).code = 0x6009 from rfl]
theorem mgtRun_600A (l : Launch) (inp : Bytes) (s : State) :
    mgtRun l.path (launched 0x600A l) l.env inp s = okCmd (latchAll 2 s) := by
  simp only [mgtRun, show (launched 0x600A l).code = 0x600A from rfl]
theorem mgtRun_600B (l : Launch) (inp : Bytes) (s : State) :
    mgtRun l.path (launched 0x600B l) l.env inp s = logClearRun (launched 0x600B l) inp s := by
  simp only [mgtRun, show (launched 0x600B l).code = 0x600B from rfl]
theorem mgtRun_600C (l : Launch) (inp : Bytes) (s : State) :
    mgtRun l.path (launched 0x600C l) l.env inp s = switchbackRun s := by
  simp only [mgtRun, show (launched 0x600C l).code = 0x600C from rfl]
theorem mgtRun_600D (l : Launch) (inp : Bytes) (s : State) :
    mgtRun l.path (launched 0x600D l) l.env inp s = unlockRun (launched 0x600D l) l.env inp s := by
  simp only [mgtRun, show (launched 0x600D l).code = 0x600D from rfl]
theorem mgtRun_600E (l : Launch) (inp : Bytes) (s : State) :
    mgtRun l.path (launched 0x600E l) l.env inp s = lifecycleRun l.path (launched 0x600E l) l.env inp s := by
  simp only [mgtRun, show (launched 0x600E l).code = 0x600E from rfl]
theorem mgtRun_600F (l : Launch) (inp : Bytes) (s : State) :
    mgtRun l.path (launched 0x600F l) l.env inp s = scrapRun l.path l.env s := by
  simp only [mgtRun, show (launched 0x600F l).code = 0x600F from rfl]
theorem mgtRun_6010 (l : Launch) (inp : Bytes) (s : State) :
    mgtRun l.path (launched 0x6010 l) l.env inp s = ownerEnrolRun (launched 0x6010 l) l.env inp s := by
  simp only [mgtRun, show (launched 0x6010 l).code = 0x6010 from rfl]
theorem mgtRun_6011 (l : Launch) (inp : Bytes) (s : State) :
    mgtRun l.path (launched 0x6011 l) l.env inp s = identityAttestRun inp s := by
  simp only [mgtRun, show (launched 0x6011 l).code = 0x6011 from rfl]
theorem mgtRun_6012 (l : Launch) (inp : Bytes) (s : State) :
    mgtRun l.path (launched 0x6012 l) l.env inp s = vaultResealRun (launched 0x6012 l) l.env inp s := by
  simp only [mgtRun, show (launched 0x6012 l).code = 0x6012 from rfl]
theorem mgtRun_6013 (l : Launch) (inp : Bytes) (s : State) :
    mgtRun l.path (launched 0x6013 l) l.env inp s = vaultRekeyRun l.path s := by
  simp only [mgtRun, show (launched 0x6013 l).code = 0x6013 from rfl]
theorem mgtRun_6014 (l : Launch) (inp : Bytes) (s : State) :
    mgtRun l.path (launched 0x6014 l) l.env inp s = custodianRun (launched 0x6014 l) l.env inp s := by
  simp only [mgtRun, show (launched 0x6014 l).code = 0x6014 from rfl]
theorem mgtRun_6015 (l : Launch) (inp : Bytes) (s : State) :
    mgtRun l.path (launched 0x6015 l) l.env inp s = membershipRun l.env inp s := by
  simp only [mgtRun, show (launched 0x6015 l).code = 0x6015 from rfl]
theorem mgtRun_6016 (l : Launch) (inp : Bytes) (s : State) :
    mgtRun l.path (launched 0x6016 l) l.env inp s = domainRun l.path (launched 0x6016 l) l.env inp s := by
  simp only [mgtRun, show (launched 0x6016 l).code = 0x6016 from rfl]
theorem mgtRun_6017 (l : Launch) (inp : Bytes) (s : State) :
    mgtRun l.path (launched 0x6017 l) l.env inp s = engineAbortRun (launched 0x6017 l) s := by
  simp only [mgtRun, show (launched 0x6017 l).code = 0x6017 from rfl]

/-- The lowest bits of P0 hold the row's operation. -/
theorem withOp_p (m n : Nat) (l : Launch) (hn : n < m) (hd : 65536 % m = 0) :
    (withOp m n l).desc.p = l.desc.p / m * m + n := by
  have hp : l.desc.p < 65536 := l.desc.p0.isLt
  have : l.desc.p / m * m + n < 65536 := by
    obtain ⟨k, hk⟩ := Nat.dvd_of_mod_eq_zero hd
    have h1 : l.desc.p / m < k := Nat.div_lt_of_lt_mul (by omega)
    have h2 : (l.desc.p / m + 1) * m ≤ k * m := Nat.mul_le_mul_right _ h1
    have h3 : k * m = m * k := Nat.mul_comm _ _
    have h4 : (l.desc.p / m + 1) * m = l.desc.p / m * m + m := Nat.succ_mul _ _
    omega
  show (BitVec.ofNat 16 (l.desc.p / m * m + n)).toNat = _
  rw [BitVec.toNat_ofNat]
  exact Nat.mod_eq_of_lt this

end Sys2Proof.Machine
end

