-- ==== Sys2Proof/Laws/State.lean ====
section
/-! SUPPORT. The fields that each plain update of the state leaves as they are. -/

namespace Sys2Proof.Machine

@[simp] theorem draw_pending (s : State) : (draw s).2.pending = s.pending := rfl
@[simp] theorem draw_mtime (s : State) : (draw s).2.mtime = s.mtime := rfl
@[simp] theorem draw_frac (s : State) : (draw s).2.frac = s.frac := rfl
@[simp] theorem draw_img (s : State) : (draw s).2.img = s.img := rfl
@[simp] theorem draw_rqs (s : State) : (draw s).2.rqs = s.rqs := rfl
@[simp] theorem draw_slices (s : State) : (draw s).2.slices = s.slices := rfl
@[simp] theorem draw_adm (s : State) : (draw s).2.adm = s.adm := rfl
@[simp] theorem draw_eng (s : State) : (draw s).2.eng = s.eng := rfl
@[simp] theorem draw_ent (s : State) : (draw s).2.ent = s.ent := rfl
@[simp] theorem draw_lku (s : State) : (draw s).2.lku = s.lku := rfl
@[simp] theorem draw_mem (s : State) : (draw s).2.mem = s.mem := rfl
@[simp] theorem draw_kvt (s : State) : (draw s).2.kvt = s.kvt := rfl
@[simp] theorem draw_fab (s : State) : (draw s).2.fab = s.fab := rfl
@[simp] theorem draw_lcs (s : State) : (draw s).2.lcs = s.lcs := rfl
@[simp] theorem draw_tmp (s : State) : (draw s).2.tmp = s.tmp := rfl
@[simp] theorem draw_wdn (s : State) : (draw s).2.wdn = s.wdn := rfl
@[simp] theorem draw_log (s : State) : (draw s).2.log = s.log := rfl
@[simp] theorem draw_pwr (s : State) : (draw s).2.pwr = s.pwr := rfl
@[simp] theorem draw_mgt (s : State) : (draw s).2.mgt = s.mgt := rfl
@[simp] theorem draw_pcie (s : State) : (draw s).2.pcie = s.pcie := rfl
@[simp] theorem draw_cust (s : State) : (draw s).2.cust = s.cust := rfl
@[simp] theorem draw_ir (s : State) : (draw s).2.ir = s.ir := rfl
@[simp] theorem draw_out (s : State) : (draw s).2.out = s.out := rfl

@[simp] theorem emit_pending (a0) (s : State) : (emit a0 s).pending = s.pending := rfl
@[simp] theorem emit_mtime (a0) (s : State) : (emit a0 s).mtime = s.mtime := rfl
@[simp] theorem emit_frac (a0) (s : State) : (emit a0 s).frac = s.frac := rfl
@[simp] theorem emit_img (a0) (s : State) : (emit a0 s).img = s.img := rfl
@[simp] theorem emit_rqs (a0) (s : State) : (emit a0 s).rqs = s.rqs := rfl
@[simp] theorem emit_slices (a0) (s : State) : (emit a0 s).slices = s.slices := rfl
@[simp] theorem emit_adm (a0) (s : State) : (emit a0 s).adm = s.adm := rfl
@[simp] theorem emit_eng (a0) (s : State) : (emit a0 s).eng = s.eng := rfl
@[simp] theorem emit_ent (a0) (s : State) : (emit a0 s).ent = s.ent := rfl
@[simp] theorem emit_lku (a0) (s : State) : (emit a0 s).lku = s.lku := rfl
@[simp] theorem emit_mem (a0) (s : State) : (emit a0 s).mem = s.mem := rfl
@[simp] theorem emit_kvt (a0) (s : State) : (emit a0 s).kvt = s.kvt := rfl
@[simp] theorem emit_fab (a0) (s : State) : (emit a0 s).fab = s.fab := rfl
@[simp] theorem emit_lcs (a0) (s : State) : (emit a0 s).lcs = s.lcs := rfl
@[simp] theorem emit_tmp (a0) (s : State) : (emit a0 s).tmp = s.tmp := rfl
@[simp] theorem emit_wdn (a0) (s : State) : (emit a0 s).wdn = s.wdn := rfl
@[simp] theorem emit_log (a0) (s : State) : (emit a0 s).log = s.log := rfl
@[simp] theorem emit_pwr (a0) (s : State) : (emit a0 s).pwr = s.pwr := rfl
@[simp] theorem emit_mgt (a0) (s : State) : (emit a0 s).mgt = s.mgt := rfl
@[simp] theorem emit_pcie (a0) (s : State) : (emit a0 s).pcie = s.pcie := rfl
@[simp] theorem emit_cust (a0) (s : State) : (emit a0 s).cust = s.cust := rfl
@[simp] theorem emit_ir (a0) (s : State) : (emit a0 s).ir = s.ir := rfl
@[simp] theorem emit_freeCtr (a0) (s : State) : (emit a0 s).freeCtr = s.freeCtr := rfl

@[simp] theorem logEvent_pending (a0) (a1) (s : State) : (logEvent a0 a1 s).pending = s.pending := by unfold logEvent; split <;> rfl
@[simp] theorem logEvent_mtime (a0) (a1) (s : State) : (logEvent a0 a1 s).mtime = s.mtime := by unfold logEvent; split <;> rfl
@[simp] theorem logEvent_frac (a0) (a1) (s : State) : (logEvent a0 a1 s).frac = s.frac := by unfold logEvent; split <;> rfl
@[simp] theorem logEvent_img (a0) (a1) (s : State) : (logEvent a0 a1 s).img = s.img := by unfold logEvent; split <;> rfl
@[simp] theorem logEvent_rqs (a0) (a1) (s : State) : (logEvent a0 a1 s).rqs = s.rqs := by unfold logEvent; split <;> rfl
@[simp] theorem logEvent_slices (a0) (a1) (s : State) : (logEvent a0 a1 s).slices = s.slices := by unfold logEvent; split <;> rfl
@[simp] theorem logEvent_adm (a0) (a1) (s : State) : (logEvent a0 a1 s).adm = s.adm := by unfold logEvent; split <;> rfl
@[simp] theorem logEvent_eng (a0) (a1) (s : State) : (logEvent a0 a1 s).eng = s.eng := by unfold logEvent; split <;> rfl
@[simp] theorem logEvent_ent (a0) (a1) (s : State) : (logEvent a0 a1 s).ent = s.ent := by unfold logEvent; split <;> rfl
@[simp] theorem logEvent_lku (a0) (a1) (s : State) : (logEvent a0 a1 s).lku = s.lku := by unfold logEvent; split <;> rfl
@[simp] theorem logEvent_mem (a0) (a1) (s : State) : (logEvent a0 a1 s).mem = s.mem := by unfold logEvent; split <;> rfl
@[simp] theorem logEvent_kvt (a0) (a1) (s : State) : (logEvent a0 a1 s).kvt = s.kvt := by unfold logEvent; split <;> rfl
@[simp] theorem logEvent_fab (a0) (a1) (s : State) : (logEvent a0 a1 s).fab = s.fab := by unfold logEvent; split <;> rfl
@[simp] theorem logEvent_lcs (a0) (a1) (s : State) : (logEvent a0 a1 s).lcs = s.lcs := by unfold logEvent; split <;> rfl
@[simp] theorem logEvent_tmp (a0) (a1) (s : State) : (logEvent a0 a1 s).tmp = s.tmp := by unfold logEvent; split <;> rfl
@[simp] theorem logEvent_wdn (a0) (a1) (s : State) : (logEvent a0 a1 s).wdn = s.wdn := by unfold logEvent; split <;> rfl
@[simp] theorem logEvent_pwr (a0) (a1) (s : State) : (logEvent a0 a1 s).pwr = s.pwr := by unfold logEvent; split <;> rfl
@[simp] theorem logEvent_mgt (a0) (a1) (s : State) : (logEvent a0 a1 s).mgt = s.mgt := by unfold logEvent; split <;> rfl
@[simp] theorem logEvent_pcie (a0) (a1) (s : State) : (logEvent a0 a1 s).pcie = s.pcie := by unfold logEvent; split <;> rfl
@[simp] theorem logEvent_cust (a0) (a1) (s : State) : (logEvent a0 a1 s).cust = s.cust := by unfold logEvent; split <;> rfl
@[simp] theorem logEvent_ir (a0) (a1) (s : State) : (logEvent a0 a1 s).ir = s.ir := by unfold logEvent; split <;> rfl
@[simp] theorem logEvent_out (a0) (a1) (s : State) : (logEvent a0 a1 s).out = s.out := by unfold logEvent; split <;> rfl
@[simp] theorem logEvent_freeCtr (a0) (a1) (s : State) : (logEvent a0 a1 s).freeCtr = s.freeCtr := by unfold logEvent; split <;> rfl

@[simp] theorem updSlice_pending (a0) (a1) (s : State) : (updSlice a0 a1 s).pending = s.pending := rfl
@[simp] theorem updSlice_mtime (a0) (a1) (s : State) : (updSlice a0 a1 s).mtime = s.mtime := rfl
@[simp] theorem updSlice_frac (a0) (a1) (s : State) : (updSlice a0 a1 s).frac = s.frac := rfl
@[simp] theorem updSlice_img (a0) (a1) (s : State) : (updSlice a0 a1 s).img = s.img := rfl
@[simp] theorem updSlice_rqs (a0) (a1) (s : State) : (updSlice a0 a1 s).rqs = s.rqs := rfl
@[simp] theorem updSlice_adm (a0) (a1) (s : State) : (updSlice a0 a1 s).adm = s.adm := rfl
@[simp] theorem updSlice_eng (a0) (a1) (s : State) : (updSlice a0 a1 s).eng = s.eng := rfl
@[simp] theorem updSlice_ent (a0) (a1) (s : State) : (updSlice a0 a1 s).ent = s.ent := rfl
@[simp] theorem updSlice_lku (a0) (a1) (s : State) : (updSlice a0 a1 s).lku = s.lku := rfl
@[simp] theorem updSlice_mem (a0) (a1) (s : State) : (updSlice a0 a1 s).mem = s.mem := rfl
@[simp] theorem updSlice_kvt (a0) (a1) (s : State) : (updSlice a0 a1 s).kvt = s.kvt := rfl
@[simp] theorem updSlice_fab (a0) (a1) (s : State) : (updSlice a0 a1 s).fab = s.fab := rfl
@[simp] theorem updSlice_lcs (a0) (a1) (s : State) : (updSlice a0 a1 s).lcs = s.lcs := rfl
@[simp] theorem updSlice_tmp (a0) (a1) (s : State) : (updSlice a0 a1 s).tmp = s.tmp := rfl
@[simp] theorem updSlice_wdn (a0) (a1) (s : State) : (updSlice a0 a1 s).wdn = s.wdn := rfl
@[simp] theorem updSlice_log (a0) (a1) (s : State) : (updSlice a0 a1 s).log = s.log := rfl
@[simp] theorem updSlice_pwr (a0) (a1) (s : State) : (updSlice a0 a1 s).pwr = s.pwr := rfl
@[simp] theorem updSlice_mgt (a0) (a1) (s : State) : (updSlice a0 a1 s).mgt = s.mgt := rfl
@[simp] theorem updSlice_pcie (a0) (a1) (s : State) : (updSlice a0 a1 s).pcie = s.pcie := rfl
@[simp] theorem updSlice_cust (a0) (a1) (s : State) : (updSlice a0 a1 s).cust = s.cust := rfl
@[simp] theorem updSlice_ir (a0) (a1) (s : State) : (updSlice a0 a1 s).ir = s.ir := rfl
@[simp] theorem updSlice_out (a0) (a1) (s : State) : (updSlice a0 a1 s).out = s.out := rfl
@[simp] theorem updSlice_freeCtr (a0) (a1) (s : State) : (updSlice a0 a1 s).freeCtr = s.freeCtr := rfl

@[simp] theorem setQueue_pending (a0) (a1) (a2) (s : State) : (setQueue a0 a1 a2 s).pending = s.pending := rfl
@[simp] theorem setQueue_mtime (a0) (a1) (a2) (s : State) : (setQueue a0 a1 a2 s).mtime = s.mtime := rfl
@[simp] theorem setQueue_frac (a0) (a1) (a2) (s : State) : (setQueue a0 a1 a2 s).frac = s.frac := rfl
@[simp] theorem setQueue_img (a0) (a1) (a2) (s : State) : (setQueue a0 a1 a2 s).img = s.img := rfl
@[simp] theorem setQueue_slices (a0) (a1) (a2) (s : State) : (setQueue a0 a1 a2 s).slices = s.slices := rfl
@[simp] theorem setQueue_adm (a0) (a1) (a2) (s : State) : (setQueue a0 a1 a2 s).adm = s.adm := rfl
@[simp] theorem setQueue_eng (a0) (a1) (a2) (s : State) : (setQueue a0 a1 a2 s).eng = s.eng := rfl
@[simp] theorem setQueue_ent (a0) (a1) (a2) (s : State) : (setQueue a0 a1 a2 s).ent = s.ent := rfl
@[simp] theorem setQueue_lku (a0) (a1) (a2) (s : State) : (setQueue a0 a1 a2 s).lku = s.lku := rfl
@[simp] theorem setQueue_mem (a0) (a1) (a2) (s : State) : (setQueue a0 a1 a2 s).mem = s.mem := rfl
@[simp] theorem setQueue_kvt (a0) (a1) (a2) (s : State) : (setQueue a0 a1 a2 s).kvt = s.kvt := rfl
@[simp] theorem setQueue_fab (a0) (a1) (a2) (s : State) : (setQueue a0 a1 a2 s).fab = s.fab := rfl
@[simp] theorem setQueue_lcs (a0) (a1) (a2) (s : State) : (setQueue a0 a1 a2 s).lcs = s.lcs := rfl
@[simp] theorem setQueue_tmp (a0) (a1) (a2) (s : State) : (setQueue a0 a1 a2 s).tmp = s.tmp := rfl
@[simp] theorem setQueue_wdn (a0) (a1) (a2) (s : State) : (setQueue a0 a1 a2 s).wdn = s.wdn := rfl
@[simp] theorem setQueue_log (a0) (a1) (a2) (s : State) : (setQueue a0 a1 a2 s).log = s.log := rfl
@[simp] theorem setQueue_pwr (a0) (a1) (a2) (s : State) : (setQueue a0 a1 a2 s).pwr = s.pwr := rfl
@[simp] theorem setQueue_mgt (a0) (a1) (a2) (s : State) : (setQueue a0 a1 a2 s).mgt = s.mgt := rfl
@[simp] theorem setQueue_pcie (a0) (a1) (a2) (s : State) : (setQueue a0 a1 a2 s).pcie = s.pcie := rfl
@[simp] theorem setQueue_cust (a0) (a1) (a2) (s : State) : (setQueue a0 a1 a2 s).cust = s.cust := rfl
@[simp] theorem setQueue_ir (a0) (a1) (a2) (s : State) : (setQueue a0 a1 a2 s).ir = s.ir := rfl
@[simp] theorem setQueue_out (a0) (a1) (a2) (s : State) : (setQueue a0 a1 a2 s).out = s.out := rfl
@[simp] theorem setQueue_freeCtr (a0) (a1) (a2) (s : State) : (setQueue a0 a1 a2 s).freeCtr = s.freeCtr := rfl

@[simp] theorem updReq_pending (a0) (a1) (s : State) : (updReq a0 a1 s).pending = s.pending := rfl
@[simp] theorem updReq_mtime (a0) (a1) (s : State) : (updReq a0 a1 s).mtime = s.mtime := rfl
@[simp] theorem updReq_frac (a0) (a1) (s : State) : (updReq a0 a1 s).frac = s.frac := rfl
@[simp] theorem updReq_img (a0) (a1) (s : State) : (updReq a0 a1 s).img = s.img := rfl
@[simp] theorem updReq_slices (a0) (a1) (s : State) : (updReq a0 a1 s).slices = s.slices := rfl
@[simp] theorem updReq_adm (a0) (a1) (s : State) : (updReq a0 a1 s).adm = s.adm := rfl
@[simp] theorem updReq_eng (a0) (a1) (s : State) : (updReq a0 a1 s).eng = s.eng := rfl
@[simp] theorem updReq_ent (a0) (a1) (s : State) : (updReq a0 a1 s).ent = s.ent := rfl
@[simp] theorem updReq_lku (a0) (a1) (s : State) : (updReq a0 a1 s).lku = s.lku := rfl
@[simp] theorem updReq_mem (a0) (a1) (s : State) : (updReq a0 a1 s).mem = s.mem := rfl
@[simp] theorem updReq_kvt (a0) (a1) (s : State) : (updReq a0 a1 s).kvt = s.kvt := rfl
@[simp] theorem updReq_fab (a0) (a1) (s : State) : (updReq a0 a1 s).fab = s.fab := rfl
@[simp] theorem updReq_lcs (a0) (a1) (s : State) : (updReq a0 a1 s).lcs = s.lcs := rfl
@[simp] theorem updReq_tmp (a0) (a1) (s : State) : (updReq a0 a1 s).tmp = s.tmp := rfl
@[simp] theorem updReq_wdn (a0) (a1) (s : State) : (updReq a0 a1 s).wdn = s.wdn := rfl
@[simp] theorem updReq_log (a0) (a1) (s : State) : (updReq a0 a1 s).log = s.log := rfl
@[simp] theorem updReq_pwr (a0) (a1) (s : State) : (updReq a0 a1 s).pwr = s.pwr := rfl
@[simp] theorem updReq_mgt (a0) (a1) (s : State) : (updReq a0 a1 s).mgt = s.mgt := rfl
@[simp] theorem updReq_pcie (a0) (a1) (s : State) : (updReq a0 a1 s).pcie = s.pcie := rfl
@[simp] theorem updReq_cust (a0) (a1) (s : State) : (updReq a0 a1 s).cust = s.cust := rfl
@[simp] theorem updReq_ir (a0) (a1) (s : State) : (updReq a0 a1 s).ir = s.ir := rfl
@[simp] theorem updReq_out (a0) (a1) (s : State) : (updReq a0 a1 s).out = s.out := rfl
@[simp] theorem updReq_freeCtr (a0) (a1) (s : State) : (updReq a0 a1 s).freeCtr = s.freeCtr := rfl

@[simp] theorem dropReq_pending (a0) (s : State) : (dropReq a0 s).pending = s.pending := rfl
@[simp] theorem dropReq_mtime (a0) (s : State) : (dropReq a0 s).mtime = s.mtime := rfl
@[simp] theorem dropReq_frac (a0) (s : State) : (dropReq a0 s).frac = s.frac := rfl
@[simp] theorem dropReq_img (a0) (s : State) : (dropReq a0 s).img = s.img := rfl
@[simp] theorem dropReq_slices (a0) (s : State) : (dropReq a0 s).slices = s.slices := rfl
@[simp] theorem dropReq_adm (a0) (s : State) : (dropReq a0 s).adm = s.adm := rfl
@[simp] theorem dropReq_eng (a0) (s : State) : (dropReq a0 s).eng = s.eng := rfl
@[simp] theorem dropReq_ent (a0) (s : State) : (dropReq a0 s).ent = s.ent := rfl
@[simp] theorem dropReq_lku (a0) (s : State) : (dropReq a0 s).lku = s.lku := rfl
@[simp] theorem dropReq_mem (a0) (s : State) : (dropReq a0 s).mem = s.mem := rfl
@[simp] theorem dropReq_kvt (a0) (s : State) : (dropReq a0 s).kvt = s.kvt := rfl
@[simp] theorem dropReq_fab (a0) (s : State) : (dropReq a0 s).fab = s.fab := rfl
@[simp] theorem dropReq_lcs (a0) (s : State) : (dropReq a0 s).lcs = s.lcs := rfl
@[simp] theorem dropReq_tmp (a0) (s : State) : (dropReq a0 s).tmp = s.tmp := rfl
@[simp] theorem dropReq_wdn (a0) (s : State) : (dropReq a0 s).wdn = s.wdn := rfl
@[simp] theorem dropReq_log (a0) (s : State) : (dropReq a0 s).log = s.log := rfl
@[simp] theorem dropReq_pwr (a0) (s : State) : (dropReq a0 s).pwr = s.pwr := rfl
@[simp] theorem dropReq_mgt (a0) (s : State) : (dropReq a0 s).mgt = s.mgt := rfl
@[simp] theorem dropReq_pcie (a0) (s : State) : (dropReq a0 s).pcie = s.pcie := rfl
@[simp] theorem dropReq_cust (a0) (s : State) : (dropReq a0 s).cust = s.cust := rfl
@[simp] theorem dropReq_ir (a0) (s : State) : (dropReq a0 s).ir = s.ir := rfl
@[simp] theorem dropReq_out (a0) (s : State) : (dropReq a0 s).out = s.out := rfl
@[simp] theorem dropReq_freeCtr (a0) (s : State) : (dropReq a0 s).freeCtr = s.freeCtr := rfl

@[simp] theorem checkpoint_pending (s : State) : (checkpoint s).pending = s.pending := rfl
@[simp] theorem checkpoint_mtime (s : State) : (checkpoint s).mtime = s.mtime := rfl
@[simp] theorem checkpoint_frac (s : State) : (checkpoint s).frac = s.frac := rfl
@[simp] theorem checkpoint_img (s : State) : (checkpoint s).img = s.img := rfl
@[simp] theorem checkpoint_rqs (s : State) : (checkpoint s).rqs = s.rqs := rfl
@[simp] theorem checkpoint_slices (s : State) : (checkpoint s).slices = s.slices := rfl
@[simp] theorem checkpoint_adm (s : State) : (checkpoint s).adm = s.adm := rfl
@[simp] theorem checkpoint_eng (s : State) : (checkpoint s).eng = s.eng := rfl
@[simp] theorem checkpoint_ent (s : State) : (checkpoint s).ent = s.ent := rfl
@[simp] theorem checkpoint_lku (s : State) : (checkpoint s).lku = s.lku := rfl
@[simp] theorem checkpoint_mem (s : State) : (checkpoint s).mem = s.mem := rfl
@[simp] theorem checkpoint_kvt (s : State) : (checkpoint s).kvt = s.kvt := rfl
@[simp] theorem checkpoint_fab (s : State) : (checkpoint s).fab = s.fab := rfl
@[simp] theorem checkpoint_lcs (s : State) : (checkpoint s).lcs = s.lcs := rfl
@[simp] theorem checkpoint_tmp (s : State) : (checkpoint s).tmp = s.tmp := rfl
@[simp] theorem checkpoint_log (s : State) : (checkpoint s).log = s.log := rfl
@[simp] theorem checkpoint_pwr (s : State) : (checkpoint s).pwr = s.pwr := rfl
@[simp] theorem checkpoint_mgt (s : State) : (checkpoint s).mgt = s.mgt := rfl
@[simp] theorem checkpoint_pcie (s : State) : (checkpoint s).pcie = s.pcie := rfl
@[simp] theorem checkpoint_cust (s : State) : (checkpoint s).cust = s.cust := rfl
@[simp] theorem checkpoint_ir (s : State) : (checkpoint s).ir = s.ir := rfl
@[simp] theorem checkpoint_out (s : State) : (checkpoint s).out = s.out := rfl
@[simp] theorem checkpoint_freeCtr (s : State) : (checkpoint s).freeCtr = s.freeCtr := rfl

@[simp] theorem setPState_pending (a0) (s : State) : (setPState a0 s).pending = s.pending := logEvent_pending _ _ _
@[simp] theorem setPState_mtime (a0) (s : State) : (setPState a0 s).mtime = s.mtime := logEvent_mtime _ _ _
@[simp] theorem setPState_frac (a0) (s : State) : (setPState a0 s).frac = s.frac := logEvent_frac _ _ _
@[simp] theorem setPState_img (a0) (s : State) : (setPState a0 s).img = s.img := logEvent_img _ _ _
@[simp] theorem setPState_rqs (a0) (s : State) : (setPState a0 s).rqs = s.rqs := logEvent_rqs _ _ _
@[simp] theorem setPState_slices (a0) (s : State) : (setPState a0 s).slices = s.slices := logEvent_slices _ _ _
@[simp] theorem setPState_adm (a0) (s : State) : (setPState a0 s).adm = s.adm := logEvent_adm _ _ _
@[simp] theorem setPState_eng (a0) (s : State) : (setPState a0 s).eng = s.eng := logEvent_eng _ _ _
@[simp] theorem setPState_ent (a0) (s : State) : (setPState a0 s).ent = s.ent := logEvent_ent _ _ _
@[simp] theorem setPState_lku (a0) (s : State) : (setPState a0 s).lku = s.lku := logEvent_lku _ _ _
@[simp] theorem setPState_mem (a0) (s : State) : (setPState a0 s).mem = s.mem := logEvent_mem _ _ _
@[simp] theorem setPState_kvt (a0) (s : State) : (setPState a0 s).kvt = s.kvt := logEvent_kvt _ _ _
@[simp] theorem setPState_fab (a0) (s : State) : (setPState a0 s).fab = s.fab := logEvent_fab _ _ _
@[simp] theorem setPState_lcs (a0) (s : State) : (setPState a0 s).lcs = s.lcs := logEvent_lcs _ _ _
@[simp] theorem setPState_tmp (a0) (s : State) : (setPState a0 s).tmp = s.tmp := logEvent_tmp _ _ _
@[simp] theorem setPState_wdn (a0) (s : State) : (setPState a0 s).wdn = s.wdn := logEvent_wdn _ _ _
@[simp] theorem setPState_mgt (a0) (s : State) : (setPState a0 s).mgt = s.mgt := logEvent_mgt _ _ _
@[simp] theorem setPState_pcie (a0) (s : State) : (setPState a0 s).pcie = s.pcie := logEvent_pcie _ _ _
@[simp] theorem setPState_cust (a0) (s : State) : (setPState a0 s).cust = s.cust := logEvent_cust _ _ _
@[simp] theorem setPState_ir (a0) (s : State) : (setPState a0 s).ir = s.ir := logEvent_ir _ _ _
@[simp] theorem setPState_out (a0) (s : State) : (setPState a0 s).out = s.out := logEvent_out _ _ _
@[simp] theorem setPState_freeCtr (a0) (s : State) : (setPState a0 s).freeCtr = s.freeCtr := logEvent_freeCtr _ _ _

@[simp] theorem setDomain_pending (a0) (a1) (s : State) : (setDomain a0 a1 s).pending = s.pending := rfl
@[simp] theorem setDomain_mtime (a0) (a1) (s : State) : (setDomain a0 a1 s).mtime = s.mtime := rfl
@[simp] theorem setDomain_frac (a0) (a1) (s : State) : (setDomain a0 a1 s).frac = s.frac := rfl
@[simp] theorem setDomain_img (a0) (a1) (s : State) : (setDomain a0 a1 s).img = s.img := rfl
@[simp] theorem setDomain_rqs (a0) (a1) (s : State) : (setDomain a0 a1 s).rqs = s.rqs := rfl
@[simp] theorem setDomain_slices (a0) (a1) (s : State) : (setDomain a0 a1 s).slices = s.slices := rfl
@[simp] theorem setDomain_adm (a0) (a1) (s : State) : (setDomain a0 a1 s).adm = s.adm := rfl
@[simp] theorem setDomain_eng (a0) (a1) (s : State) : (setDomain a0 a1 s).eng = s.eng := rfl
@[simp] theorem setDomain_ent (a0) (a1) (s : State) : (setDomain a0 a1 s).ent = s.ent := rfl
@[simp] theorem setDomain_mem (a0) (a1) (s : State) : (setDomain a0 a1 s).mem = s.mem := rfl
@[simp] theorem setDomain_kvt (a0) (a1) (s : State) : (setDomain a0 a1 s).kvt = s.kvt := rfl
@[simp] theorem setDomain_fab (a0) (a1) (s : State) : (setDomain a0 a1 s).fab = s.fab := rfl
@[simp] theorem setDomain_lcs (a0) (a1) (s : State) : (setDomain a0 a1 s).lcs = s.lcs := rfl
@[simp] theorem setDomain_tmp (a0) (a1) (s : State) : (setDomain a0 a1 s).tmp = s.tmp := rfl
@[simp] theorem setDomain_wdn (a0) (a1) (s : State) : (setDomain a0 a1 s).wdn = s.wdn := rfl
@[simp] theorem setDomain_log (a0) (a1) (s : State) : (setDomain a0 a1 s).log = s.log := rfl
@[simp] theorem setDomain_pwr (a0) (a1) (s : State) : (setDomain a0 a1 s).pwr = s.pwr := rfl
@[simp] theorem setDomain_mgt (a0) (a1) (s : State) : (setDomain a0 a1 s).mgt = s.mgt := rfl
@[simp] theorem setDomain_pcie (a0) (a1) (s : State) : (setDomain a0 a1 s).pcie = s.pcie := rfl
@[simp] theorem setDomain_cust (a0) (a1) (s : State) : (setDomain a0 a1 s).cust = s.cust := rfl
@[simp] theorem setDomain_ir (a0) (a1) (s : State) : (setDomain a0 a1 s).ir = s.ir := rfl
@[simp] theorem setDomain_out (a0) (a1) (s : State) : (setDomain a0 a1 s).out = s.out := rfl
@[simp] theorem setDomain_freeCtr (a0) (a1) (s : State) : (setDomain a0 a1 s).freeCtr = s.freeCtr := rfl

@[simp] theorem updPeer_pending (a0) (a1) (s : State) : (updPeer a0 a1 s).pending = s.pending := rfl
@[simp] theorem updPeer_mtime (a0) (a1) (s : State) : (updPeer a0 a1 s).mtime = s.mtime := rfl
@[simp] theorem updPeer_frac (a0) (a1) (s : State) : (updPeer a0 a1 s).frac = s.frac := rfl
@[simp] theorem updPeer_img (a0) (a1) (s : State) : (updPeer a0 a1 s).img = s.img := rfl
@[simp] theorem updPeer_rqs (a0) (a1) (s : State) : (updPeer a0 a1 s).rqs = s.rqs := rfl
@[simp] theorem updPeer_slices (a0) (a1) (s : State) : (updPeer a0 a1 s).slices = s.slices := rfl
@[simp] theorem updPeer_adm (a0) (a1) (s : State) : (updPeer a0 a1 s).adm = s.adm := rfl
@[simp] theorem updPeer_eng (a0) (a1) (s : State) : (updPeer a0 a1 s).eng = s.eng := rfl
@[simp] theorem updPeer_ent (a0) (a1) (s : State) : (updPeer a0 a1 s).ent = s.ent := rfl
@[simp] theorem updPeer_mem (a0) (a1) (s : State) : (updPeer a0 a1 s).mem = s.mem := rfl
@[simp] theorem updPeer_kvt (a0) (a1) (s : State) : (updPeer a0 a1 s).kvt = s.kvt := rfl
@[simp] theorem updPeer_fab (a0) (a1) (s : State) : (updPeer a0 a1 s).fab = s.fab := rfl
@[simp] theorem updPeer_lcs (a0) (a1) (s : State) : (updPeer a0 a1 s).lcs = s.lcs := rfl
@[simp] theorem updPeer_tmp (a0) (a1) (s : State) : (updPeer a0 a1 s).tmp = s.tmp := rfl
@[simp] theorem updPeer_wdn (a0) (a1) (s : State) : (updPeer a0 a1 s).wdn = s.wdn := rfl
@[simp] theorem updPeer_log (a0) (a1) (s : State) : (updPeer a0 a1 s).log = s.log := rfl
@[simp] theorem updPeer_pwr (a0) (a1) (s : State) : (updPeer a0 a1 s).pwr = s.pwr := rfl
@[simp] theorem updPeer_mgt (a0) (a1) (s : State) : (updPeer a0 a1 s).mgt = s.mgt := rfl
@[simp] theorem updPeer_pcie (a0) (a1) (s : State) : (updPeer a0 a1 s).pcie = s.pcie := rfl
@[simp] theorem updPeer_cust (a0) (a1) (s : State) : (updPeer a0 a1 s).cust = s.cust := rfl
@[simp] theorem updPeer_ir (a0) (a1) (s : State) : (updPeer a0 a1 s).ir = s.ir := rfl
@[simp] theorem updPeer_out (a0) (a1) (s : State) : (updPeer a0 a1 s).out = s.out := rfl
@[simp] theorem updPeer_freeCtr (a0) (a1) (s : State) : (updPeer a0 a1 s).freeCtr = s.freeCtr := rfl

@[simp] theorem updDrbg_pending (a0) (a1) (s : State) : (updDrbg a0 a1 s).pending = s.pending := rfl
@[simp] theorem updDrbg_mtime (a0) (a1) (s : State) : (updDrbg a0 a1 s).mtime = s.mtime := rfl
@[simp] theorem updDrbg_frac (a0) (a1) (s : State) : (updDrbg a0 a1 s).frac = s.frac := rfl
@[simp] theorem updDrbg_img (a0) (a1) (s : State) : (updDrbg a0 a1 s).img = s.img := rfl
@[simp] theorem updDrbg_rqs (a0) (a1) (s : State) : (updDrbg a0 a1 s).rqs = s.rqs := rfl
@[simp] theorem updDrbg_slices (a0) (a1) (s : State) : (updDrbg a0 a1 s).slices = s.slices := rfl
@[simp] theorem updDrbg_adm (a0) (a1) (s : State) : (updDrbg a0 a1 s).adm = s.adm := rfl
@[simp] theorem updDrbg_eng (a0) (a1) (s : State) : (updDrbg a0 a1 s).eng = s.eng := rfl
@[simp] theorem updDrbg_lku (a0) (a1) (s : State) : (updDrbg a0 a1 s).lku = s.lku := rfl
@[simp] theorem updDrbg_mem (a0) (a1) (s : State) : (updDrbg a0 a1 s).mem = s.mem := rfl
@[simp] theorem updDrbg_kvt (a0) (a1) (s : State) : (updDrbg a0 a1 s).kvt = s.kvt := rfl
@[simp] theorem updDrbg_fab (a0) (a1) (s : State) : (updDrbg a0 a1 s).fab = s.fab := rfl
@[simp] theorem updDrbg_lcs (a0) (a1) (s : State) : (updDrbg a0 a1 s).lcs = s.lcs := rfl
@[simp] theorem updDrbg_tmp (a0) (a1) (s : State) : (updDrbg a0 a1 s).tmp = s.tmp := rfl
@[simp] theorem updDrbg_wdn (a0) (a1) (s : State) : (updDrbg a0 a1 s).wdn = s.wdn := rfl
@[simp] theorem updDrbg_log (a0) (a1) (s : State) : (updDrbg a0 a1 s).log = s.log := rfl
@[simp] theorem updDrbg_pwr (a0) (a1) (s : State) : (updDrbg a0 a1 s).pwr = s.pwr := rfl
@[simp] theorem updDrbg_mgt (a0) (a1) (s : State) : (updDrbg a0 a1 s).mgt = s.mgt := rfl
@[simp] theorem updDrbg_pcie (a0) (a1) (s : State) : (updDrbg a0 a1 s).pcie = s.pcie := rfl
@[simp] theorem updDrbg_cust (a0) (a1) (s : State) : (updDrbg a0 a1 s).cust = s.cust := rfl
@[simp] theorem updDrbg_ir (a0) (a1) (s : State) : (updDrbg a0 a1 s).ir = s.ir := rfl
@[simp] theorem updDrbg_out (a0) (a1) (s : State) : (updDrbg a0 a1 s).out = s.out := rfl
@[simp] theorem updDrbg_freeCtr (a0) (a1) (s : State) : (updDrbg a0 a1 s).freeCtr = s.freeCtr := rfl

@[simp] theorem setApprovals_pending (a0) (s : State) : (setApprovals a0 s).pending = s.pending := rfl
@[simp] theorem setApprovals_mtime (a0) (s : State) : (setApprovals a0 s).mtime = s.mtime := rfl
@[simp] theorem setApprovals_frac (a0) (s : State) : (setApprovals a0 s).frac = s.frac := rfl
@[simp] theorem setApprovals_img (a0) (s : State) : (setApprovals a0 s).img = s.img := rfl
@[simp] theorem setApprovals_rqs (a0) (s : State) : (setApprovals a0 s).rqs = s.rqs := rfl
@[simp] theorem setApprovals_slices (a0) (s : State) : (setApprovals a0 s).slices = s.slices := rfl
@[simp] theorem setApprovals_adm (a0) (s : State) : (setApprovals a0 s).adm = s.adm := rfl
@[simp] theorem setApprovals_eng (a0) (s : State) : (setApprovals a0 s).eng = s.eng := rfl
@[simp] theorem setApprovals_ent (a0) (s : State) : (setApprovals a0 s).ent = s.ent := rfl
@[simp] theorem setApprovals_lku (a0) (s : State) : (setApprovals a0 s).lku = s.lku := rfl
@[simp] theorem setApprovals_mem (a0) (s : State) : (setApprovals a0 s).mem = s.mem := rfl
@[simp] theorem setApprovals_kvt (a0) (s : State) : (setApprovals a0 s).kvt = s.kvt := rfl
@[simp] theorem setApprovals_fab (a0) (s : State) : (setApprovals a0 s).fab = s.fab := rfl
@[simp] theorem setApprovals_lcs (a0) (s : State) : (setApprovals a0 s).lcs = s.lcs := rfl
@[simp] theorem setApprovals_tmp (a0) (s : State) : (setApprovals a0 s).tmp = s.tmp := rfl
@[simp] theorem setApprovals_wdn (a0) (s : State) : (setApprovals a0 s).wdn = s.wdn := rfl
@[simp] theorem setApprovals_log (a0) (s : State) : (setApprovals a0 s).log = s.log := rfl
@[simp] theorem setApprovals_pwr (a0) (s : State) : (setApprovals a0 s).pwr = s.pwr := rfl
@[simp] theorem setApprovals_mgt (a0) (s : State) : (setApprovals a0 s).mgt = s.mgt := rfl
@[simp] theorem setApprovals_pcie (a0) (s : State) : (setApprovals a0 s).pcie = s.pcie := rfl
@[simp] theorem setApprovals_ir (a0) (s : State) : (setApprovals a0 s).ir = s.ir := rfl
@[simp] theorem setApprovals_out (a0) (s : State) : (setApprovals a0 s).out = s.out := rfl
@[simp] theorem setApprovals_freeCtr (a0) (s : State) : (setApprovals a0 s).freeCtr = s.freeCtr := rfl

@[simp] theorem updSession_pending (a0) (a1) (s : State) : (updSession a0 a1 s).pending = s.pending := by unfold updSession; split <;> rfl
@[simp] theorem updSession_mtime (a0) (a1) (s : State) : (updSession a0 a1 s).mtime = s.mtime := by unfold updSession; split <;> rfl
@[simp] theorem updSession_frac (a0) (a1) (s : State) : (updSession a0 a1 s).frac = s.frac := by unfold updSession; split <;> rfl
@[simp] theorem updSession_img (a0) (a1) (s : State) : (updSession a0 a1 s).img = s.img := by unfold updSession; split <;> rfl
@[simp] theorem updSession_rqs (a0) (a1) (s : State) : (updSession a0 a1 s).rqs = s.rqs := by unfold updSession; split <;> rfl
@[simp] theorem updSession_slices (a0) (a1) (s : State) : (updSession a0 a1 s).slices = s.slices := by unfold updSession; split <;> rfl
@[simp] theorem updSession_adm (a0) (a1) (s : State) : (updSession a0 a1 s).adm = s.adm := by unfold updSession; split <;> rfl
@[simp] theorem updSession_eng (a0) (a1) (s : State) : (updSession a0 a1 s).eng = s.eng := by unfold updSession; split <;> rfl
@[simp] theorem updSession_ent (a0) (a1) (s : State) : (updSession a0 a1 s).ent = s.ent := by unfold updSession; split <;> rfl
@[simp] theorem updSession_lku (a0) (a1) (s : State) : (updSession a0 a1 s).lku = s.lku := by unfold updSession; split <;> rfl
@[simp] theorem updSession_mem (a0) (a1) (s : State) : (updSession a0 a1 s).mem = s.mem := by unfold updSession; split <;> rfl
@[simp] theorem updSession_kvt (a0) (a1) (s : State) : (updSession a0 a1 s).kvt = s.kvt := by unfold updSession; split <;> rfl
@[simp] theorem updSession_lcs (a0) (a1) (s : State) : (updSession a0 a1 s).lcs = s.lcs := by unfold updSession; split <;> rfl
@[simp] theorem updSession_tmp (a0) (a1) (s : State) : (updSession a0 a1 s).tmp = s.tmp := by unfold updSession; split <;> rfl
@[simp] theorem updSession_wdn (a0) (a1) (s : State) : (updSession a0 a1 s).wdn = s.wdn := by unfold updSession; split <;> rfl
@[simp] theorem updSession_log (a0) (a1) (s : State) : (updSession a0 a1 s).log = s.log := by unfold updSession; split <;> rfl
@[simp] theorem updSession_pwr (a0) (a1) (s : State) : (updSession a0 a1 s).pwr = s.pwr := by unfold updSession; split <;> rfl
@[simp] theorem updSession_mgt (a0) (a1) (s : State) : (updSession a0 a1 s).mgt = s.mgt := by unfold updSession; split <;> rfl
@[simp] theorem updSession_pcie (a0) (a1) (s : State) : (updSession a0 a1 s).pcie = s.pcie := by unfold updSession; split <;> rfl
@[simp] theorem updSession_cust (a0) (a1) (s : State) : (updSession a0 a1 s).cust = s.cust := by unfold updSession; split <;> rfl
@[simp] theorem updSession_ir (a0) (a1) (s : State) : (updSession a0 a1 s).ir = s.ir := by unfold updSession; split <;> rfl
@[simp] theorem updSession_out (a0) (a1) (s : State) : (updSession a0 a1 s).out = s.out := by unfold updSession; split <;> rfl
@[simp] theorem updSession_freeCtr (a0) (a1) (s : State) : (updSession a0 a1 s).freeCtr = s.freeCtr := by unfold updSession; split <;> rfl

@[simp] theorem addReq_pending (a0) (s : State) : (addReq a0 s).pending = s.pending := rfl
@[simp] theorem addReq_mtime (a0) (s : State) : (addReq a0 s).mtime = s.mtime := rfl
@[simp] theorem addReq_frac (a0) (s : State) : (addReq a0 s).frac = s.frac := rfl
@[simp] theorem addReq_img (a0) (s : State) : (addReq a0 s).img = s.img := rfl
@[simp] theorem addReq_slices (a0) (s : State) : (addReq a0 s).slices = s.slices := rfl
@[simp] theorem addReq_adm (a0) (s : State) : (addReq a0 s).adm = s.adm := rfl
@[simp] theorem addReq_eng (a0) (s : State) : (addReq a0 s).eng = s.eng := rfl
@[simp] theorem addReq_ent (a0) (s : State) : (addReq a0 s).ent = s.ent := rfl
@[simp] theorem addReq_lku (a0) (s : State) : (addReq a0 s).lku = s.lku := rfl
@[simp] theorem addReq_mem (a0) (s : State) : (addReq a0 s).mem = s.mem := rfl
@[simp] theorem addReq_kvt (a0) (s : State) : (addReq a0 s).kvt = s.kvt := rfl
@[simp] theorem addReq_fab (a0) (s : State) : (addReq a0 s).fab = s.fab := rfl
@[simp] theorem addReq_lcs (a0) (s : State) : (addReq a0 s).lcs = s.lcs := rfl
@[simp] theorem addReq_tmp (a0) (s : State) : (addReq a0 s).tmp = s.tmp := rfl
@[simp] theorem addReq_wdn (a0) (s : State) : (addReq a0 s).wdn = s.wdn := rfl
@[simp] theorem addReq_log (a0) (s : State) : (addReq a0 s).log = s.log := rfl
@[simp] theorem addReq_pwr (a0) (s : State) : (addReq a0 s).pwr = s.pwr := rfl
@[simp] theorem addReq_mgt (a0) (s : State) : (addReq a0 s).mgt = s.mgt := rfl
@[simp] theorem addReq_pcie (a0) (s : State) : (addReq a0 s).pcie = s.pcie := rfl
@[simp] theorem addReq_cust (a0) (s : State) : (addReq a0 s).cust = s.cust := rfl
@[simp] theorem addReq_ir (a0) (s : State) : (addReq a0 s).ir = s.ir := rfl
@[simp] theorem addReq_out (a0) (s : State) : (addReq a0 s).out = s.out := rfl
@[simp] theorem addReq_freeCtr (a0) (s : State) : (addReq a0 s).freeCtr = s.freeCtr := rfl

@[simp] theorem clearContexts_pending (a0) (s : State) : (clearContexts a0 s).pending = s.pending := rfl
@[simp] theorem clearContexts_mtime (a0) (s : State) : (clearContexts a0 s).mtime = s.mtime := rfl
@[simp] theorem clearContexts_frac (a0) (s : State) : (clearContexts a0 s).frac = s.frac := rfl
@[simp] theorem clearContexts_img (a0) (s : State) : (clearContexts a0 s).img = s.img := rfl
@[simp] theorem clearContexts_rqs (a0) (s : State) : (clearContexts a0 s).rqs = s.rqs := rfl
@[simp] theorem clearContexts_slices (a0) (s : State) : (clearContexts a0 s).slices = s.slices := rfl
@[simp] theorem clearContexts_adm (a0) (s : State) : (clearContexts a0 s).adm = s.adm := rfl
@[simp] theorem clearContexts_ent (a0) (s : State) : (clearContexts a0 s).ent = s.ent := rfl
@[simp] theorem clearContexts_lku (a0) (s : State) : (clearContexts a0 s).lku = s.lku := rfl
@[simp] theorem clearContexts_mem (a0) (s : State) : (clearContexts a0 s).mem = s.mem := rfl
@[simp] theorem clearContexts_kvt (a0) (s : State) : (clearContexts a0 s).kvt = s.kvt := rfl
@[simp] theorem clearContexts_fab (a0) (s : State) : (clearContexts a0 s).fab = s.fab := rfl
@[simp] theorem clearContexts_lcs (a0) (s : State) : (clearContexts a0 s).lcs = s.lcs := rfl
@[simp] theorem clearContexts_tmp (a0) (s : State) : (clearContexts a0 s).tmp = s.tmp := rfl
@[simp] theorem clearContexts_wdn (a0) (s : State) : (clearContexts a0 s).wdn = s.wdn := rfl
@[simp] theorem clearContexts_log (a0) (s : State) : (clearContexts a0 s).log = s.log := rfl
@[simp] theorem clearContexts_pwr (a0) (s : State) : (clearContexts a0 s).pwr = s.pwr := rfl
@[simp] theorem clearContexts_mgt (a0) (s : State) : (clearContexts a0 s).mgt = s.mgt := rfl
@[simp] theorem clearContexts_pcie (a0) (s : State) : (clearContexts a0 s).pcie = s.pcie := rfl
@[simp] theorem clearContexts_cust (a0) (s : State) : (clearContexts a0 s).cust = s.cust := rfl
@[simp] theorem clearContexts_ir (a0) (s : State) : (clearContexts a0 s).ir = s.ir := rfl
@[simp] theorem clearContexts_out (a0) (s : State) : (clearContexts a0 s).out = s.out := rfl
@[simp] theorem clearContexts_freeCtr (a0) (s : State) : (clearContexts a0 s).freeCtr = s.freeCtr := rfl

@[simp] theorem countLate_pending (a0) (s : State) : (countLate a0 s).pending = s.pending := by unfold countLate; split <;> rfl
@[simp] theorem countLate_mtime (a0) (s : State) : (countLate a0 s).mtime = s.mtime := by unfold countLate; split <;> rfl
@[simp] theorem countLate_frac (a0) (s : State) : (countLate a0 s).frac = s.frac := by unfold countLate; split <;> rfl
@[simp] theorem countLate_img (a0) (s : State) : (countLate a0 s).img = s.img := by unfold countLate; split <;> rfl
@[simp] theorem countLate_rqs (a0) (s : State) : (countLate a0 s).rqs = s.rqs := by unfold countLate; split <;> rfl
@[simp] theorem countLate_slices (a0) (s : State) : (countLate a0 s).slices = s.slices := by unfold countLate; split <;> rfl
@[simp] theorem countLate_adm (a0) (s : State) : (countLate a0 s).adm = s.adm := by unfold countLate; split <;> rfl
@[simp] theorem countLate_eng (a0) (s : State) : (countLate a0 s).eng = s.eng := by unfold countLate; split <;> rfl
@[simp] theorem countLate_ent (a0) (s : State) : (countLate a0 s).ent = s.ent := by unfold countLate; split <;> rfl
@[simp] theorem countLate_lku (a0) (s : State) : (countLate a0 s).lku = s.lku := by unfold countLate; split <;> rfl
@[simp] theorem countLate_mem (a0) (s : State) : (countLate a0 s).mem = s.mem := by unfold countLate; split <;> rfl
@[simp] theorem countLate_kvt (a0) (s : State) : (countLate a0 s).kvt = s.kvt := by unfold countLate; split <;> rfl
@[simp] theorem countLate_lcs (a0) (s : State) : (countLate a0 s).lcs = s.lcs := by unfold countLate; split <;> rfl
@[simp] theorem countLate_tmp (a0) (s : State) : (countLate a0 s).tmp = s.tmp := by unfold countLate; split <;> rfl
@[simp] theorem countLate_wdn (a0) (s : State) : (countLate a0 s).wdn = s.wdn := by unfold countLate; split <;> rfl
@[simp] theorem countLate_log (a0) (s : State) : (countLate a0 s).log = s.log := by unfold countLate; split <;> rfl
@[simp] theorem countLate_pwr (a0) (s : State) : (countLate a0 s).pwr = s.pwr := by unfold countLate; split <;> rfl
@[simp] theorem countLate_mgt (a0) (s : State) : (countLate a0 s).mgt = s.mgt := by unfold countLate; split <;> rfl
@[simp] theorem countLate_pcie (a0) (s : State) : (countLate a0 s).pcie = s.pcie := by unfold countLate; split <;> rfl
@[simp] theorem countLate_cust (a0) (s : State) : (countLate a0 s).cust = s.cust := by unfold countLate; split <;> rfl
@[simp] theorem countLate_ir (a0) (s : State) : (countLate a0 s).ir = s.ir := by unfold countLate; split <;> rfl
@[simp] theorem countLate_out (a0) (s : State) : (countLate a0 s).out = s.out := by unfold countLate; split <;> rfl
@[simp] theorem countLate_freeCtr (a0) (s : State) : (countLate a0 s).freeCtr = s.freeCtr := by unfold countLate; split <;> rfl

@[simp] theorem uncache_pending (a0) (a1) (s : State) : (uncache a0 a1 s).pending = s.pending := rfl
@[simp] theorem uncache_mtime (a0) (a1) (s : State) : (uncache a0 a1 s).mtime = s.mtime := rfl
@[simp] theorem uncache_frac (a0) (a1) (s : State) : (uncache a0 a1 s).frac = s.frac := rfl
@[simp] theorem uncache_img (a0) (a1) (s : State) : (uncache a0 a1 s).img = s.img := rfl
@[simp] theorem uncache_rqs (a0) (a1) (s : State) : (uncache a0 a1 s).rqs = s.rqs := rfl
@[simp] theorem uncache_slices (a0) (a1) (s : State) : (uncache a0 a1 s).slices = s.slices := rfl
@[simp] theorem uncache_adm (a0) (a1) (s : State) : (uncache a0 a1 s).adm = s.adm := rfl
@[simp] theorem uncache_eng (a0) (a1) (s : State) : (uncache a0 a1 s).eng = s.eng := rfl
@[simp] theorem uncache_ent (a0) (a1) (s : State) : (uncache a0 a1 s).ent = s.ent := rfl
@[simp] theorem uncache_lku (a0) (a1) (s : State) : (uncache a0 a1 s).lku = s.lku := rfl
@[simp] theorem uncache_mem (a0) (a1) (s : State) : (uncache a0 a1 s).mem = s.mem := rfl
@[simp] theorem uncache_fab (a0) (a1) (s : State) : (uncache a0 a1 s).fab = s.fab := rfl
@[simp] theorem uncache_lcs (a0) (a1) (s : State) : (uncache a0 a1 s).lcs = s.lcs := rfl
@[simp] theorem uncache_tmp (a0) (a1) (s : State) : (uncache a0 a1 s).tmp = s.tmp := rfl
@[simp] theorem uncache_wdn (a0) (a1) (s : State) : (uncache a0 a1 s).wdn = s.wdn := rfl
@[simp] theorem uncache_log (a0) (a1) (s : State) : (uncache a0 a1 s).log = s.log := rfl
@[simp] theorem uncache_pwr (a0) (a1) (s : State) : (uncache a0 a1 s).pwr = s.pwr := rfl
@[simp] theorem uncache_mgt (a0) (a1) (s : State) : (uncache a0 a1 s).mgt = s.mgt := rfl
@[simp] theorem uncache_pcie (a0) (a1) (s : State) : (uncache a0 a1 s).pcie = s.pcie := rfl
@[simp] theorem uncache_cust (a0) (a1) (s : State) : (uncache a0 a1 s).cust = s.cust := rfl
@[simp] theorem uncache_ir (a0) (a1) (s : State) : (uncache a0 a1 s).ir = s.ir := rfl
@[simp] theorem uncache_out (a0) (a1) (s : State) : (uncache a0 a1 s).out = s.out := rfl
@[simp] theorem uncache_freeCtr (a0) (a1) (s : State) : (uncache a0 a1 s).freeCtr = s.freeCtr := rfl

@[simp] theorem cacheTouch_pending (a0) (a1) (s : State) : (cacheTouch a0 a1 s).pending = s.pending := rfl
@[simp] theorem cacheTouch_mtime (a0) (a1) (s : State) : (cacheTouch a0 a1 s).mtime = s.mtime := rfl
@[simp] theorem cacheTouch_frac (a0) (a1) (s : State) : (cacheTouch a0 a1 s).frac = s.frac := rfl
@[simp] theorem cacheTouch_img (a0) (a1) (s : State) : (cacheTouch a0 a1 s).img = s.img := rfl
@[simp] theorem cacheTouch_rqs (a0) (a1) (s : State) : (cacheTouch a0 a1 s).rqs = s.rqs := rfl
@[simp] theorem cacheTouch_slices (a0) (a1) (s : State) : (cacheTouch a0 a1 s).slices = s.slices := rfl
@[simp] theorem cacheTouch_adm (a0) (a1) (s : State) : (cacheTouch a0 a1 s).adm = s.adm := rfl
@[simp] theorem cacheTouch_eng (a0) (a1) (s : State) : (cacheTouch a0 a1 s).eng = s.eng := rfl
@[simp] theorem cacheTouch_ent (a0) (a1) (s : State) : (cacheTouch a0 a1 s).ent = s.ent := rfl
@[simp] theorem cacheTouch_lku (a0) (a1) (s : State) : (cacheTouch a0 a1 s).lku = s.lku := rfl
@[simp] theorem cacheTouch_mem (a0) (a1) (s : State) : (cacheTouch a0 a1 s).mem = s.mem := rfl
@[simp] theorem cacheTouch_fab (a0) (a1) (s : State) : (cacheTouch a0 a1 s).fab = s.fab := rfl
@[simp] theorem cacheTouch_lcs (a0) (a1) (s : State) : (cacheTouch a0 a1 s).lcs = s.lcs := rfl
@[simp] theorem cacheTouch_tmp (a0) (a1) (s : State) : (cacheTouch a0 a1 s).tmp = s.tmp := rfl
@[simp] theorem cacheTouch_wdn (a0) (a1) (s : State) : (cacheTouch a0 a1 s).wdn = s.wdn := rfl
@[simp] theorem cacheTouch_log (a0) (a1) (s : State) : (cacheTouch a0 a1 s).log = s.log := rfl
@[simp] theorem cacheTouch_pwr (a0) (a1) (s : State) : (cacheTouch a0 a1 s).pwr = s.pwr := rfl
@[simp] theorem cacheTouch_mgt (a0) (a1) (s : State) : (cacheTouch a0 a1 s).mgt = s.mgt := rfl
@[simp] theorem cacheTouch_pcie (a0) (a1) (s : State) : (cacheTouch a0 a1 s).pcie = s.pcie := rfl
@[simp] theorem cacheTouch_cust (a0) (a1) (s : State) : (cacheTouch a0 a1 s).cust = s.cust := rfl
@[simp] theorem cacheTouch_ir (a0) (a1) (s : State) : (cacheTouch a0 a1 s).ir = s.ir := rfl
@[simp] theorem cacheTouch_out (a0) (a1) (s : State) : (cacheTouch a0 a1 s).out = s.out := rfl
@[simp] theorem cacheTouch_freeCtr (a0) (a1) (s : State) : (cacheTouch a0 a1 s).freeCtr = s.freeCtr := rfl

@[simp] theorem updUnit_pending (a0) (a1) (a2) (s : State) : (updUnit a0 a1 a2 s).pending = s.pending := rfl
@[simp] theorem updUnit_mtime (a0) (a1) (a2) (s : State) : (updUnit a0 a1 a2 s).mtime = s.mtime := rfl
@[simp] theorem updUnit_frac (a0) (a1) (a2) (s : State) : (updUnit a0 a1 a2 s).frac = s.frac := rfl
@[simp] theorem updUnit_img (a0) (a1) (a2) (s : State) : (updUnit a0 a1 a2 s).img = s.img := rfl
@[simp] theorem updUnit_rqs (a0) (a1) (a2) (s : State) : (updUnit a0 a1 a2 s).rqs = s.rqs := rfl
@[simp] theorem updUnit_slices (a0) (a1) (a2) (s : State) : (updUnit a0 a1 a2 s).slices = s.slices := rfl
@[simp] theorem updUnit_adm (a0) (a1) (a2) (s : State) : (updUnit a0 a1 a2 s).adm = s.adm := rfl
@[simp] theorem updUnit_ent (a0) (a1) (a2) (s : State) : (updUnit a0 a1 a2 s).ent = s.ent := rfl
@[simp] theorem updUnit_lku (a0) (a1) (a2) (s : State) : (updUnit a0 a1 a2 s).lku = s.lku := rfl
@[simp] theorem updUnit_mem (a0) (a1) (a2) (s : State) : (updUnit a0 a1 a2 s).mem = s.mem := rfl
@[simp] theorem updUnit_kvt (a0) (a1) (a2) (s : State) : (updUnit a0 a1 a2 s).kvt = s.kvt := rfl
@[simp] theorem updUnit_fab (a0) (a1) (a2) (s : State) : (updUnit a0 a1 a2 s).fab = s.fab := rfl
@[simp] theorem updUnit_lcs (a0) (a1) (a2) (s : State) : (updUnit a0 a1 a2 s).lcs = s.lcs := rfl
@[simp] theorem updUnit_tmp (a0) (a1) (a2) (s : State) : (updUnit a0 a1 a2 s).tmp = s.tmp := rfl
@[simp] theorem updUnit_wdn (a0) (a1) (a2) (s : State) : (updUnit a0 a1 a2 s).wdn = s.wdn := rfl
@[simp] theorem updUnit_log (a0) (a1) (a2) (s : State) : (updUnit a0 a1 a2 s).log = s.log := rfl
@[simp] theorem updUnit_pwr (a0) (a1) (a2) (s : State) : (updUnit a0 a1 a2 s).pwr = s.pwr := rfl
@[simp] theorem updUnit_mgt (a0) (a1) (a2) (s : State) : (updUnit a0 a1 a2 s).mgt = s.mgt := rfl
@[simp] theorem updUnit_pcie (a0) (a1) (a2) (s : State) : (updUnit a0 a1 a2 s).pcie = s.pcie := rfl
@[simp] theorem updUnit_cust (a0) (a1) (a2) (s : State) : (updUnit a0 a1 a2 s).cust = s.cust := rfl
@[simp] theorem updUnit_ir (a0) (a1) (a2) (s : State) : (updUnit a0 a1 a2 s).ir = s.ir := rfl
@[simp] theorem updUnit_out (a0) (a1) (a2) (s : State) : (updUnit a0 a1 a2 s).out = s.out := rfl
@[simp] theorem updUnit_freeCtr (a0) (a1) (a2) (s : State) : (updUnit a0 a1 a2 s).freeCtr = s.freeCtr := rfl

@[simp] theorem setSlot_pending (a0) (a1) (s : State) : (setSlot a0 a1 s).pending = s.pending := by unfold setSlot; split <;> rfl
@[simp] theorem setSlot_mtime (a0) (a1) (s : State) : (setSlot a0 a1 s).mtime = s.mtime := by unfold setSlot; split <;> rfl
@[simp] theorem setSlot_frac (a0) (a1) (s : State) : (setSlot a0 a1 s).frac = s.frac := by unfold setSlot; split <;> rfl
@[simp] theorem setSlot_rqs (a0) (a1) (s : State) : (setSlot a0 a1 s).rqs = s.rqs := by unfold setSlot; split <;> rfl
@[simp] theorem setSlot_slices (a0) (a1) (s : State) : (setSlot a0 a1 s).slices = s.slices := by unfold setSlot; split <;> rfl
@[simp] theorem setSlot_adm (a0) (a1) (s : State) : (setSlot a0 a1 s).adm = s.adm := by unfold setSlot; split <;> rfl
@[simp] theorem setSlot_eng (a0) (a1) (s : State) : (setSlot a0 a1 s).eng = s.eng := by unfold setSlot; split <;> rfl
@[simp] theorem setSlot_ent (a0) (a1) (s : State) : (setSlot a0 a1 s).ent = s.ent := by unfold setSlot; split <;> rfl
@[simp] theorem setSlot_lku (a0) (a1) (s : State) : (setSlot a0 a1 s).lku = s.lku := by unfold setSlot; split <;> rfl
@[simp] theorem setSlot_mem (a0) (a1) (s : State) : (setSlot a0 a1 s).mem = s.mem := by unfold setSlot; split <;> rfl
@[simp] theorem setSlot_kvt (a0) (a1) (s : State) : (setSlot a0 a1 s).kvt = s.kvt := by unfold setSlot; split <;> rfl
@[simp] theorem setSlot_fab (a0) (a1) (s : State) : (setSlot a0 a1 s).fab = s.fab := by unfold setSlot; split <;> rfl
@[simp] theorem setSlot_lcs (a0) (a1) (s : State) : (setSlot a0 a1 s).lcs = s.lcs := by unfold setSlot; split <;> rfl
@[simp] theorem setSlot_tmp (a0) (a1) (s : State) : (setSlot a0 a1 s).tmp = s.tmp := by unfold setSlot; split <;> rfl
@[simp] theorem setSlot_wdn (a0) (a1) (s : State) : (setSlot a0 a1 s).wdn = s.wdn := by unfold setSlot; split <;> rfl
@[simp] theorem setSlot_log (a0) (a1) (s : State) : (setSlot a0 a1 s).log = s.log := by unfold setSlot; split <;> rfl
@[simp] theorem setSlot_pwr (a0) (a1) (s : State) : (setSlot a0 a1 s).pwr = s.pwr := by unfold setSlot; split <;> rfl
@[simp] theorem setSlot_mgt (a0) (a1) (s : State) : (setSlot a0 a1 s).mgt = s.mgt := by unfold setSlot; split <;> rfl
@[simp] theorem setSlot_pcie (a0) (a1) (s : State) : (setSlot a0 a1 s).pcie = s.pcie := by unfold setSlot; split <;> rfl
@[simp] theorem setSlot_cust (a0) (a1) (s : State) : (setSlot a0 a1 s).cust = s.cust := by unfold setSlot; split <;> rfl
@[simp] theorem setSlot_ir (a0) (a1) (s : State) : (setSlot a0 a1 s).ir = s.ir := by unfold setSlot; split <;> rfl
@[simp] theorem setSlot_out (a0) (a1) (s : State) : (setSlot a0 a1 s).out = s.out := by unfold setSlot; split <;> rfl
@[simp] theorem setSlot_freeCtr (a0) (a1) (s : State) : (setSlot a0 a1 s).freeCtr = s.freeCtr := by unfold setSlot; split <;> rfl

@[simp] theorem loadIr_pending (a0) (a1) (s : State) : (loadIr a0 a1 s).pending = s.pending := by unfold loadIr; split <;> rfl
@[simp] theorem loadIr_mtime (a0) (a1) (s : State) : (loadIr a0 a1 s).mtime = s.mtime := by unfold loadIr; split <;> rfl
@[simp] theorem loadIr_frac (a0) (a1) (s : State) : (loadIr a0 a1 s).frac = s.frac := by unfold loadIr; split <;> rfl
@[simp] theorem loadIr_img (a0) (a1) (s : State) : (loadIr a0 a1 s).img = s.img := by unfold loadIr; split <;> rfl
@[simp] theorem loadIr_rqs (a0) (a1) (s : State) : (loadIr a0 a1 s).rqs = s.rqs := by unfold loadIr; split <;> rfl
@[simp] theorem loadIr_slices (a0) (a1) (s : State) : (loadIr a0 a1 s).slices = s.slices := by unfold loadIr; split <;> rfl
@[simp] theorem loadIr_adm (a0) (a1) (s : State) : (loadIr a0 a1 s).adm = s.adm := by unfold loadIr; split <;> rfl
@[simp] theorem loadIr_eng (a0) (a1) (s : State) : (loadIr a0 a1 s).eng = s.eng := by unfold loadIr; split <;> rfl
@[simp] theorem loadIr_ent (a0) (a1) (s : State) : (loadIr a0 a1 s).ent = s.ent := by unfold loadIr; split <;> rfl
@[simp] theorem loadIr_lku (a0) (a1) (s : State) : (loadIr a0 a1 s).lku = s.lku := by unfold loadIr; split <;> rfl
@[simp] theorem loadIr_mem (a0) (a1) (s : State) : (loadIr a0 a1 s).mem = s.mem := by unfold loadIr; split <;> rfl
@[simp] theorem loadIr_kvt (a0) (a1) (s : State) : (loadIr a0 a1 s).kvt = s.kvt := by unfold loadIr; split <;> rfl
@[simp] theorem loadIr_fab (a0) (a1) (s : State) : (loadIr a0 a1 s).fab = s.fab := by unfold loadIr; split <;> rfl
@[simp] theorem loadIr_lcs (a0) (a1) (s : State) : (loadIr a0 a1 s).lcs = s.lcs := by unfold loadIr; split <;> rfl
@[simp] theorem loadIr_tmp (a0) (a1) (s : State) : (loadIr a0 a1 s).tmp = s.tmp := by unfold loadIr; split <;> rfl
@[simp] theorem loadIr_wdn (a0) (a1) (s : State) : (loadIr a0 a1 s).wdn = s.wdn := by unfold loadIr; split <;> rfl
@[simp] theorem loadIr_log (a0) (a1) (s : State) : (loadIr a0 a1 s).log = s.log := by unfold loadIr; split <;> rfl
@[simp] theorem loadIr_pwr (a0) (a1) (s : State) : (loadIr a0 a1 s).pwr = s.pwr := by unfold loadIr; split <;> rfl
@[simp] theorem loadIr_mgt (a0) (a1) (s : State) : (loadIr a0 a1 s).mgt = s.mgt := by unfold loadIr; split <;> rfl
@[simp] theorem loadIr_pcie (a0) (a1) (s : State) : (loadIr a0 a1 s).pcie = s.pcie := by unfold loadIr; split <;> rfl
@[simp] theorem loadIr_cust (a0) (a1) (s : State) : (loadIr a0 a1 s).cust = s.cust := by unfold loadIr; split <;> rfl
@[simp] theorem loadIr_out (a0) (a1) (s : State) : (loadIr a0 a1 s).out = s.out := by unfold loadIr; split <;> rfl
@[simp] theorem loadIr_freeCtr (a0) (a1) (s : State) : (loadIr a0 a1 s).freeCtr = s.freeCtr := by unfold loadIr; split <;> rfl

@[simp] theorem emit_out (o) (s : State) : (emit o s).out = o :: s.out := rfl
@[simp] theorem updSlice_slices (n) (f) (s : State) : (updSlice n f s).slices = tupd s.slices n {} f := rfl
@[simp] theorem setQueue_queues (l) (q) (x) (s : State) : (setQueue l q x s).rqs.queues = tset s.rqs.queues (16 * l + q) x := rfl
@[simp] theorem setQueue_live (l) (q) (x) (s : State) : (setQueue l q x s).rqs.live = s.rqs.live := rfl
@[simp] theorem dropReq_live (n) (s : State) : (dropReq n s).rqs.live = s.rqs.live.filter fun r => r.rid != n := rfl
@[simp] theorem draw_number (s : State) : (draw s).1 = s.freeCtr := rfl
@[simp] theorem draw_freeCtr (s : State) : (draw s).2.freeCtr = s.freeCtr + 1 := rfl

end Sys2Proof.Machine
end

