-- ==== Sys2Proof/Tests/Slice0.lean ====
section
/-! SUPPORT. The model's own tests: for every statement a state that meets its hypotheses, terms that WellFormed refuses, and
a few values of the spec's own examples. -/

namespace Sys2Proof.Tests
open Sys2Proof Sys2Proof.Machine
set_option Elab.async false

/-- A stored key of a handle: usage, algorithm and mode, length or parameter code, exportability, HMAC hash, material,
type and flags. -/
def key (handle : Nat) (usage : String) (bits : Nat) (exp : String) (hash : Nat) (material : Bytes) (typ flags : Nat) : KeyRec :=
  let k : KeyRec := {
    typ := typ, handle := handle, material := material
    attrs := ascii usage ++ ascii "00" ++ ascii exp ++ ascii "0" ++ leBytes 2 bits ++ leBytes 2 flags ++ [0, 0, BitVec.ofNat 8 hash, 0] }
  { k with confirm := confirmOf k.alg k.material }

/-- Its confirmation passes. -/
theorem key_confirmed (h : Nat) (u : String) (b : Nat) (e : String) (g : Nat) (m : Bytes) (t f : Nat) :
    (key h u b e g m t f).confirmed = true := by
  simp only [KeyRec.confirmed, key, KeyRec.alg]
  exact beq_self_eq_true _

/-- A request at sequencer 0 of a standalone module whose generators run, its keys in the stash and the cache. -/
def atSeq (code cls p0 : Nat) (a b : Option KeyRec) (keyB cap : Nat) (input : Bytes) : State :=
  let s := State.reset
  let l := (match a with | some k => [(0, k)] | none => []) ++ (match b with | some k => [(1, k)] | none => [])
  { s with
    ent := { s.ent with startupDone := true, drbg := [(0, { consumer := 2, inst := true }), (1, { consumer := 3, inst := true })] }
    kvt := { s.kvt with records := l, cache := [(0, 1), (0, 2)] }
    lku := { s.lku with stash := l.map fun e => (e.1, { handle := e.2.handle, record := e.1 }) }
    rqs := { s.rqs with live := [{
      rid := 7, phase := .executing, seqr := some 0, input := input
      desc := {
        command := BitVec.ofNat 16 code, cls := BitVec.ofNat 8 cls, flags := 1, keyA := if a.isSome then 1 else 0
        keyB := BitVec.ofNat 32 keyB, inLen := BitVec.ofNat 32 input.length, outCap := BitVec.ofNat 32 cap
        p0 := BitVec.ofNat 16 p0, panDigits := 12, pan := 0x123456789012FFFFFFFF } }] } }

/-- The request. -/
def reqOf (s : State) : Req := (findReq s 7).getD { rid := 0 }

/-- Its keys as fetched, and the state after the fetch. -/
def fetched (c : Nat) (s : State) : Keys × State :=
  match catalogue c with
  | none => ({}, s)
  | some row => match fetchKeys row (reqOf s) s with | .inl x => x | .inr _ => ({}, s)

/-- The state in which it computes. -/
def drawn (c : Nat) (s : State) : State := match drawCalls (reqOf s) (fetched c s).2 with | .go u => u | _ => s

/-- Nothing turns the request away. -/
def stands (c : Nat) (pre : Pre) (s : State) : Bool :=
  match findReq s 7, catalogue c with
  | some r, some row =>
    r.phase == .executing && r.seqr.isSome && r.desc.code == c &&
    match fetchKeys row r s with
    | .inr _ => false
    | .inl (k, t) => (if c = 0x0801 then none else freshFault row r t).isNone && (pre t r k).isNone && (sizeFault t r k).isNone &&
        match drawCalls r t with | .go _ => true | _ => false
  | _, _ => false

theorem at_command {c : Nat} {pre : Pre} {s : State} (h : stands c pre s = true) :
    AtCommand c pre s 7 (reqOf s) (fetched c s).1 (drawn c s) := by
  unfold stands at h
  split at h
  · rename_i r row hf hc
    have hr : reqOf s = r := by simp [reqOf, hf]
    have hd : ∀ k t, fetchKeys row r s = .inl (k, t) → fetched c s = (k, t) := by
      intro k t hk; simp [fetched, hc, hr, hk]
    simp only [Bool.and_eq_true, beq_iff_eq] at h
    obtain ⟨⟨⟨h1, h2⟩, h3⟩, h4⟩ := h
    split at h4
    · exact absurd h4 (by simp)
    · rename_i k t hk
      simp only [Bool.and_eq_true, Option.isNone_iff_eq_none] at h4
      obtain ⟨⟨⟨h5, h6⟩, h7⟩, h8⟩ := h4
      split at h8
      · rename_i u hu
        refine ⟨by rw [hr]; exact hf, by rw [hr]; exact h1, by rw [hr]; exact h2, by rw [hr]; exact h3, row, t, hc, ?_⟩
        rw [hd k t hk, hr]
        refine ⟨hk, h5, h6, h7, ?_⟩
        simp [drawn, hd k t hk, hr, hu]
      · exact absurd h8 (by simp)
  · exact absurd h (by simp)

/-- A command of the catalogue stands at a sequencer with nothing in its way, its keys confirmed where asked, and the answer
that the statement names fits the output capacity. -/
def Met (c : Nat) (pre : Pre) (conf : Bool) (s : State) (f : State → Req → Keys → Answer) : Prop :=
  ∃ u r k, AtCommand c pre s 7 r k u ∧ (conf = true → Confirmed k) ∧ (f u r k).output.length ≤ r.desc.outCap.toNat

theorem met {c : Nat} {pre : Pre} {conf : Bool} {s : State} {f : State → Req → Keys → Answer} (h : stands c pre s = true)
    (k : conf = true → Confirmed (fetched c s).1)
    (l : (f (drawn c s) (reqOf s) (fetched c s).1).output.length ≤ (reqOf s).desc.outCap.toNat) : Met c pre conf s f :=
  ⟨_, _, _, at_command h, k, l⟩

/-- The same where the answer fits whatever the request. -/
theorem met_all {c : Nat} {pre : Pre} {conf : Bool} {s : State} {f : State → Req → Keys → Answer} (n : Nat)
    (l : ∀ u r k, (f u r k).output.length ≤ n) (h : stands c pre s = true) (k : conf = true → Confirmed (fetched c s).1)
    (m : n ≤ (reqOf s).desc.outCap.toNat) : Met c pre conf s f :=
  met h k (Nat.le_trans (l _ _ _) m)

theorem met_if {c : Nat} {pre : Pre} {conf : Bool} {s : State} {f : State → Req → Keys → Answer} (n : Nat) (p : Req → Prop)
    (l : ∀ u r k, p r → (f u r k).output.length ≤ n) (q : p (reqOf s)) (h : stands c pre s = true)
    (k : conf = true → Confirmed (fetched c s).1) (m : n ≤ (reqOf s).desc.outCap.toNat) : Met c pre conf s f :=
  met h k (Nat.le_trans (l _ _ _ q) m)

theorem no_keys : Confirmed {} := by simp [Confirmed]

theorem two_keys {h i b d t v f w g y : Nat} {u p e x : String} {m n : Bytes} :
    Confirmed { a := some (key h u b e g m t f), b := some (key i p d x y n v w) } := by
  refine ⟨?_, ?_⟩ <;> rintro _ ⟨⟩ <;> exact key_confirmed ..

theorem one_key {h b t f g : Nat} {u e : String} {m : Bytes} : Confirmed { a := some (key h u b e g m t f) } := by
  refine ⟨?_, ?_⟩
  · rintro _ ⟨⟩; exact key_confirmed ..
  · intro x h; cases h

-- Lengths of answers -------------------------------------------------------------------------------------------------------------------

theorem fits_verdict (b : Bool) (n : Nat) : (verdict b).output.length ≤ n := by cases b <;> exact Nat.zero_le n

@[simp] theorem leBytes_length (k n : Nat) : (leBytes k n).length = k := by
  induction k generalizing n with
  | zero => rfl
  | succ k h => simp [leBytes, h]

@[simp] theorem beBytes_length (k n : Nat) : (beBytes k n).length = k := by simp [beBytes]

@[simp] theorem fit_length (n : Nat) (l : Bytes) : (fit n l).length = n := by simp [fit]

theorem packNibbles_length : ∀ l : List Nat, 2 * (packNibbles l).length ≤ l.length + 1
  | [] => by simp [packNibbles]
  | [_] => by simp [packNibbles]
  | _ :: _ :: r => by have h := packNibbles_length r; simp only [packNibbles, List.length_cons]; omega

@[simp] theorem nibbles_length (l : Bytes) : (nibbles l).length = 2 * l.length := by
  induction l with
  | nil => rfl
  | cons b r h => simp only [nibbles, List.flatMap_cons, List.length_append, List.length_cons, List.length_nil] at h ⊢; omega

theorem pick_length (t : List Nat) (b : List Bool) : (pick t b).length = t.length := by simp [pick]

@[simp] theorem desRun_length (k : List (List Bool)) (b : Bytes) : (desRun k b).length = 8 := by
  simp only [desRun, bytesOfBits, beBytes_length, pick_length]; rfl

@[simp] theorem tdeaEnc_length (k b : Bytes) : (tdeaEnc k b).length = 8 := desRun_length ..

theorem pin_block_fits {f n : Nat} {k r : Bytes} {a p : List Nat} (h : f ≠ 4) (m : 8 ≤ n) : (pinEncode f k a p r).length ≤ n := by
  simp [pinEncode, h, m]

theorem digits_fit {b : Bytes} {k n : Nat} (m : k ≤ 2 * n) : (packNibbles (decimalise b k)).length ≤ n := by
  have h := packNibbles_length (decimalise b k)
  have : (decimalise b k).length ≤ k := by simp only [decimalise, List.length_take]; omega
  omega

theorem padded_fits {l : List Nat} {n : Nat} (h : l.length ≤ 16) (m : 8 ≤ n) :
    (packNibbles (l ++ List.replicate (12 - l.length) 15)).length ≤ n := by
  have k := packNibbles_length (l ++ List.replicate (12 - l.length) 15)
  simp only [List.length_append, List.length_replicate] at k
  omega

theorem offset_fits {k t v : Bytes} {p : List Nat} {g : Nat → Nat → Nat} {l n : Nat} (m : 8 ≤ n) :
    (packNibbles (List.zipWith g p (naturalPin k t v l) ++
      List.replicate (12 - (List.zipWith g p (naturalPin k t v l)).length) 15)).length ≤ n := by
  refine padded_fits ?_ m
  simp only [List.length_zipWith, naturalPin, List.length_take, List.length_map, nibbles_length, tdeaEnc_length]
  omega

theorem cvv_fits {k : Bytes} {a e c : List Nat} {d n : Nat} (h : d ≤ 6) (m : 3 ≤ n) :
    (packNibbles (cvv k a e c d ++ List.replicate (6 - (cvv k a e c d).length) 15)).length ≤ n := by
  have h1 := packNibbles_length (cvv k a e c d ++ List.replicate (6 - (cvv k a e c d).length) 15)
  have : (cvv k a e c d).length ≤ d := by simp only [cvv, decimalise, List.length_take]; omega
  simp only [List.length_append, List.length_replicate] at h1
  omega

theorem arpc_fits {b : Bool} {m n : Nat} {k a e : Bytes} (h : 8 ≤ n) : (emvArpc b m k a e).length ≤ n := by
  refine Nat.le_trans ?_ h
  simp only [emvArpc]
  split
  · simp only [List.length_take]; omega
  · split
    · simp only [List.length_take]; omega
    · simp

@[simp] theorem pqPair_length (f : String) (p n : Nat) : (pqPair f p n).1.length = pqPubLen f p := by simp [pqPair]

@[simp] theorem pqEncaps_length (f : String) (p n : Nat) (b : Bytes) : (pqEncapsOf f p b n).1.length = pqCtLen f p := by simp [pqEncapsOf]

@[simp] theorem pqSign_length (f : String) (p n : Nat) (k c m : Bytes) (e : Bool) : (pqSignOf f p k c m e n).length = pqSigLen f p := by
  simp [pqSignOf]

@[simp] theorem layerSign_length (s : State) (c : String) (b : Bytes) (n : Nat) : (layerSign s c b n).length = 3373 := by simp [layerSign, seedSign]

theorem secret_kept {r : Req} {o z : Bytes} {n : Nat} (h : nbit r.desc.p 8 = false) : (secretAnswer r o z n).output = o := by
  simp [secretAnswer, h]

theorem ecEncode_length (c : Curve) (p : Point) : (ecEncode c p).length ≤ 1 + 2 * c.len := by
  cases p <;> simp only [ecEncode, List.length_append, List.length_cons, List.length_nil, beBytes_length] <;> omega

theorem sha256_fold (l : List Bytes) (h : List (BitVec 32)) : (l.foldl sha256Compress h).length ≤ h.length := by
  induction l generalizing h with
  | nil => exact Nat.le_refl _
  | cons b r k => exact Nat.le_trans (k _) (by simp only [sha256Compress, List.length_zipWith]; omega)

theorem flat_words (l : List (BitVec 32)) : (l.flatMap fun x => beBytes 4 x.toNat).length = 4 * l.length := by
  induction l with
  | nil => rfl
  | cons a r h => simp only [List.flatMap_cons, List.length_append, h, beBytes_length, List.length_cons]; omega

theorem sha256_length (m : Bytes) : (sha256 m).length ≤ 32 := by
  simp only [sha256, sha256Blocks, flat_words]
  refine (Nat.mul_le_mul_left 4 (Nat.le_trans (sha256_fold _ _) ?_) : _ ≤ 4 * 8)
  decide +kernel

theorem statement_length (s : State) (r : Req) (k : KeyRec) : (keyStatement s r k).length ≤ 136 := by
  have a := sha256_length (layerPubOf s)
  have b := sha256_length k.pub
  simp only [keyStatement, List.length_append, leBytes_length, fit_length, List.length_cons, List.length_nil]
  have c : (ascii "KYST").length = 4 := rfl
  split <;> (try simp only [fit_length]) <;> omega

/-- Every clause of PinAndCardCommandsAnswer: a request whose command stands at its sequencer, and the length of its answer. -/
theorem witness_PinAndCardCommandsAnswer :
    Met 0x0101 (prePin "P0" "EB" true) true (atSeq 0x0101 1 0x30 (some (key 1 "P0TB" 128 "E" 0 (List.replicate 16 7) 1 0)) (some (key 2 "P0TE" 128 "E" 0 (List.replicate 16 7) 1 0)) 2 8 (List.replicate 8 0)) (fun u r k =>
      ((match inputPin r k with
      | none => { status := stVerify }
      | some pin => { output := pinEncode (foutOf r) (matOf k.b) r.desc.panList pin (freeBytes u.freeCtr 16) }) : Answer)) ∧
    Met 0x0102 (prePin "V2" "VC" false) true (atSeq 0x0102 1 0x0 (some (key 1 "P0TD" 128 "E" 0 (List.replicate 16 7) 1 0)) (some (key 2 "V2TV" 128 "E" 0 (List.replicate 16 7) 1 0)) 2 0 (List.replicate 11 0)) (fun _ r k =>
      ((match inputPin r k with
      | none => { status := stVerify }
      | some pin => verdict (pvv (matOf k.b) r.desc.panList pin ((bytesAt r.input (pinLen (finOf r)) 1).headD 0).toNat ==
            nibbles (bytesAt r.input (pinLen (finOf r) + 1) 2))) : Answer)) ∧
    Met 0x0103 (prePin "V1" "VC" false) true (atSeq 0x0103 1 0x0 (some (key 1 "P0TD" 128 "E" 0 (List.replicate 16 7) 1 0)) (some (key 2 "V1TC" 128 "E" 0 (List.replicate 16 7) 1 0)) 2 0 (List.replicate 38 0)) (fun _ r k =>
      ((match inputPin r k with
      | none => { status := stVerify }
      | some pin =>
          let o := pinLen (finOf r)
          let off := (nibbles (bytesAt r.input o 6)).takeWhile (· ≤ 9)
          let nat := naturalPin (matOf k.b) (bytesAt r.input (o + 6) 16) (bytesAt r.input (o + 22) 8) pin.length
          verdict (off.length == pin.length && List.zipWith (fun a b => (a + b) % 10) nat off == pin)) : Answer)) ∧
    Met 0x0104 (prePin "P0" "DB" true) true (atSeq 0x0104 1 0x44 (some (key 1 "P0AD" 128 "E" 0 (List.replicate 16 7) 1 0)) (some (key 2 "P0AB" 128 "E" 0 (List.replicate 16 7) 1 0)) 2 0 (List.replicate 32 0)) (fun _ r k =>
      (verdict (match inputPin r k,
            pinDecode (foutOf r) (matOf k.b) r.desc.panList (bytesAt r.input (pinLen (finOf r)) (pinLen (foutOf r))) with
      | some a, some b => a == b
      | _, _ => false))) ∧
    Met 0x0105 (prePin "V2" "GC" false) true (atSeq 0x0105 2 0x0 (some (key 1 "P0TD" 128 "E" 0 (List.replicate 16 7) 1 0)) (some (key 2 "V2TG" 128 "E" 0 (List.replicate 16 7) 1 0)) 2 2 (List.replicate 9 0)) (fun _ r k =>
      ((match inputPin r k with
      | none => { status := stVerify }
      | some pin =>
          { output := packNibbles
              (pvv (matOf k.b) r.desc.panList pin ((bytesAt r.input (pinLen (finOf r)) 1).headD 0).toNat) }) : Answer)) ∧
    Met 0x0106 (prePin "V1" "GC" false) true (atSeq 0x0106 2 0x0 (some (key 1 "P0TD" 128 "E" 0 (List.replicate 16 7) 1 0)) (some (key 2 "V1TG" 128 "E" 0 (List.replicate 16 7) 1 0)) 2 8 (List.replicate 32 0)) (fun _ r k =>
      ((match inputPin r k with
      | none => { status := stVerify }
      | some pin =>
          let o := pinLen (finOf r)
          let off := List.zipWith (fun p q => (p + 10 - q) % 10) pin
            (naturalPin (matOf k.b) (bytesAt r.input o 16) (bytesAt r.input (o + 16) 8) pin.length)
          { output := packNibbles (off ++ List.replicate (12 - off.length) 15) }) : Answer)) ∧
    Met 0x0201 (preCvv "VC") true (atSeq 0x0201 1 0x0 (some (key 1 "C0TV" 128 "E" 0 (List.replicate 16 7) 1 0)) none 0 0 (List.replicate 7 0)) (fun _ r k =>
      ((let v := (nibbles (bytesAt r.input 4 3)).takeWhile (· ≤ 9)
       verdict (cvv (matOf k.a) r.desc.panList (nibbles (bytesAt r.input 0 2)) ((nibbles (bytesAt r.input 2 2)).take 3)
         v.length == v)) : Answer)) ∧
    Met 0x0202 (preCvv "GC") true (atSeq 0x0202 2 0x3 (some (key 1 "C0TG" 128 "E" 0 (List.replicate 16 7) 1 0)) none 0 3 (List.replicate 4 0)) (fun _ r k =>
      ((let v := cvv (matOf k.a) r.desc.panList (nibbles (bytesAt r.input 0 2)) ((nibbles (bytesAt r.input 2 2)).take 3)
         (r.desc.p % 16)
       { output := packNibbles (v ++ List.replicate (6 - v.length) 15) }) : Answer)) :=
  ⟨met_if 8 (fun r => foutOf r ≠ 4) (by intro u r k h; split; exact Nat.zero_le _; exact pin_block_fits h (by decide)) (by decide +kernel) (by decide +kernel) (fun _ => two_keys) (by decide +kernel),
   met_all 0 (by intro u r k; split; exact Nat.zero_le _; exact fits_verdict _ _) (by decide +kernel) (fun _ => two_keys) (by decide +kernel),
   met_all 0 (by intro u r k; dsimp only; split; exact Nat.zero_le _; exact fits_verdict _ _) (by decide +kernel) (fun _ => two_keys) (by decide +kernel),
   met_all 0 (fun _ _ _ => fits_verdict _ _) (by decide +kernel) (fun _ => two_keys) (by decide +kernel),
   met_all 2 (by intro u r k; split; exact Nat.zero_le _; exact digits_fit (by decide)) (by decide +kernel) (fun _ => two_keys) (by decide +kernel),
   met_all 8 (by intro u r k; dsimp only; split; exact Nat.zero_le _; exact offset_fits (by decide)) (by decide +kernel) (fun _ => two_keys) (by decide +kernel),
   met_all 0 (fun _ _ _ => fits_verdict _ _) (by decide +kernel) (fun _ => one_key) (by decide +kernel),
   met_if 3 (fun r => r.desc.p % 16 ≤ 6) (fun _ _ _ h => cvv_fits h (by decide)) (by decide +kernel) (by decide +kernel) (fun _ => one_key) (by decide +kernel)⟩

/-- Every clause of EmvMacAndDukptCommandsAnswer: a request whose command stands at its sequencer, and the length of its answer. -/
theorem witness_EmvMacAndDukptCommandsAnswer :
    Met 0x0301 (preEmv "E0") true (atSeq 0x0301 1 0x1 (some (key 1 "E0TX" 128 "E" 0 (List.replicate 16 7) 1 0)) none 0 0 (List.replicate 12 0)) (fun _ r k =>
      (verdict (emvMac (aesOf k.a) (emvKey r k) (r.input.drop 11) == bytesAt r.input 3 8))) ∧
    Met 0x0302 (preEmv "E0") true (atSeq 0x0302 1 0x12 (some (key 1 "E0AX" 128 "E" 0 (List.replicate 16 7) 1 0)) none 0 8 (List.replicate 14 0)) (fun _ r k =>
      ((if emvMac (aesOf k.a) (emvKey r k) (r.input.drop (11 + arpcExtra r)) == bytesAt r.input 3 8 then
          { output := emvArpc (aesOf k.a) (r.desc.p / 16 % 16) (emvKey r k) (bytesAt r.input 3 8)
              (bytesAt r.input 11 (arpcExtra r)) }
        else { status := stVerify }) : Answer)) ∧
    Met 0x0303 (preEmv "E0") true (atSeq 0x0303 1 0x22 (some (key 1 "E0AX" 128 "E" 0 (List.replicate 16 7) 1 0)) none 0 4 (List.replicate 15 0)) (fun _ r k =>
      ({ output := emvArpc (aesOf k.a) (r.desc.p / 16 % 16) (emvKey r k) (bytesAt r.input 3 8)
          (bytesAt r.input 11 (arpcExtra r)) } : Answer)) ∧
    Met 0x0304 (preEmv "E2") true (atSeq 0x0304 2 0x41 (some (key 1 "E2TX" 128 "E" 0 (List.replicate 16 7) 1 0)) none 0 4 (List.replicate 3 0)) (fun _ r k =>
      ({ output := (emvMac (aesOf k.a) (emvKey r k) (r.input.drop 3)).take (r.desc.p / 16 % 16) } : Answer)) ∧
    Met 0x0305 (preEmv "E1") true (atSeq 0x0305 2 0x2 (some (key 1 "E1AX" 128 "E" 0 (List.replicate 16 7) 1 0)) none 0 16 (List.replicate 3 0)) (fun _ r k =>
      ((let c : Cipher := { aes := aesOf k.a, key := emvKey r k }
       { output := cbcEnc c (List.replicate c.block 0) (macPad 2 c.block (r.input.drop 3)) }) : Answer)) ∧
    Met 0x0401 (preMac "GC") true (atSeq 0x0401 1 0x43 (some (key 1 "M3TG" 128 "E" 0 (List.replicate 16 7) 1 0)) none 0 4 (List.replicate 8 0)) (fun _ r k =>
      ({ output := (macOf (r.desc.p % 16) (r.desc.p / 256 % 4) k.a r.input).1.take (macLenOf r) } : Answer)) ∧
    Met 0x0402 (preMac "VC") true (atSeq 0x0402 1 0x5 (some (key 1 "M6AV" 128 "E" 0 (List.replicate 16 7) 1 0)) none 0 0 (List.replicate 16 0)) (fun _ r k =>
      (verdict ((macOf (r.desc.p % 16) (r.desc.p / 256 % 4) k.a (r.input.drop (macLenOf r))).1.take (macLenOf r) ==
        r.input.take (macLenOf r)))) ∧
    Met 0x0501 (fun t r k => firstFail [preDukpt t r k, needKey 2 k.b "P0" "EB" (pinAlg (foutOf r)) []]) true (atSeq 0x0501 1 0x104 (some (key 1 "B0TX" 128 "E" 0 (List.replicate 16 7) 1 0)) (some (key 2 "P0TE" 128 "E" 0 (List.replicate 16 7) 1 0)) 2 8 (List.replicate 18 0)) (fun u r k =>
      ((match pinDecode (finOf r) (workingKey (dukTdeaReq r) (matOf k.a) (ksnOf r) 0) (dukPan r).1
            (bytesAt r.input (dukPan r).2 (pinLen (finOf r))) with
      | none => { status := stVerify }
      | some pin => { output := pinEncode (foutOf r) (matOf k.b) (dukPan r).1 pin (freeBytes u.freeCtr 16) }) : Answer)) ∧
    Met 0x0502 preDukpt true (atSeq 0x0502 1 0x0 (some (key 1 "B0AX" 128 "E" 0 (List.replicate 16 7) 1 0)) none 0 0 (List.replicate 28 0)) (fun _ r k =>
      ((let wk := workingKey (dukTdeaReq r) (matOf k.a) (ksnOf r) 1
       let rest := r.input.drop (ksnLen r.desc.p)
       let m := rest.drop (macLenOf r)
       verdict ((if dukTdeaReq r then macAlg3 wk (macPad 1 8 m) else cmac { aes := true, key := wk } m).take (macLenOf r) ==
         rest.take (macLenOf r))) : Answer)) ∧
    Met 0x0503 preDukpt true (atSeq 0x0503 2 0x0 (some (key 1 "B0AX" 128 "E" 0 (List.replicate 16 7) 1 0)) none 0 16 (List.replicate 28 0)) (fun _ r k =>
      ((let c : Cipher := { aes := !dukTdeaReq r, key := workingKey (dukTdeaReq r) (matOf k.a) (ksnOf r) 2 }
       { output := cbcDec c (List.replicate c.block 0) (r.input.drop (ksnLen r.desc.p)) }) : Answer)) ∧
    Met 0x0504 preIkExport true (atSeq 0x0504 2 0x0 (some (key 1 "B0AX" 128 "E" 0 (List.replicate 16 7) 1 0)) (some (key 2 "K1AE" 128 "E" 0 (List.replicate 16 7) 1 0)) 2 200 (List.replicate 12 0 ++ ascii "D0E0" ++ [0, 0, 0, 0])) (fun u r k =>
      ((match k.a, k.b with
      | some a, some b => ikAnswer r a b u.freeCtr
      | _, _ => {}) : Answer)) :=
  ⟨met_all 0 (fun _ _ _ => fits_verdict _ _) (by decide +kernel) (fun _ => one_key) (by decide +kernel),
   met_all 8 (by intro u r k; split; exact arpc_fits (by decide); exact Nat.zero_le _) (by decide +kernel) (fun _ => one_key) (by decide +kernel),
   met (by decide +kernel) (fun _ => one_key) (by decide +kernel),
   met (by decide +kernel) (fun _ => one_key) (by decide +kernel),
   met (by decide +kernel) (fun _ => one_key) (by decide +kernel),
   met (by decide +kernel) (fun _ => one_key) (by decide +kernel),
   met_all 0 (fun _ _ _ => fits_verdict _ _) (by decide +kernel) (fun _ => one_key) (by decide +kernel),
   met_if 8 (fun r => foutOf r ≠ 4) (by intro u r k h; split; exact Nat.zero_le _; exact pin_block_fits h (by decide)) (by decide +kernel) (by decide +kernel) (fun _ => two_keys) (by decide +kernel),
   met_all 0 (fun _ _ _ => fits_verdict _ _) (by decide +kernel) (fun _ => one_key) (by decide +kernel),
   met (by decide +kernel) (fun _ => one_key) (by decide +kernel),
   met (by decide +kernel) (fun _ => two_keys) (by decide +kernel)⟩

/-- Every clause of CipherAndDigestCommandsAnswer: a request whose command stands at its sequencer, and the length of its answer. -/
theorem witness_CipherAndDigestCommandsAnswer :
    Met 0x0601 (preCipher "EB") false (atSeq 0x0601 1 0x101 (some (key 1 "D0AE" 128 "E" 0 (List.replicate 16 7) 1 0)) none 0 32 (List.replicate 16 0)) (fun u r k =>
      ((let c : Cipher := { aes := aesOf k.a, key := matOf k.a }
       let gen := nbit r.desc.p 8
       let iv := if gen then freeBytes u.freeCtr c.block else (splitIv r c.block).2
       let d := (splitIv r c.block).1
       { output := (match r.desc.p % 16 with | 1 => ecbEnc c d | 2 => cbcEnc c iv d | _ => ctrRun c iv d) ++
           (if gen then iv else []) }) : Answer)) ∧
    Met 0x0602 (preCipher "DB") false (atSeq 0x0602 1 0x1 (some (key 1 "D0TD" 128 "E" 0 (List.replicate 16 7) 1 0)) none 0 8 (List.replicate 8 0)) (fun _ r k =>
      ((let c : Cipher := { aes := aesOf k.a, key := matOf k.a }
       let d := (splitIv r c.block).1
       let iv := (splitIv r c.block).2
       { output := match r.desc.p % 16 with | 1 => ecbDec c d | 2 => cbcDec c iv d | _ => ctrRun c iv d }) : Answer)) ∧
    Met 0x0603 (fun _ _ k => needKey 1 k.a "D0" "EB" "A" []) false (atSeq 0x0603 2 0x100 (some (key 1 "D0AB" 128 "E" 0 (List.replicate 16 7) 1 0)) none 0 64 (List.replicate 4 0)) (fun u r k =>
      ((let c : Cipher := { aes := true, key := matOf k.a }
       let gen := nbit r.desc.p 8
       let al := leNat (r.input.take 4)
       let len := r.input.length - 4 - al - (if gen then 0 else 12)
       let iv := if gen then freeBytes u.freeCtr 12 else r.input.drop (r.input.length - 12)
       let ct := gcmText c iv (bytesAt r.input 4 len)
       { output := ct ++ gcmTag c iv (bytesAt r.input (4 + len) al) ct ++ (if gen then iv else []) }) : Answer)) ∧
    Met 0x0604 (fun _ _ k => needKey 1 k.a "D0" "DB" "A" []) false (atSeq 0x0604 2 0x0 (some (key 1 "D0AB" 128 "E" 0 (List.replicate 16 7) 1 0)) none 0 0 (List.replicate 32 0)) (fun _ r k =>
      ((let c : Cipher := { aes := true, key := matOf k.a }
       let al := leNat (r.input.take 4)
       let len := r.input.length - 32 - al
       let ct := bytesAt r.input 4 len
       let iv := bytesAt r.input (4 + len + al) 12
       if gcmTag c iv (bytesAt r.input (4 + len) al) ct == r.input.drop (r.input.length - 16) then
         { output := gcmText c iv ct } else { status := stVerify }) : Answer)) ∧
    Met 0x1001 noPre false (atSeq 0x1001 1 0x0 none none 0 32 (List.replicate 96 0)) (fun _ r _ =>
      ({ output := Machine.sha256Blocks (r.input.take 32) (r.input.drop 32) } : Answer)) ∧
    Met 0x1002 noPre false (atSeq 0x1002 1 0x0 none none 0 64 (List.replicate 192 0)) (fun _ r _ =>
      ({ output := Machine.sha512Blocks (r.input.take 64) (r.input.drop 64) } : Answer)) ∧
    Met 0x1003 noPre false (atSeq 0x1003 1 0xC8 none none 0 200 (List.replicate 400 0)) (fun _ r _ =>
      ({ output := Machine.keccakAbsorb r.desc.p (r.input.take 200) (r.input.drop 200) } : Answer)) ∧
    Met 0x1004 noPre false (atSeq 0x1004 1 0x8 none none 0 208 (List.replicate 200 0)) (fun _ r _ =>
      ((let x := Machine.keccakSqueeze r.desc.p ((r.desc.outCap.toNat - 200) / r.desc.p) r.input
       { output := x.2 ++ x.1 }) : Answer)) ∧
    Met 0x1101 (preHmac "GC") false (atSeq 0x1101 1 0x1 (some (key 1 "M7HG" 128 "E" 1 (List.replicate 16 7) 1 0)) none 0 32 (List.replicate 1 0)) (fun _ r k =>
      ({ output := (hmac (r.desc.p % 16) (matOf k.a) r.input).take (hmacLen r) } : Answer)) ∧
    Met 0x1102 (preHmac "VC") false (atSeq 0x1102 1 0x1 (some (key 1 "M7HC" 128 "E" 1 (List.replicate 16 7) 1 0)) none 0 0 (List.replicate 33 0)) (fun _ r k =>
      (verdict ((hmac (r.desc.p % 16) (matOf k.a) (r.input.drop (hmacLen r))).take (hmacLen r) == r.input.take (hmacLen r)))) ∧
    Met 0x4001 noPre false (atSeq 0x4001 1 0x0 none none 0 1 (List.replicate 0 0)) (fun u r _ =>
      ({ output := freeBytes u.freeCtr r.desc.outCap.toNat } : Answer)) ∧
    Met 0x5001 noPre false (atSeq 0x5001 1 0x0 none none 0 64 (List.replicate 64 0)) (fun _ r _ =>
      ({ output := r.input } : Answer)) ∧
    Met 0x5003 noPre false (atSeq 0x5003 2 0x40 none none 0 20480 (List.replicate 0 0)) (fun u r _ =>
      ({ output := ((slice u r.slice).ring.take r.desc.p).reverse.flatMap RingEntry.bytes } : Answer)) ∧
    Met 0x5004 noPre false (atSeq 0x5004 2 0x0 none none 0 48 (List.replicate 0 0)) (fun u r _ =>
      ({ output := Machine.sliceInfo u r.slice } : Answer)) :=
  ⟨met (by decide +kernel) (nofun) (by decide +kernel),
   met (by decide +kernel) (nofun) (by decide +kernel),
   met (by decide +kernel) (nofun) (by decide +kernel),
   met_if 0 (fun r => r.input.length - 32 - leNat (r.input.take 4) = 0) (by intro u r k h; dsimp only; split; rw [h]; exact Nat.le_refl 0; exact Nat.zero_le _) (by decide +kernel) (by decide +kernel) (nofun) (by decide +kernel),
   met (by decide +kernel) (nofun) (by decide +kernel),
   met (by decide +kernel) (nofun) (by decide +kernel),
   met (by decide +kernel) (nofun) (by decide +kernel),
   met (by decide +kernel) (nofun) (by decide +kernel),
   met (by decide +kernel) (nofun) (by decide +kernel),
   met (by decide +kernel) (nofun) (by decide +kernel),
   met (by decide +kernel) (nofun) (by decide +kernel),
   met (by decide +kernel) (nofun) (by decide +kernel),
   met (by decide +kernel) (nofun) (by decide +kernel),
   met (by decide +kernel) (nofun) (by decide +kernel)⟩

/-- Every clause of OryxCommandsAnswer: a request whose command stands at its sequencer, and the length of its answer. -/
theorem witness_OryxCommandsAnswer :
    Met 0x2001 preRsaSign false (atSeq 0x2001 2 0x1 (some (key 1 "S0RS" 2048 "N" 0 [] 2 0)) none 0 256 (1 :: List.replicate 32 0)) (fun u r k =>
      ((let w := (rsaOf r k).1.w
       let h := leNat (r.input.take 1)
       let m := beNat (if r.desc.p % 16 = 1 then emsaPkcs1 (8 * w) h (r.input.drop 1)
         else emsaPss (8 * w) h (r.input.drop 1) (freeBytes u.freeCtr (hashLen h)))
       if m = 0 ∨ (rsaOf r k).1.n ≤ m then { status := stRejected }
       else { output := beBytes (8 * w) (powMod (rsaOf r k).1.n m (beNat (matOf k.a))) }) : Answer)) ∧
    Met 0x2002 preRsaVerify false (atSeq 0x2002 2 0x1 none none 0 0 ([32, 0, 0, 0, 0, 0, 0, 3] ++ List.replicate 512 0 ++ [1] ++ List.replicate 32 0)) (fun _ r k =>
      ((let key := (rsaOf r k).1
       let rest := (rsaOf r k).2
       let sig := beNat (rest.take (8 * key.w))
       let h := leNat (bytesAt rest (8 * key.w) 1)
       let dg := rest.drop (8 * key.w + 1)
       let em := beBytes (8 * key.w) (powMod key.n sig key.e)
       if !rsaKeyOk 16 key || sig == 0 || key.n ≤ sig then { status := stRejected }
       else verdict (if r.desc.p % 16 = 1 then em == emsaPkcs1 (8 * key.w) h dg else emsaPssVerify (8 * key.w) h dg em)) : Answer)) ∧
    Met 0x2003 preRsaDecrypt false (atSeq 0x2003 2 0x1 (some (key 1 "D1RD" 2048 "N" 0 [] 2 0)) none 0 256 []) (fun _ r k =>
      ((let key := (rsaOf r k).1
       let em := beBytes (8 * key.w) (powMod key.n (beNat r.input) (beNat (matOf k.a)))
       if beNat r.input = 0 ∨ key.n ≤ beNat r.input then { status := stRejected }
       else if r.desc.q % 16 = 1 then { output := pkcs1Decode (8 * key.w) (beNat (matOf k.a)) r.input em }
       else match oaepDecode (8 * key.w) (r.desc.q / 16 % 16) em with
      | some m => { output := m }
      | none => { status := stRejected }) : Answer)) ∧
    Met 0x2004 preRsaEncrypt false (atSeq 0x2004 2 0x1 none none 0 256 ([32, 0, 0, 0, 0, 0, 0, 3] ++ List.replicate 256 0)) (fun u r k =>
      ((let key := (rsaOf r k).1
       let m := (rsaOf r k).2
       let len := 8 * key.w
       let pad := (freeBytes u.freeCtr (len - 3 - m.length)).map fun b => BitVec.ofNat 8 (1 + b.toNat % 255)
       let em := if r.desc.q % 16 = 1 then [0x00, 0x02] ++ pad ++ [0x00] ++ m
         else oaepEncode len (r.desc.q / 16 % 16) m (freeBytes u.freeCtr (hashLen (r.desc.q / 16 % 16)))
       if !rsaKeyOk 16 key then { status := stRejected } else { output := beBytes len (powMod key.n (beNat em) key.e) }) : Answer)) ∧
    Met 0x2005 noPre false (atSeq 0x2005 2 0x120 none none 9 264 [0, 0, 0, 3]) (fun u r _ =>
      ((let w := r.desc.q % 256
       let e := beNat (r.input.take 4)
       let low := 2 ^ (64 * w - 1)
       let pub := rsaBytes { w := w, e := e, n := low + (beNat (freeBytes u.freeCtr (8 * w)) % low) / 2 * 2 + 1 }
       let attrs := if r.desc.q / 256 = 1 then madeAttrs "S0" "R" "S" (64 * w) "N" (u.freeCtr + 2)
         else madeAttrs "D1" "R" "D" (64 * w) "N" (u.freeCtr + 2)
       if e % 2 = 0 ∨ e < 3 then { status := stRejected }
       else { output := pub, store := some (pairRecord attrs r.domain (freeBytes (u.freeCtr + 1) (8 * w)) pub) }) : Answer)) ∧
    Met 0x2006 (fun _ r k => firstFail [needPair k.a "S0" "S" "E" [1, 2, 3], curveRow r (curveCode r k)]) false (atSeq 0x2006 1 0x1000 (some (key 1 "S0ES" 1 "N" 0 [] 2 0)) none 0 64 (List.replicate 32 0)) (fun u r k =>
      ((let c := curveOf (curveCode r k)
       let sig := Machine.ecdsaSign c (beNat (matOf k.a)) (beNat (freeBytes u.freeCtr (2 * c.len)) % c.n) r.input
       { output := beBytes c.len sig.1 ++ beBytes c.len sig.2 }) : Answer)) ∧
    Met 0x2007 preEcdsaVerify false (atSeq 0x2007 1 0x3003 none none 0 0 (List.replicate 200 0)) (fun _ r k =>
      ((let c := curveOf (curveCode r k)
       let pub := (pubOf r k (inlineCurve r)).1
       let rest := (pubOf r k (inlineCurve r)).2
       let dl := rest.length - 2 * c.len
       let x := beNat (bytesAt rest dl c.len)
       let y := beNat (bytesAt rest (dl + c.len) c.len)
       match ecDecode c pub with
      | none => { status := stRejected }
      | some q => if x = 0 ∨ y = 0 ∨ c.n ≤ x ∨ c.n ≤ y then { status := stRejected }
         else verdict (Machine.ecdsaVerify c (some q) (rest.take dl) x y)) : Answer)) ∧
    Met 0x2008 (fun _ r k => firstFail [needPair k.a "S0" "S" "E" [6, 7], curveRow r (curveCode r k)]) false (atSeq 0x2008 1 0x6000 (some (key 1 "S0ES" 6 "N" 0 [] 2 0)) none 0 64 (List.replicate 0 0)) (fun _ r k =>
      ({ output := edSign (edOf (curveCode r k)) (matOf k.a) r.input } : Answer)) ∧
    Met 0x2009 preEddsaVerify false (atSeq 0x2009 1 0x7007 none none 0 0 (List.replicate 171 0)) (fun _ r k =>
      ((let c := edOf (curveCode r k)
       let pub := (pubOf r k (curveLen (curveCode r k))).1
       let rest := (pubOf r k (curveLen (curveCode r k))).2
       let sig := rest.drop (rest.length - 2 * c.len)
       if !edKeyOk c pub || !edSigOk c sig then { status := stRejected }
       else verdict (edVerify c pub (rest.take (rest.length - 2 * c.len)) sig)) : Answer)) ∧
    Met 0x200A preEcdh false (atSeq 0x200A 1 0x0 (some (key 1 "K3EX" 4 "N" 0 [] 2 0)) none 9 5 (List.replicate 32 9 ++ ascii "D0AB00N0" ++ leBytes 2 256 ++ List.replicate 6 0)) (fun _ r k =>
      ((let a := bytesAt r.input (r.input.length - 16) 16
       match ecdhSecret (curveCode r k) (matOf k.a) (r.input.take (r.input.length - 16)) with
      | none => { status := stRejected }
      | some z =>
         let key := z.take (leNat (bytesAt a 8 2) / 8)
         let x := { symRecord a (leNat (bytesAt a 10 2)) r.domain key with vol := true }
         if x.alg = chr "T" ∧ tdeaRepeats key then { status := stUsage, detail := 0x203 }
         else { output := x.kcv, store := some x }) : Answer)) ∧
    Met 0x200B preEcKeygen false (atSeq 0x200B 2 0x7 none none 9 57 (ascii "S0ES00N0" ++ leBytes 2 7 ++ List.replicate 6 0)) (fun u r _ =>
      ((let priv := curvePrivate (r.desc.q % 16) u.freeCtr
       { output := curvePublic (r.desc.q % 16) priv
         store := some (pairRecord (r.input.take 16) r.domain priv (curvePublic (r.desc.q % 16) priv)) }) : Answer)) ∧
    Met 0x200C noPre false (atSeq 0x200C 2 0x0 none none 0 8 ([1, 0, 1, 0] ++ List.replicate 24 1)) (fun _ r _ =>
      ((let w := leNat (bytesAt r.input 0 2)
       let x := leNat (bytesAt r.input 2 2)
       let a := beNat (bytesAt r.input 4 (8 * w))
       let e := beNat (bytesAt r.input (4 + 8 * w) (8 * x))
       let m := beNat (bytesAt r.input (4 + 8 * w + 8 * x) (8 * w))
       if modulusOk w m && 1 ≤ x && x ≤ 128 && operandOk m a && e != 0 then { output := beBytes (8 * w) (powMod m a e) }
       else { status := stRejected }) : Answer)) ∧
    Met 0x200D noPre false (atSeq 0x200D 2 0x0 none none 0 8 ([1, 0, 0, 0] ++ List.replicate 24 1)) (fun _ r _ =>
      ((let w := leNat (bytesAt r.input 0 2)
       let a := beNat (bytesAt r.input 4 (8 * w))
       let b := beNat (bytesAt r.input (4 + 8 * w) (8 * w))
       let m := beNat (bytesAt r.input (4 + 8 * w * 2) (8 * w))
       if modulusOk w m && operandOk m a && operandOk m b then { output := beBytes (8 * w) (a * b % m) }
       else { status := stRejected }) : Answer)) :=
  ⟨met (by decide +kernel) (nofun) (by decide +kernel),
   met (by decide +kernel) (nofun) (by decide +kernel),
   met (by decide +kernel) (nofun) (by decide +kernel),
   met (by decide +kernel) (nofun) (by decide +kernel),
   met (by decide +kernel) (nofun) (by decide +kernel),
   met (by decide +kernel) (nofun) (by decide +kernel),
   met (by decide +kernel) (nofun) (by decide +kernel),
   met (by decide +kernel) (nofun) (by decide +kernel),
   met (by decide +kernel) (nofun) (by decide +kernel),
   met (by decide +kernel) (nofun) (by decide +kernel),
   met (by decide +kernel) (nofun) (by decide +kernel),
   met (by decide +kernel) (nofun) (by decide +kernel),
   met (by decide +kernel) (nofun) (by decide +kernel)⟩

/-- Every clause of LatticeAndHybridCommandsAnswer: a request whose command stands at its sequencer, and the length of its answer. -/
theorem witness_LatticeAndHybridCommandsAnswer :
    Met 0x3001 noPre false (atSeq 0x3001 2 0x3 none none 9 1568 (List.replicate 0 0)) (fun u r _ =>
      ((let kp := pqPair "K" (r.desc.q % 16) u.freeCtr
       { output := kp.1
         store := some (pairRecord (madeAttrs "D1" "K" "B" (r.desc.q % 16) (kemExp r) (u.freeCtr + 1)) r.domain kp.2 kp.1) }) : Answer)) ∧
    Met 0x3002 (fun _ r k => firstFail [needPair k.a "D1" "EB" "K" [], setRow r id (setOf r k)]) false (atSeq 0x3002 1 0x1001 none none 9 768 (List.replicate 800 0)) (fun u r k =>
      ((let c := pqEncapsOf "K" (setOf r k) (pqPub "K" r k) u.freeCtr
       if k.a.isNone && !kemModulusOk (setOf r k) (pqPub "K" r k) then { status := stRejected }
       else secretAnswer r c.1 c.2 (u.freeCtr + 1)) : Answer)) ∧
    Met 0x3003 (preDecaps "K" id) false (atSeq 0x3003 1 0x3000 (some (key 1 "D1KB" 3 "N" 0 [] 2 0)) none 9 0 (List.replicate 1568 0)) (fun u r k =>
      (secretAnswer r [] (pqDecapsOf "K" (setOf r k) (matOf k.a) r.input) u.freeCtr)) ∧
    Met 0x3004 noPre false (atSeq 0x3004 2 0x1 none none 9 1312 (List.replicate 0 0)) (fun u r _ =>
      ((let kp := pqPair "L" (r.desc.q % 16) u.freeCtr
       { output := kp.1
         store := some (pairRecord (madeAttrs "S0" "L" "S" (r.desc.q % 16) "N" (u.freeCtr + 1)) r.domain kp.2 kp.1) }) : Answer)) ∧
    Met 0x3006 preMldsaVerify false (atSeq 0x3006 1 0x1001 none none 0 0 (List.replicate 3733 0)) (fun _ r k =>
      ((let sig := sigTail "L" r k
       let cm := ctxMsg (nbit r.desc.p 9) sig.2
       verdict (Config.pqVerify (famNo "L") (setOf r k) (pqPub "L" r k) cm.1 cm.2 (nbit r.desc.p 9) sig.1)) : Answer)) ∧
    Met 0x3801 noPre false (atSeq 0x3801 2 0x0 none none 9 1216 (List.replicate 0 0)) (fun u r _ =>
      ((let kp := pqPair "K" 2 u.freeCtr
       let x := freeBytes (u.freeCtr + 3) 32
       let pub := kp.1 ++ xdh 4 x (xBase 4)
       { output := pub
         store := some (pairRecord (madeAttrs "D1" "Y" "B" 0 (kemExp r) (u.freeCtr + 1)) r.domain (kp.2 ++ x) pub) }) : Answer)) ∧
    Met 0x3802 (fun _ _ k => needPair k.a "D1" "EB" "Y" []) false (atSeq 0x3802 1 0x0 none none 9 1120 (List.replicate 1216 0)) (fun u r k =>
      ((let pub := (pubOf r k 1216).1
       let pkx := pub.drop 1184
       let c := pqEncapsOf "K" 2 (pub.take 1184) u.freeCtr
       let e := freeBytes (u.freeCtr + 1) 32
       let cx := xdh 4 e (xBase 4)
       if !xOk 4 pkx || (k.a.isNone && !kemModulusOk 2 (pub.take 1184)) then { status := stRejected }
       else secretAnswer r (c.1 ++ cx) (hybridSecret c.2 (xdh 4 e pkx) c.1 cx pkx) (u.freeCtr + 2)) : Answer)) ∧
    Met 0x3803 (fun _ r k => firstFail [needPair k.a "D1" "DB" "Y" [], exportSecret r k]) false (atSeq 0x3803 1 0x0 (some (key 1 "D1YB" 0 "N" 0 [] 2 0)) none 9 0 (List.replicate 1120 0)) (fun u r k =>
      ((let ct := r.input.take 1088
       let cx := r.input.drop 1088
       let pkx := ((k.a.getD {}).pub).drop 1184
       if !xOk 4 cx then { status := stRejected }
       else secretAnswer r [] (hybridSecret (pqDecapsOf "K" 2 ((matOf k.a).take 2400) ct) (xdh 4 ((matOf k.a).drop 2400) cx)
         ct cx pkx) u.freeCtr) : Answer)) ∧
    Met 0x3804 noPre false (atSeq 0x3804 2 0x0 none none 9 2017 (List.replicate 0 0)) (fun u r _ =>
      ((let kp := pqPair "L" 2 u.freeCtr
       let x := curvePrivate 1 (u.freeCtr + 3)
       let pub := kp.1 ++ curvePublic 1 x
       { output := pub
         store := some (pairRecord (madeAttrs "S0" "Z" "S" 0 "N" (u.freeCtr + 1)) r.domain (kp.2 ++ x) pub) }) : Answer)) ∧
    Met 0x3806 (fun _ _ k => needPair k.a "S0" "VS" "Z" []) false (atSeq 0x3806 1 0x0 none none 0 0 (List.replicate 5390 0)) (fun _ r k =>
      ((let pub := (pubOf r k 2017).1
       let rest := (pubOf r k 2017).2
       let m := rest.drop 3373
       let x := beNat (bytesAt rest 3309 32)
       let y := beNat (bytesAt rest 3341 32)
       match ecDecode p256 (pub.drop 1952) with
      | none => { status := stRejected }
      | some q => verdict
           (Config.pqVerify (famNo "L") 2 (pub.take 1952) hsigCtx m false (rest.take 3309) &&
            (x != 0 && y != 0 && x < p256.n && y < p256.n &&
              Machine.ecdsaVerify p256 (some q) (fit 64 (Config.mldsaMu 2 (pub.take 1952) hsigCtx m)) x y))) : Answer)) ∧
    Met 0x3005 (fun _ r k => firstFail [needPair k.a "S0" "S" "L" [], setRow r id (setOf r k)]) false (atSeq 0x3005 1 0x1000 (some (key 1 "S0LS" 1 "N" 0 [] 2 0)) none 0 2420 (List.replicate 1 0)) (fun u r k =>
      ((let cm := ctxMsg (nbit r.desc.p 9) r.input
       { output := pqSignOf "L" (setOf r k) (matOf k.a) cm.1 cm.2 (nbit r.desc.p 9)
           (if nbit r.desc.p 8 then u.freeCtr + 1 else 0) }) : Answer)) ∧
    Met 0x3805 (fun _ _ k => needPair k.a "S0" "S" "Z" []) false (atSeq 0x3805 1 0x0 (some (key 1 "S0ZS" 0 "N" 0 [] 2 0)) none 0 3373 (List.replicate 0 0)) (fun u r k =>
      ((let mu := fit 64 (Config.mldsaMu 2 (((k.a.getD {}).pub).take 1952) hsigCtx r.input)
       let sig := Machine.ecdsaSign p256 (beNat ((matOf k.a).drop 4032)) (beNat (freeBytes u.freeCtr 64) % p256.n) mu
       { output := pqSignOf "L" 2 ((matOf k.a).take 4032) hsigCtx r.input false (u.freeCtr + 1) ++
           beBytes 32 sig.1 ++ beBytes 32 sig.2 }) : Answer)) :=
  ⟨met (by decide +kernel) (nofun) (by simp only [pqPair_length]; decide +kernel),
   met (by decide +kernel) (nofun) (by dsimp only; split; exact Nat.zero_le _; rw [secret_kept (by decide +kernel), pqEncaps_length]; decide +kernel),
   met (by decide +kernel) (nofun) (by decide +kernel),
   met (by decide +kernel) (nofun) (by simp only [pqPair_length]; decide +kernel),
   met_all 0 (fun _ _ _ => fits_verdict _ _) (by decide +kernel) (nofun) (by decide +kernel),
   met (by decide +kernel) (nofun) (by simp only [List.length_append, pqPair_length]; decide +kernel),
   met (by decide +kernel) (nofun) (by decide +kernel),
   met (by decide +kernel) (nofun) (by decide +kernel),
   met_all 2017 (by intro u r k; have h := ecEncode_length p256 (ecMul p256 (beNat (curvePrivate 1 (u.freeCtr + 3))) (ecBase p256)); simp only [List.length_append, pqPair_length]; exact Nat.add_le_add (show pqPubLen "L" 2 ≤ 1952 by decide) h) (by decide +kernel) (nofun) (by decide +kernel),
   met (by decide +kernel) (nofun) (by decide +kernel),
   met (by decide +kernel) (nofun) (by simp only [pqSign_length]; decide +kernel),
   met (by decide +kernel) (nofun) (by simp only [List.length_append, pqSign_length, beBytes_length]; decide +kernel)⟩

/-- Every clause of HashAndCodeCommandsAnswer: a request whose command stands at its sequencer, and the length of its answer. -/
theorem witness_HashAndCodeCommandsAnswer :
    Met 0x3101 noPre false (atSeq 0x3101 2 0xC none none 9 64 (List.replicate 0 0)) (fun u r _ =>
      ((let kp := pqPair "S" (r.desc.q % 16) u.freeCtr
       { output := kp.1
         store := some (pairRecord (madeAttrs "S0" "S" "S" (r.desc.q % 16) "N" (u.freeCtr + 1)) r.domain kp.2 kp.1) }) : Answer)) ∧
    Met 0x3102 (fun _ _ k => needPair k.a "S0" "S" "S" []) false (atSeq 0x3102 2 0x100 (some (key 1 "S0SS" 1 "N" 0 [] 2 0)) none 0 7856 (List.replicate 1 0)) (fun u r k =>
      ((let cm := ctxMsg false r.input
       { output := pqSignOf "S" (setOf r k) (matOf k.a) cm.1 cm.2 false (if nbit r.desc.p 8 then u.freeCtr + 1 else 0) }) : Answer)) ∧
    Met 0x3103 preSlhVerify false (atSeq 0x3103 1 0x1001 none none 0 0 (List.replicate 7889 0)) (fun _ r k =>
      ((let sig := sigTail "S" r k
       let cm := ctxMsg false sig.2
       verdict (Config.pqVerify (famNo "S") (setOf r k) (pqPub "S" r k) cm.1 cm.2 false sig.1)) : Answer)) ∧
    Met 0x3104 noPre false (atSeq 0x3104 3 0xB none none 9 68 (List.replicate 0 0)) (fun u r _ =>
      ((let p := r.desc.q % 16
       let kp := pqPair "F" p u.freeCtr
       let pub := typeCodes p ++ kp.1.drop (typeCodes p).length
       { output := pub
         store := some { pairRecord (madeAttrs "S0" "F" "S" p "N" (u.freeCtr + 1)) r.domain kp.2 pub with
           typ := 4, nextIdx := 0, limit := min 4096 (totalIndices p), large := true } }) : Answer)) ∧
    Met 0x3106 preStatefulVerify false (atSeq 0x3106 1 0x5005 none none 0 0 (List.replicate 1828 0)) (fun _ r k =>
      ((let sig := sigTail "F" r k
       if !typeCodesOk (setOf r k) (pqPub "F" r k) then { status := stRejected }
       else verdict (Config.pqVerify (famNo "F") (setOf r k) (pqPub "F" r k) [] sig.2 false sig.1)) : Answer)) ∧
    Met 0x3107 (fun _ _ k => require ((k.a.getD {}).typ == 4) (usageFail 1 3)) false (atSeq 0x3107 2 0x0 (some (key 1 "S0FS" 1 "N" 0 [] 4 0)) none 0 8 (List.replicate 0 0)) (fun u r _ =>
      ((match liveRecord u r.slice r.desc.keyA.toNat with
      | some x => { output := leBytes 8 (totalIndices x.2.bits - x.2.nextIdx) }
      | none => { status := stNotFound, detail := 1 }) : Answer)) ∧
    Met 0x3201 noPre false (atSeq 0x3201 2 0x1 none none 9 2249 (List.replicate 0 0)) (fun u r _ =>
      ((let kp := pqPair "Q" (r.desc.q % 16) u.freeCtr
       { output := kp.1
         store := some (pairRecord (madeAttrs "D1" "Q" "B" (r.desc.q % 16) (kemExp r) (u.freeCtr + 1)) r.domain kp.2 kp.1) }) : Answer)) ∧
    Met 0x3202 (fun _ _ k => needPair k.a "D1" "EB" "Q" []) false (atSeq 0x3202 2 0x1 none none 9 4433 (List.replicate 2249 0)) (fun u r k =>
      ((let c := pqEncapsOf "Q" (setOf r k) (pqPub "Q" r k) u.freeCtr
       secretAnswer r c.1 c.2 (u.freeCtr + 1)) : Answer)) ∧
    Met 0x3203 (preDecaps "Q" id) false (atSeq 0x3203 1 0x1000 (some (key 1 "D1QB" 1 "N" 0 [] 2 0)) none 9 0 (List.replicate 4433 0)) (fun u r k =>
      (secretAnswer r [] (pqDecapsOf "Q" (setOf r k) (matOf k.a) r.input) u.freeCtr)) ∧
    Met 0x3204 noPre false (atSeq 0x3204 3 0xA none none 9 0 (List.replicate 0 0)) (fun u r _ =>
      ((let kp := pqPair "M" (r.desc.q % 16) u.freeCtr
       { output := []
         store := some (pairRecord (madeAttrs "D1" "M" "B" (r.desc.q % 16) (kemExp r) (u.freeCtr + 1)) r.domain kp.2 kp.1) }) : Answer)) ∧
    Met 0x3205 (fun _ _ k => needPair k.a "D1" "EB" "M" []) false (atSeq 0x3205 2 0x0 (some (key 1 "D1ME" 1 "N" 0 [] 2 0)) none 9 96 (List.replicate 0 0)) (fun u r k =>
      ((let c := pqEncapsOf "M" (setOf r k) (pqPub "M" r k) u.freeCtr
       secretAnswer r c.1 c.2 (u.freeCtr + 1)) : Answer)) ∧
    Met 0x3206 (preDecaps "M" mceCycles) false (atSeq 0x3206 1 0x1000 (some (key 1 "D1MD" 1 "N" 0 [] 2 0)) none 9 0 (List.replicate 96 0)) (fun u r k =>
      (secretAnswer r [] (pqDecapsOf "M" (setOf r k) (matOf k.a) r.input) u.freeCtr)) :=
  ⟨met (by decide +kernel) (nofun) (by simp only [pqPair_length]; decide +kernel),
   met (by decide +kernel) (nofun) (by simp only [pqSign_length]; decide +kernel),
   met_all 0 (fun _ _ _ => fits_verdict _ _) (by decide +kernel) (nofun) (by decide +kernel),
   met (by decide +kernel) (nofun) (by simp only [List.length_append, List.length_drop, pqPair_length]; decide +kernel),
   met (by decide +kernel) (nofun) (by decide +kernel),
   met (by decide +kernel) (nofun) (by decide +kernel),
   met (by decide +kernel) (nofun) (by simp only [pqPair_length]; decide +kernel),
   met (by decide +kernel) (nofun) (by dsimp only; rw [secret_kept (by decide +kernel), pqEncaps_length]; decide +kernel),
   met (by decide +kernel) (nofun) (by decide +kernel),
   met (by decide +kernel) (nofun) (by decide +kernel),
   met (by decide +kernel) (nofun) (by dsimp only; rw [secret_kept (by decide +kernel), pqEncaps_length]; decide +kernel),
   met (by decide +kernel) (nofun) (by decide +kernel)⟩

/-- Every clause of KeyCommandsAnswer: a request whose command stands at its sequencer, and the length of its answer. -/
theorem witness_KeyCommandsAnswer :
    Met 0x0803 (fun _ r _ => preSymmetric r.input) false (atSeq 0x0803 2 0x0 none none 9 5 (ascii "D0AB00E0" ++ leBytes 2 128 ++ List.replicate 6 0)) (fun u r _ =>
      ((let a := r.input.take 16
       let key := materialOf a (freeBytes u.freeCtr (leNat (bytesAt a 8 2) / 8))
       let x := symRecord a (entryFlags 1 a) r.domain key
       if x.alg = chr "T" ∧ tdeaRepeats key then { status := stUsage, detail := 0x203 }
       else { output := x.kcv, store := some x }) : Answer)) ∧
    Met 0x0801 preImport false (atSeq 0x0801 2 0x0 (some (key 1 "K1AD" 128 "E" 0 (List.replicate 16 7) 1 0)) none 9 5 (ascii "D0016D0AB00E0000")) (fun _ r k =>
      ((match parseBlock r.input with
      | .inr off => { status := stMalformed, detail := malDetail off 10 }
      | .inl p =>
         match openBlock r.input p (matOf k.a) with
      | none => { status := stVerify }
      | some key =>
           let hash := if bytesAt r.input 5 2 == ascii "M7" then hmHash p.opts else 0
           let x := { symRecord (blockAttrs r.input key hash) (4 + 8 * b2n (nbit r.desc.p 0)) r.domain key with
             vol := nbit r.desc.p 1 }
           let kcOk := match optOf p.opts "KC" with
      | some d => !(ascii "ATH").contains x.alg || (x.alg == chr "H" && hash == 0) || d == kcData x.alg x.kcv
      | none => true
           if !kcOk then { status := stVerify }
           else match attrKind x false with
      | some kind => { status := stUsage, detail := 0x200 + kind }
      | none =>
               if x.alg = chr "T" ∧ tdeaRepeats key then { status := stUsage, detail := 0x203 }
               else if (k.a.getD {}).strength < x.strength then { status := stUsage, detail := 0x104 }
               else match badOpt p.opts with
      | some off => { status := stMalformed, detail := malDetail off 10 }
      | none =>
                   if x.usage = ascii "M7" ∧ hash = 0 then
                     { status := stMalformed
                       detail := malDetail ((p.opts.find? fun o => o.id == ascii "HM").map (·.off) |>.getD 12) 10 }
                   else { output := x.kcv, store := some x }) : Answer)) ∧
    Met 0x0805 noPre false (atSeq 0x0805 1 0x0 (some (key 1 "D0AB" 128 "E" 0 (List.replicate 16 7) 1 0)) none 0 21 (List.replicate 0 0)) (fun _ _ k =>
      ((let x := k.a.getD {}
       { output := fit 16 x.attrs ++ (if x.symmetric then x.kcv else []) }) : Answer)) ∧
    Met 0x0807 (fun _ _ k => require (nbit (k.a.getD {}).flags 0) (usageFail 1 1)) false (atSeq 0x0807 2 0x0 (some (key 1 "D0AB" 128 "E" 0 (List.replicate 16 7) 1 1)) none 0 3509 (List.replicate 32 0)) (fun u r k =>
      ((let b := keyStatement u r (k.a.getD {})
       { output := b ++ layerSign u "MORILATIK-KYST-1" b u.freeCtr }) : Answer)) ∧
    Met 0x0808 prePubImport false (atSeq 0x0808 2 0x0 none none 9 0 (ascii "S0EV00N0" ++ leBytes 2 1 ++ List.replicate 71 0)) (fun _ r _ =>
      ((let x : KeyRec := { attrs := r.input.take 16 }
       if pubAccepted x.alg x.bits (r.input.drop 16) then { store := some (pubRecord r (r.input.take 16) (r.input.drop 16)) }
       else { status := stRejected }) : Answer)) ∧
    Met 0x0809 (fun _ _ k => require (!(k.a.getD {}).symmetric) (usageFail 1 1)) false (atSeq 0x0809 2 0x0 (some (key 1 "S0ES" 1 "N" 0 [] 2 0)) none 0 65 (List.replicate 0 0)) (fun _ _ k =>
      ({ output := (k.a.getD {}).pub } : Answer)) ∧
    Met 0x0802 preExport false (atSeq 0x0802 2 0x0 (some (key 1 "K1AE" 256 "E" 0 (List.replicate 32 7) 1 0)) (some (key 2 "D0AB" 256 "E" 0 (List.replicate 32 7) 1 0)) 2 300 (ascii "D0E0" ++ [0, 0, 0, 0])) (fun u r k =>
      (exportAnswer r (k.a.getD {}) (k.b.getD {}) u.freeCtr)) :=
  ⟨met (by decide +kernel) (nofun) (by decide +kernel),
   met (by decide +kernel) (nofun) (by decide +kernel),
   met (by decide +kernel) (nofun) (by decide +kernel),
   met_all 3509 (by intro u r k; have h := statement_length u r (k.a.getD {}); simp only [List.length_append, layerSign_length]; omega) (by decide +kernel) (nofun) (by decide +kernel),
   met (by decide +kernel) (nofun) (by decide +kernel),
   met (by decide +kernel) (nofun) (by decide +kernel),
   met (by decide +kernel) (nofun) (by decide +kernel)⟩


/-- Two PIN blocks of format 0 under one key, of the PINs 1234 and 1235, and one that opens to no PIN. -/
def pinBlock (n : Nat) : Bytes :=
  match n with
  | 0 => [41, 97, 204, 124, 92, 131, 119, 48]
  | 1 => [167, 156, 174, 103, 206, 109, 209, 18]
  | _ => [0, 0, 0, 0, 0, 0, 0, 0]

def twoBlocks (a b : Nat) : State := atSeq 0x0104 1 0 (some (key 1 "P0TD" 128 "E" 0 (List.replicate 16 7) 1 0))
  (some (key 2 "P0TB" 128 "E" 0 (List.replicate 16 7) 1 0)) 2 0 (pinBlock a ++ pinBlock b)

def opened (n : Nat) : Option (List Nat) :=
  pinDecode 0 (List.replicate 16 7) [1, 2, 3, 4, 5, 6, 7, 8, 9, 0, 1, 2] (pinBlock n)

theorem opened_0 : opened 0 = some [1, 2, 3, 4] := by decide +kernel
theorem opened_1 : opened 1 = some [1, 2, 3, 5] := by decide +kernel
theorem opened_2 : opened 2 = none := by decide +kernel

theorem two_blocks_stand : ((List.range 3).all fun b => stands 0x0104 (prePin "P0" "DB" true) (twoBlocks 0 b)) = true := by
  decide +kernel

/-- A PIN equal to its reference, one that differs, and a reference that opens to no PIN. -/
theorem witness_PinVerifyCompareVerdict : ∀ b : Nat, b < 3 → ∃ u r k,
    AtCommand 0x0104 (prePin "P0" "DB" true) (twoBlocks 0 b) 7 r k u ∧ Confirmed k ∧
      pinDecode (finOf r) (matOf k.a) r.desc.panList (r.input.take (pinLen (finOf r))) = opened 0 ∧
      pinDecode (foutOf r) (matOf k.b) r.desc.panList (bytesAt r.input (pinLen (finOf r)) (pinLen (foutOf r))) = opened b := by
  intro b m
  have h := two_blocks_stand
  simp only [List.all_eq_true, List.mem_range] at h
  refine ⟨_, _, _, at_command (h b m), ?_, ?_, ?_⟩
  · rcases (by omega : b = 0 ∨ b = 1 ∨ b = 2) with rfl | rfl | rfl <;> exact two_keys
  · unfold opened
    rcases (by omega : b = 0 ∨ b = 1 ∨ b = 2) with rfl | rfl | rfl <;> congr 1
  · unfold opened
    rcases (by omega : b = 0 ∨ b = 1 ∨ b = 2) with rfl | rfl | rfl <;> congr 1

theorem inl_of {α β γ : Type} {x : (α × β) ⊕ γ} (p : α → Bool) (h : (match x with | .inl y => p y.1 | .inr _ => false) = true) :
    ∃ l t, x = .inl (l, t) ∧ p l = true := by
  match x, h with
  | .inl (l, t), h => exact ⟨l, t, rfl, h⟩

/-- Two custodians approve the operation of the request, each with a component. -/
def approved (s : State) : State :=
  let r := reqOf s
  let a : Approval := { number := 1, statement := opStatement r.desc r.slice r.input, custodian := 1, roles := 3, expiry := 1000, component := some (List.replicate 16 5) }
  { s with cust := { s.cust with approvals := [a, { a with number := 2, custodian := 2, component := some (List.replicate 16 9) }] } }

/-- The state that a statement computes in. -/
def later (c : Nat) (s : State) : State := { drawn c s with freeCtr := (drawn c s).freeCtr + drawsPerCommand }

/-- KEY_DELETE of a key in the stash. -/
theorem witness_StoredState_delete :
    let s := atSeq 0x0804 2 0 (some (key 1 "D0AB" 128 "E" 0 (List.replicate 16 7) 1 0)) none 0 0 []
    AtCommand 0x0804 noPre s 7 (reqOf s) (fetched 0x0804 s).1 (drawn 0x0804 s) ∧ (reqOf s).viaPeer = false ∧
      emFind (later 0x0804 s) (reqOf s).slice (reqOf s).desc.keyA.toNat = .stash 0 { handle := 1, record := 0 } ∧
      (recordAt (later 0x0804 s) { handle := 1, record := 0 }).isSome = true :=
  ⟨at_command (by decide +kernel), by decide +kernel, by decide +kernel, by decide +kernel⟩

/-- STATEFUL_SIGN with an index left below the stored limit. -/
theorem witness_StoredState_sign :
    let s := atSeq 0x3105 2 0 (some { key 1 "S0FS" 5 "N" 0 [] 4 0 with limit := 4 }) none 0 1780 []
    let p : Pre := fun _ r k => firstFail [needPair k.a "S0" "S" "F" [],
      require (pqSigLen "F" (setOf r k) + 8 ≤ r.desc.outCap.toNat) (some (stMalformed, malDetail 0x30 7))]
    AtCommand 0x3105 p s 7 (reqOf s) (fetched 0x3105 s).1 (drawn 0x3105 s) ∧
      ∃ line x, liveRecord (later 0x3105 s) (reqOf s).slice (reqOf s).desc.keyA.toNat = some (line, x) ∧
        x.nextIdx < totalIndices x.bits ∧ x.nextIdx < x.limit ∧
        (pqSignOf "F" x.bits (matOf (fetched 0x3105 s).1.a) [] (reqOf s).input false x.nextIdx ++ leBytes 8 x.nextIdx).length ≤
          (reqOf s).desc.outCap.toNat := by
  refine ⟨at_command (by decide +kernel), 0, { key 1 "S0FS" 5 "N" 0 [] 4 0 with limit := 4 }, rfl, by decide +kernel, by decide +kernel, ?_⟩
  rw [List.length_append, pqSign_length, leBytes_length]
  decide +kernel

/-- METER_LATCH. -/
theorem witness_StoredState_latch :
    let s := atSeq 0x5002 2 0 none none 0 0 []
    AtCommand 0x5002 noPre s 7 (reqOf s) (fetched 0x5002 s).1 (drawn 0x5002 s) := at_command (by decide +kernel)

/-- KEY_COMPONENTS_COMBINE of two components. -/
theorem witness_StoredState_combine :
    let s := approved (atSeq 0x0806 2 0 none none 9 5 (2 :: (ascii "D0AB00E0" ++ leBytes 2 128 ++ List.replicate 6 0)))
    AtCommand 0x0806 preCombine s 7 (reqOf s) (fetched 0x0806 s).1 (drawn 0x0806 s) ∧
      ∃ l t, reserveApprovals (partCount (reqOf s)) 1 (opStatement (reqOf s).desc (reqOf s).slice (reqOf s).input) (later 0x0806 s) = .inl (l, t) ∧
        decide ((combineParts (reqOf s) (l.map fun a => a.component.getD [])).output.length ≤ (reqOf s).desc.outCap.toNat) = true :=
  ⟨at_command (by decide +kernel), inl_of (fun l => decide (_ ≤ _)) (by decide +kernel)⟩

/-- KEY_EXPORT of a key under dual control. -/
theorem witness_StoredState_export :
    let a := key 1 "K1AE" 256 "E" 0 (List.replicate 32 7) 1 0
    let b := key 2 "D0AB" 256 "E" 0 (List.replicate 32 7) 1 8
    let s := approved (atSeq 0x0802 2 0 (some a) (some b) 2 300 (ascii "D0E0" ++ [0, 0, 0, 0]))
    AtCommand 0x0802 preExport s 7 (reqOf s) (fetched 0x0802 s).1 (drawn 0x0802 s) ∧
      (fetched 0x0802 s).1 = { a := some a, b := some b } ∧ nbit b.flags 3 = true ∧
      (∃ l t, reserveApprovals 2 0 (opStatement (reqOf s).desc (reqOf s).slice (reqOf s).input) (later 0x0802 s) = .inl (l, t) ∧ true = true) ∧
      (exportAnswer (reqOf s) a b (drawn 0x0802 s).freeCtr).output.length ≤ (reqOf s).desc.outCap.toNat :=
  ⟨at_command (by decide +kernel), rfl, by decide +kernel, inl_of (fun _ => true) (by decide +kernel), by decide +kernel⟩

-- The mailbox ---------------------------------------------------------------------------------------------------------------------

/-- The state in which a launched command is looked at. -/
def atMailbox (code : Nat) (l : Launch) (s : State) : State :=
  { s with mgt := { s.mgt with desc := l.desc, cmd := BitVec.ofNat 16 code, held := [] } }

/-- The input of a launched command. -/
def inputOf (code : Nat) (l : Launch) (s : State) : Bytes := (mgtInput (launched code l) l.env (atMailbox code l s)).getD []

/-- A launch reaches an idle mailbox. -/
def freeB (l : Launch) (s : State) : Bool :=
  mailboxReached l s && l.env.dual.isNone && wardenUp s && s.mgt.held.isEmpty && s.mgt.running.isNone

/-- Nothing turns its command away. -/
def takesB (code : Nat) (l : Launch) (s : State) : Bool :=
  let d := launched code l
  let u := atMailbox code l s
  freeB l s && (mgtCheck l.path d u).isNone && (mgtFieldBad d u).isNone && (mgtInput d l.env u).isSome &&
    (mgtInputBad d (inputOf code l s) u).isNone && !mgtTurnedAway d u

theorem free_of {code : Nat} {l : Launch} {s : State} (h : freeB l s = true) : MailboxFree code l s (atMailbox code l s) := by
  simp only [freeB, Bool.and_eq_true, Option.isNone_iff_eq_none, List.isEmpty_iff] at h
  obtain ⟨⟨⟨⟨a, b⟩, c⟩, d⟩, e⟩ := h
  exact ⟨a, b, c, d, e, rfl⟩

/-- A command is taken, and more holds of its input and the state in which it is looked at. -/
def Taken (code : Nat) (l : Launch) (s : State) (p : Bytes → State → Prop) : Prop :=
  ∃ inp u, MailboxTakes code l s inp u ∧ p inp u

theorem taken {code : Nat} {l : Launch} {s : State} {p : Bytes → State → Prop} (h : takesB code l s = true)
    (q : p (inputOf code l s) (atMailbox code l s)) : Taken code l s p := by
  simp only [takesB, Bool.and_eq_true, Option.isNone_iff_eq_none, Bool.not_eq_true'] at h
  obtain ⟨⟨⟨⟨⟨a, b⟩, c⟩, d⟩, e⟩, f⟩ := h
  refine ⟨_, _, ⟨free_of a, b, c, ?_, e, f⟩, q⟩
  obtain ⟨x, hx⟩ := Option.isSome_iff_exists.mp d
  simp [inputOf, hx]

/-- A launch through BAR0 with P0, SLICE, KEY_A, KEY_B, DOMAIN, its input in host memory and an output capacity. -/
def launchOf (p0 slice keyA keyB domain : Nat) (inp : Bytes) (cap : Nat) : Launch where
  desc := {
    p0 := BitVec.ofNat 16 p0, slice := BitVec.ofNat 8 slice, keyA := BitVec.ofNat 32 keyA, keyB := BitVec.ofNat 32 keyB
    domain := BitVec.ofNat 16 domain, inLen := BitVec.ofNat 32 inp.length, inAddr := if inp.length = 0 then 0 else 0x1000
    outAddr := if cap = 0 then 0 else 0x9000, outCap := BitVec.ofNat 32 cap }
  env := { hostIn := some inp }

/-- A module with power, link and DMA in a power state, FIELDED, unsealed, with an instance for each consumer. -/
def on (p : PState) : State :=
  let s := State.reset
  { s with
    pwr := { s.pwr with state := p, startRun := true, vinValid := true, cap := 4400 }
    pcie := { s.pcie with link := true, busMaster := true, pasidEnable := true }
    lcs := { s.lcs with state := .fielded }
    log := { s.log with size := 65536 }
    wdn := { s.wdn with standby := true }
    ent := { s.ent with
      startupDone := true
      drbg := [(0, { consumer := 1, inst := true }), (1, { consumer := 2, inst := true }), (2, { consumer := 3, inst := true }),
        (3, { consumer := 4, inst := true })] }
    kvt := { s.kvt with vs := some 0, identity := true, idFpr := List.replicate 32 0, ownerFpr := some (List.replicate 32 0) } }

/-- Slice 0 enabled with one queue of 64 entries, PASID 5, and an owner of domains in cluster 9. -/
def cfg0 : ImageCfg where
  tenants := [(0, { flags := 0x23, queues := 1, depthLog2 := 6, rate := 1, depth := 1 })]
  pasids := [(5, 0)]
  plan := [(0, 0), (0, 0), (0, 0), (0, 1)]
  fabric := { cluster := 9, role := 3, mode0 := 1, mode1 := 1 }

/-- The same with this image loaded and the slice in a state. -/
def loaded (p : PState) (x : SState) : State :=
  let s := on p
  { s with img := { s.img with cfg := some cfg0 }, slices := [(0, { state := x })] }

/-- ManagementCommandsAreCheckedInOrder: a fifth launch, and each way in which a command fails its checks. -/
theorem witness_ManagementCommandsAreCheckedInOrder :
    (managed (.meterLatchAll {}) = some (0x600A, {}) ∧
      (let s := { on .ready with mgt := { (on .ready).mgt with held := [{}, {}, {}], running := some (.readyDrain .bar0) } }
       mailboxReached {} s = true ∧ wardenUp s = true ∧ 3 ≤ s.mgt.held.length ∧ s.mgt.running.isSome = true)) ∧
    (MailboxFree 0x600A (launchOf 1 0 0 0 0 [] 0) (on .ready) (atMailbox 0x600A (launchOf 1 0 0 0 0 [] 0) (on .ready)) ∧
      (mgtCheck .bar0 (launched 0x600A (launchOf 1 0 0 0 0 [] 0)) (on .ready)).isSome = true) ∧
    (MailboxFree 0x6004 (launchOf 0 9 5 0 0 [] 0) (on .ready) (atMailbox 0x6004 (launchOf 0 9 5 0 0 [] 0) (on .ready)) ∧
      mgtCheck .bar0 (launched 0x6004 (launchOf 0 9 5 0 0 [] 0)) (on .ready) = none ∧
      (mgtFieldBad (launched 0x6004 (launchOf 0 9 5 0 0 [] 0)) (on .ready)).isSome = true) ∧
    (let l : Launch := { launchOf 1 0 0 0 0 (List.replicate 8 0) 0 with env := { hostIn := none } }
     MailboxFree 0x600B l (on .ready) (atMailbox 0x600B l (on .ready)) ∧ mgtCheck .bar0 (launched 0x600B l) (on .ready) = none ∧
      mgtFieldBad (launched 0x600B l) (on .ready) = none ∧ mgtInput (launched 0x600B l) l.env (on .ready) = none) ∧
    (let l := launchOf 2 0 0 0 7 (leBytes 2 0x4000) 0
     MailboxFree 0x6016 l (on .ready) (atMailbox 0x6016 l (on .ready)) ∧ mgtCheck .bar0 (launched 0x6016 l) (on .ready) = none ∧
      ∃ inp, mgtInput (launched 0x6016 l) l.env (on .ready) = some inp ∧ (mgtInputBad (launched 0x6016 l) inp (on .ready)).isSome = true) ∧
    (let l := launchOf 0 0 0 0 0 [] 0
     MailboxFree 0x6003 l (on .run) (atMailbox 0x6003 l (on .run)) ∧ mgtCheck .bar0 (launched 0x6003 l) (on .run) = none ∧
      mgtTurnedAway (launched 0x6003 l) (on .run) = true) :=
  ⟨⟨rfl, by decide +kernel⟩, ⟨free_of (by decide +kernel), by decide +kernel⟩,
   ⟨free_of (by decide +kernel), by decide +kernel, by decide +kernel⟩,
   ⟨free_of (by decide +kernel), by decide +kernel, by decide +kernel, by decide +kernel⟩,
   ⟨free_of (by decide +kernel), by decide +kernel, leBytes 2 0x4000, by decide +kernel, by decide +kernel⟩,
   ⟨free_of (by decide +kernel), by decide +kernel, by decide +kernel⟩⟩

/-- PowerStateCommandsComplete: each clause. -/
theorem witness_PowerStateCommandsComplete :
    Taken 0x6001 (withOp 16 4 (launchOf 0 0 0 0 0 [] 0)) (loaded .ready .active)
      (fun _ u => u.pwr.state = .ready ∧ (refreshHold u).pwr.runHold = 0) ∧
    Taken 0x6001 (withOp 16 4 (launchOf 0 0 0 0 0 [] 0)) (on .run) (fun _ u => u.pwr.state = .run) ∧
    Taken 0x6001 (withOp 16 3 (launchOf 0 0 0 0 0 [] 0)) (on .run) (fun _ u => u.pwr.state = .run) ∧
    Taken 0x6001 (withOp 16 3 { launchOf 0 0 0 0 0 [] 0 with path := .smbus }) (on .sleep) (fun _ u => u.pwr.state = .sleep) ∧
    Taken 0x6001 (withOp 16 2 (launchOf 0 0 0 0 0 [] 0)) (on .ready)
      (fun _ u => u.pwr.state = .ready ∧ (mgtFlags u).getLsbD 0 = true ∧ (mgtFlags u).getLsbD 2 = true) ∧
    (let s := { on .run with rqs := { (on .run).rqs with readyDrain := some 0 } }
     s.rqs.readyDrain.isSome = true ∧ s.rqs.live.all executed = true) :=
  ⟨taken (by decide +kernel) (by decide +kernel), taken (by decide +kernel) (by decide +kernel),
   taken (by decide +kernel) (by decide +kernel), taken (by decide +kernel) (by decide +kernel),
   taken (by decide +kernel) (by decide +kernel), by decide +kernel⟩

/-- QueueAndResetCommandsComplete: each clause. -/
theorem witness_QueueAndResetCommandsComplete :
    Taken 0x6004 { launchOf 0 0 5 0 0 [] 0 with desc := { (launchOf 0 0 5 0 0 [] 0).desc with inAddr := 0x1000, outAddr := 0x2000 } }
      (loaded .run .active) (fun _ u => u.pcie.pasidEnable = true ∧ queue? u 0 0 = none) ∧
    Taken 0x6005 (launchOf 0 0 0 0 0 [] 0) { loaded .run .active with rqs := { (loaded .run .active).rqs with queues := [(0, {})] } }
      (fun _ u => queue? u 0 0 = some {} ∧ ({} : Queue).reads = [] ∧
        u.rqs.live.any (fun r => r.slice == 0 && r.origin == .host 0) = false) ∧
    Taken 0x6006 (withOp 2 0 (launchOf 0 0 0 0 0 [] 0)) (loaded .run .active) (fun _ u => enabled u 0 = true ∧ (slice u 0).state = .active) ∧
    Taken 0x6006 (withOp 2 1 (launchOf 0 0 0 0 0 [] 0)) (loaded .ready .saved) (fun _ u => enabled u 0 = true ∧ (slice u 0).state = .saved) ∧
    Taken 0x6007 (withOp 2 0 (launchOf 0 0 0 0 0 [] 0)) (loaded .run .active) (fun _ u => enabled u 0 = true ∧ (slice u 0).state = .active) ∧
    Taken 0x6007 (withOp 2 1 (launchOf 0 0 0 0 0 [] 0)) (loaded .run .frozen) (fun _ u => enabled u 0 = true ∧ (slice u 0).state = .frozen) ∧
    (let s := loaded .run .resetting
     (slice s 0).state = .resetting ∧ (slice s 0).squash = false ∧ readsDone s 0 = true ∧ s.rqs.live.any (fun r => r.slice == 0) = false) ∧
    (let s := loaded .run .freezing
     (slice s 0).state = .freezing ∧ readsDone s 0 = true ∧ responsesDone s 0 = true ∧
      s.rqs.live.any (fun r => r.slice == 0 && !r.viaPeer) = false) ∧
    (let s := { loaded .run .resetting with mtime := drainNs (loaded .run .resetting) }
     (slice s 0).state = .resetting ∧ (slice s 0).drainFrom + drainNs s ≤ s.mtime) ∧
    (let s := { loaded .run .active with
       mtime := drainNs (loaded .run .active), rqs := { (loaded .run .active).rqs with readyDrain := some 0 } }
     s.rqs.readyDrain = some 0 ∧ 0 + drainNs s ≤ s.mtime) :=
  ⟨taken (by decide +kernel) (by decide +kernel), taken (by decide +kernel) (by decide +kernel),
   taken (by decide +kernel) (by decide +kernel), taken (by decide +kernel) (by decide +kernel),
   taken (by decide +kernel) (by decide +kernel), taken (by decide +kernel) (by decide +kernel),
   by decide +kernel, by decide +kernel, by decide +kernel, by decide +kernel⟩

/-- An alive peer, node 2, with a session. -/
def withPeer (s : State) : State :=
  { s with
    lku := { s.lku with peers := [(2, { state := 1, session := some 1, mayOwn := true, mayStandby := true })] }
    fab := { s.fab with
      sessions := [(1, { node := some 2, fpr := List.replicate 32 1 })], cert := some { flags := 3, cluster := 9, fpr := List.replicate 32 0 }
      nodeId := some 1 } }

/-- MigrationCommandsComplete: PREPARE, SAVE and the two expiries. -/
theorem witness_MigrationCommandsComplete :
    Taken 0x6009 (withOp 16 1 (launchOf 0 0 0 0 0 [] 4621)) (loaded .run .active)
      (fun _ u => enabled u 0 = true ∧ u.kvt.identity = true ∧ (wardenCalls 1 u).isSome = true) ∧
    Taken 0x6008 (launchOf 0 0 0 0 0 (ascii "MOFR" ++ leBytes 4 1 ++ leBytes 2 2 ++ List.replicate 14 0 ++ leBytes 8 1 ++ List.replicate 4589 0) 1524)
      (withPeer (loaded .run .frozen))
      (fun i u => (slice u 0).state = .frozen ∧ (tenant u 0).flags.getLsbD 5 = true ∧ (peerOf u (fld i 8 2)).state = 1 ∧
        (peerOf u (fld i 8 2)).session.isSome = true ∧ u.mtime < fld i 24 8 ∧ (wardenCalls 1 u).isSome = true) ∧
    (let s := { on .run with slices := [(255, { offer := some {} })] }
     (slice s 255).offer = some {} ∧ ({} : Offer).expiry ≤ s.mtime) :=
  ⟨taken (by decide +kernel) (by decide +kernel), taken (by decide +kernel) (by decide +kernel), by decide +kernel⟩

/-- MeterAndLogCommandsComplete: each clause. -/
theorem witness_MeterAndLogCommandsComplete :
    Taken 0x600A (launchOf 0 0 0 0 0 [] 0) (on .ready) (fun _ _ => True) ∧
    (let s := { on .run with mtime := 60000000000 }
     s.pwr.state = .run ∧ s.mgt.mtrLast / 60000000000 < s.mtime / 60000000000) ∧
    (let s := { on .run with slices := [(0, { latching := [{}] })] }
     (slice s 0).latching = [{}]) ∧
    (∀ n, n = 1 ∨ n = 2 ∨ n = 3 → let k := withOp 4 n (launchOf 0 0 0 0 0 (List.replicate 8 0) 0)
      let a : Approval := { number := 1, statement := opStatement (launched 0x600B k) 0xFFFF (List.replicate 8 0), custodian := 1, roles := 3, expiry := 1 }
      Taken 0x600B k { on .ready with cust := { (on .ready).cust with approvals := [a, { a with number := 2, custodian := 2 }] } }
        (fun i u => fld i 0 4 = u.log.next ∧ fld i 4 4 = u.log.rsvNext ∧
          ∃ x t, reserveApprovals 2 0 (opStatement (launched 0x600B k) 0xFFFF i) u = .inl (x, t) ∧ true = true)) ∧
    (wardenUp (on .run) = true ∧ (on .run).log.size ≠ 0) ∧ barOpen (on .run) = true ∧
    (let s := { on .run with log := { (on .run).log with selBusy := true } }
     s.log.selBusy = true ∧ wardenUp s = true) := by
  refine ⟨taken (by decide +kernel) trivial, by decide +kernel, by decide +kernel, ?_, by decide +kernel, by decide +kernel, by decide +kernel⟩
  rintro n (rfl | rfl | rfl) <;>
    exact taken (by decide +kernel) ⟨by decide +kernel, by decide +kernel, inl_of (fun _ => true) (by decide +kernel)⟩

/-- A life-cycle request for a target, of a module in a state. -/
def requestInput (n : Nat) : Bytes :=
  ascii "LCRQ" ++ leBytes 2 1 ++ [BitVec.ofNat 8 (n - 1), BitVec.ofNat 8 n] ++ List.replicate 4768 0

/-- READY in a life-cycle state, the capacitor at a charge. -/
def inLife (x : LState) (cap : Nat) : State :=
  let s := on .ready
  { s with lcs := { s.lcs with state := x }, pwr := { s.pwr with cap := cap } }

/-- LifecycleCommandsComplete: each clause. -/
theorem witness_LifecycleCommandsComplete :
    (let l := launchOf 0 0 0 0 0 [] 0
     Taken 0x600E (withOp 16 2 l) (inLife .maker 4400) (fun _ u => u.pwr.state = .ready ∧ u.tmp.locked = false ∧ u.lcs.waiting = none ∧
      u.lcs.state = .maker ∧ u.ent.startupDone = true ∧ l.desc.p / 16 = 0 ∧ l.desc.inLen = 0 ∧ capFull u = true)) ∧
    (∀ x c n, (x, n) = (LState.integrator, 3) ∨ (x, n) = (LState.fielded, 4) → c = 4400 ∨ c = 4399 →
      let l := launchOf 0 0 0 0 0 (requestInput n) 0
      Taken 0x600E (withOp 16 n l) (inLife x c) (fun i u => requestBad (launched 0x600E (withOp 16 n l)) i = none ∧ u.pwr.state = .ready ∧
        u.tmp.locked = false ∧ u.lcs.waiting = none ∧ u.lcs.state.code = n - 1 ∧ u.kvt.ownerFpr.isSome = true ∧
        bytesAt i 8 32 = u.kvt.idFpr ∧ signed l.env.sig = true ∧ l.desc.p / 16 = 0 ∧ capFull u = decide (c = 4400))) ∧
    Taken 0x600F (launchOf 5 0 0 0 0 [] 0) (inLife .invalid 4400) (fun _ u => capFull u = true) ∧
    (let s := { inLife .fielded 0 with mtime := 1000000000 }
     let t := { s with lcs := { s.lcs with waiting := some { target := 4 } } }
     t.lcs.waiting = some { target := 4 } ∧ capFull t = false ∧ 0 + 1000000000 ≤ t.mtime) ∧
    ((on .run).pwr.vinValid = true ∧ (on .run).lcs.waiting = none) ∧
    (let s := { on .run with lcs := { (on .run).lcs with waiting := some {} } }
     s.pwr.vinValid = true ∧ s.lcs.waiting = some {} ∧ s.tmp.locked = false) ∧
    copiesAre (burnTransition 2 none true (inLife .maker 4400)) 2 = true := by
  refine ⟨taken (by decide +kernel) (by decide +kernel), ?_, taken (by decide +kernel) (by decide +kernel), by decide +kernel, by decide +kernel,
    by decide +kernel, by decide +kernel⟩
  intro x c n h k
  simp only [Prod.mk.injEq] at h
  rcases h with ⟨rfl, rfl⟩ | ⟨rfl, rfl⟩ <;> rcases k with rfl | rfl <;> exact taken (by decide +kernel) (by decide +kernel)

/-- ImageCommandsComplete: a first chunk, and a last one. -/
theorem witness_ImageCommandsComplete_stage :
    Taken 0x6002 (launchOf 0 0 0 5120 0 (List.replicate 8 0) 0) (on .ready) (fun _ _ => nbit (launchOf 0 0 0 5120 0 (List.replicate 8 0) 0).desc.p 0 = false) ∧
    Taken 0x6002 (launchOf 1 0 0 5120 0 (List.replicate 5120 0) 0) (on .ready)
      (fun _ _ => nbit (launchOf 1 0 0 5120 0 (List.replicate 8 0) 0).desc.p 0 = true) :=
  ⟨taken (by decide +kernel) (by decide +kernel), taken (by decide +kernel) (by decide +kernel)⟩

/-- The head of a vault authorisation over a firmware's two measurements. -/
def resealInput (v : Nat) (mW mU : Bytes) : Bytes :=
  ascii "RSAL" ++ leBytes 2 1 ++ leBytes 2 0 ++ List.replicate 32 0 ++ fit 48 mW ++ fit 48 mU ++ leBytes 4 v ++ List.replicate 4732 0

/-- OwnerAndVaultCommandsComplete: each clause but COMMIT. -/
theorem witness_OwnerAndVaultCommandsComplete :
    Taken 0x6010 (withOp 16 1 (launchOf 0 0 0 0 0 (List.replicate 7417 0) 0))
      (let s := inLife .integrator 0; { s with kvt := { s.kvt with ownerFpr := none } })
      (fun _ u => u.lcs.state = .integrator ∧ u.kvt.ownerFpr = none) ∧
    Taken 0x6010 (withOp 16 2 (launchOf 0 0 0 0 0 (ascii "CRST" ++ leBytes 2 1 ++ leBytes 2 1 ++ leBytes 8 1 ++ List.replicate 32 0 ++ leBytes 2 7 ++
        [3] ++ List.replicate 4797 0) 0)) (on .ready)
      (fun i u => u.kvt.ownerFpr.isSome = true ∧ u.lcs.state = .fielded ∧ boundHere u (bytesAt i 16 32) = true ∧ u.kvt.rosterSerial < fld i 8 8) ∧
    Taken 0x6011 (launchOf 0 0 0 0 0 (List.replicate 32 0) 5670) (on .ready)
      (fun _ u => u.kvt.identity = true ∧ u.kvt.signsNothing = false ∧ (wardenCalls 1 u).isSome = true) ∧
    Taken 0x6012 (withOp 16 1 (launchOf 0 0 0 0 0 (List.replicate 5 0) 0)) (on .ready) (fun _ _ => True) ∧
    Taken 0x6012 (withOp 16 3 (launchOf 0 0 0 0 0 (resealInput 0 [] []) 0)) (on .ready)
      (fun i u => boundHere u (bytesAt i 8 32) = true ∧ bytesAt i 40 48 = fit 48 u.kvt.fw.mW ∧ bytesAt i 88 48 = fit 48 u.kvt.fw.mU ∧
        (wardenCalls 1 u).isSome = true) ∧
    Taken 0x6013 (launchOf 0 0 0 0 0 [] 0) (on .run) (fun _ u => u.kvt.vs.isSome = true ∧ u.kvt.rekey = none ∧ (wardenCalls 1 u).isSome = true) ∧
    (∀ line, line = 0 ∨ line = 2 ^ 29 - 262144 →
      let s := { on .run with kvt := { (on .run).kvt with rekey := some { line := line } } }
      s.kvt.rekey = some { line := line } ∧ s.tmp.locked = false ∧ s.pwr.state = .run) :=
  ⟨taken (by decide +kernel) (by decide +kernel), taken (by decide +kernel) (by decide +kernel), taken (by decide +kernel) (by decide +kernel),
   taken (by decide +kernel) trivial, taken (by decide +kernel) (by decide +kernel), taken (by decide +kernel) (by decide +kernel),
   by rintro line (rfl | rfl) <;> decide +kernel⟩

/-- A card in port 0 and a custodian in the roster. -/
def withCard (openTo : Option Nat) : State :=
  let s := on .ready
  { s with
    cust := { s.cust with port0 := { present := true, custodian := openTo, roles := 3 } }
    kvt := { s.kvt with roster := [{ id := 7, roles := 3 }] } }

/-- A launch with a card's reply. -/
def withReply (l : Launch) : Launch := { l with env := { l.env with card := { custodian := 7, component := some (List.replicate 16 1) } } }

/-- A locked module whose lock number is 0. -/
def lockedOn : State := { on .ready with tmp := { (on .ready).tmp with locked := true } }

/-- CustodianCommandsComplete: each clause. -/
theorem witness_CustodianCommandsComplete :
    Taken 0x6014 (withOp 16 1 (withReply (launchOf 0 0 0 0 0 [] 3))) (withCard none)
      (fun _ u => (cardPort u 0).present = true ∧ (cardPort u 0).custodian = none ∧
        ∃ t r, wardenCalls 1 u = some t ∧ rosterEntry t 7 = some r) ∧
    (∀ w, w = 0 ∨ w = 1 →
      Taken 0x6014 (withOp 16 2 (withReply (launchOf 0 0 0 0 0 (List.replicate 64 0 ++ leBytes 2 10 ++ leBytes 2 w) 2))) (withCard (some 7))
        (fun i u => (cardPort u 0).custodian = some 7 ∧ (cardPort u 0).roles.getLsbD (b2n (nbit (fld i 66 2) 0)) = true ∧
          (∀ a, (addApproval a u.cust.approvals).length ≤ 16))) ∧
    (let a : Approval := { number := 1 }
     Taken 0x6014 (withOp 16 3 (launchOf 0 0 0 0 0 (leBytes 2 1) 0)) { on .ready with cust := { (on .ready).cust with approvals := [a] } }
      (fun i u => u.cust.approvals.find? (fun x => x.number == fld i 0 2) = some a ∧ a.reserved = false)) ∧
    Taken 0x6014 (withOp 16 4 (launchOf 16 0 0 0 0 [] 0)) (on .ready) (fun _ _ => True) ∧
    Taken 0x6014 (withOp 16 5 (launchOf 0 0 0 0 0 [] 0)) (on .ready) (fun _ _ => True) ∧
    (let l := launchOf 0 0 0 0 0 (List.replicate 8 0) 0
     let a : Approval := { number := 1, statement := opStatement (launched 0x600D l) 0xFFFF (List.replicate 8 0), custodian := 1, roles := 3, expiry := 1 }
     Taken 0x600D l { lockedOn with cust := { lockedOn.cust with approvals := [a, { a with number := 2, custodian := 2 }, { a with number := 3, custodian := 3 }] } }
      (fun i u => u.tmp.locked = true ∧ u.lcs.state ≠ .scrapped ∧ u.lcs.state ≠ .invalid ∧ u.tmp.erased = false ∧ fld i 0 8 = u.tmp.lockSeq ∧
        ∃ x t, reserveApprovals (unlockApprovals { u with tmp := { u.tmp with active := l.env.tmpActive } }) 0
          (opStatement (launched 0x600D l) 0xFFFF i) u = .inl (x, t) ∧ true = true)) := by
  refine ⟨taken (by decide +kernel) ⟨by decide +kernel, by decide +kernel, _, _, rfl, rfl⟩, ?_, taken (by decide +kernel) (by decide +kernel),
    taken (by decide +kernel) trivial, taken (by decide +kernel) trivial,
    taken (by decide +kernel) ⟨by decide +kernel, by decide +kernel, by decide +kernel, by decide +kernel, by decide +kernel,
      inl_of (fun _ => true) (by decide +kernel)⟩⟩
  rintro w (rfl | rfl) <;> exact taken (by decide +kernel) ⟨by decide +kernel, by decide +kernel, fun _ => (by decide : 1 ≤ 16)⟩

/-- A membership certificate of this module in cluster 9 without seeds. -/
def certInput : Bytes :=
  ascii "MBRC" ++ leBytes 2 1 ++ [1, 3] ++ leBytes 8 9 ++ leBytes 2 2 ++ List.replicate 6 0 ++ leBytes 8 1 ++ leBytes 8 0 ++ leBytes 8 1 ++
  List.replicate 6792 0

/-- The public keys of that certificate, all zero. -/
def zeroKeys : Bytes := List.replicate 2017 0

/-- The module that it names. -/
def namedModule : State :=
  let s := loaded .ready .active
  { s with kvt := { s.kvt with idFpr := sha256 zeroKeys } }

theorem cert_fpr {b k : Bytes} (h : bytesAt b 80 2017 = k) : (certOfBytes b).fpr = sha256 k := by rw [← h]; rfl

theorem named_keys : bytesAt ((inputOf 0x6015 (launchOf 0 0 0 0 0 certInput 0) namedModule).take 6832) 80 2017 = zeroKeys := by
  decide +kernel

theorem named_id : namedModule.kvt.idFpr = sha256 zeroKeys := by simp only [namedModule]

theorem named_fpr : (certOfBytes ((inputOf 0x6015 (launchOf 0 0 0 0 0 certInput 0) namedModule).take 6832)).fpr = namedModule.kvt.idFpr := by
  rw [named_id]
  exact cert_fpr named_keys

/-- MembershipAndWardenCommandsComplete: each clause. -/
theorem witness_MembershipAndWardenCommandsComplete :
    Taken 0x6015 (launchOf 0 0 0 0 0 certInput 0)
      namedModule
      (fun i u => (∃ c, u.img.cfg = some c) ∧ u.kvt.ownerFpr = some (certOfBytes (i.take 6832)).ownerFpr ∧
        (certOfBytes (i.take 6832)).fpr = u.kvt.idFpr ∧ (certOfBytes (i.take 6832)).cluster ≠ 0 ∧
        (certOfBytes (i.take 6832)).cluster = clusterId u ∧ u.fab.cert = none) ∧
    (∀ st, st = 1 ∨ st = 0 → let s := withPeer (loaded .ready .active)
      Taken 0x6016 (withOp 16 1 (launchOf 0 0 0 0 0 (ascii "DGRT" ++ leBytes 4 1 ++ leBytes 8 9 ++ leBytes 2 3 ++ leBytes 2 2 ++ leBytes 4 1 ++
          List.replicate 4768 0) 0)) { s with lku := { s.lku with domains := [(3, { state := st })] } }
        (fun i u => u.kvt.ownerFpr.isSome = true ∧ BitVec.ofNat 64 (fld i 8 8) = clusterId u ∧ bytesAt i 24 32 = u.kvt.idFpr ∧
          ownsDomains u = true ∧ (domainOf u (fld i 16 2)).pennant < fld i 20 4 ∧ (domainOf u (fld i 16 2)).state = st ∧
          (wardenCalls 1 u).isSome = true)) ∧
    (∀ k, k = 2 ∨ k = 0xFFFF → let s := withPeer (loaded .ready .active)
      Taken 0x6016 (withOp 16 2 (launchOf 0 0 0 0 3 (leBytes 2 k) 0)) { s with lku := { s.lku with domains := [(3, { state := 1, pennant := 1 })] } }
        (fun i u => ownsDomains u = true ∧ (domainOf u 3).state = 1 ∧ (domainOf u 3).pennant ≠ 0xFFFFFFFF ∧
          (fld i 0 2 = 0xFFFF ∨ ((peerOf u (fld i 0 2)).state = 1 ∧ (peerOf u (fld i 0 2)).mayStandby = true)))) ∧
    (let s := withPeer (loaded .ready .active)
     Taken 0x6016 (withOp 16 3 (launchOf 0 0 0 0 3 [] 0)) { s with
        lku := { s.lku with domains := [(3, { state := 1, pennant := 1, sby := true, standby := 2 })] }
        fab := { s.fab with own := [(3, { stored := 1 })] } }
      (fun _ u => ownsDomains u = true ∧ (domainOf u 3).state = 1 ∧ (domainOf u 3).pennant ≠ 0xFFFFFFFF ∧ (domainOf u 3).sby = true ∧
        (tgetD u.fab.own 3 {}).stored ≠ 0)) ∧
    Taken 0x6017 (launchOf 0x0200 0 0 0 0 [] 0) (on .run) (fun _ _ => True) ∧
    Taken 0x600C (launchOf 0 0 0 0 0 [] 0) (on .ready) (fun _ u => u.wdn.standby = true ∧ journalRuns u = false ∧ u.tmp.locked = false) := by
  refine ⟨taken (by decide +kernel) ⟨⟨_, rfl⟩, by decide +kernel,
    named_fpr,
    by decide +kernel, by decide +kernel, by decide +kernel⟩, ?_, ?_,
    taken (by decide +kernel) (by decide +kernel), taken (by decide +kernel) trivial, taken (by decide +kernel) (by decide +kernel)⟩
  · rintro st (rfl | rfl) <;> exact taken (by decide +kernel) (by decide +kernel)
  · rintro k (rfl | rfl) <;> exact taken (by decide +kernel) (by decide +kernel)

-- Events --------------------------------------------------------------------------------------------------------------------------

/-- RUN with one queue of slice 0. -/
def withQueue (q : Queue) : State :=
  let s := loaded .run .active
  { s with rqs := { s.rqs with queues := [(0, q)], order := [0] } }

/-- RUN with one live request. -/
def withReq (r : Req) : State :=
  let s := loaded .run .active
  { s with rqs := { s.rqs with live := [r] } }

/-- DoorbellsFetchAndArrivalComplete: each clause, the doorbells at the last valid index. -/
theorem witness_DoorbellsFetchAndArrivalComplete :
    (let s := withQueue {}
     barOpen s = true ∧ pasidForeign s 0 (some 5) = false ∧ doorbellQueue { value := 63, pasid := some 5 } s = some {}) ∧
    (let q : Queue := { cqTail := 1 }
     doorbellQueue { value := 1 } (withQueue q) = some q ∧ (1 + q.depth - q.cqHead) % q.depth ≤ q.written ∧
      pasidForeign (withQueue q) 0 none = false) ∧
    (let s := withQueue { tail := 1 }
     queueDma s = true ∧ nextFetch s = some (0, 0) ∧ queue? s 0 0 = some { tail := 1 }) ∧
    (let q : Queue := { tail := 1, issued := 1, reserved := 1, reads := [1] }
     queue? (withQueue q) 0 0 = some q ∧ q.reads = 1 :: [] ∧ ([{}] : List Desc).length = 1 ∧ q.reads ≠ []) ∧
    (let r : Req := { rid := 1, phase := .waitRoom }
     let s := withReq r
     s.rqs.live.find? (fun r => r.phase == .waitRoom) = some r ∧ queueDma s = true ∧ ensignFits s r = true) ∧
    (barOpen (on .run) = true ∧ pasidForeign (on .run) 255 (some 0xFFFFF) = true) := by decide +kernel

/-- BadDoorbellsAreIgnoredAndLogged: a foreign PASID, and an index at the depth. -/
theorem witness_BadDoorbellsAreIgnoredAndLogged :
    barOpen (withQueue {}) = true ∧ pasidForeign (withQueue {}) 0 (some 6) = true ∧
    pasidForeign (withQueue {}) 0 (some 5) = false ∧ doorbellQueue { value := 64, pasid := some 5 } (withQueue {}) = none := by decide +kernel

/-- RUN with a live request of a tenant that all classes are permitted to, its bucket full. -/
def admitting (r : Req) : State :=
  let s := withReq r
  let c := { cfg0 with tenants := [(0, { flags := 0x3F, queues := 1, depthLog2 := 6, weight := 1, rate := 1000, depth := 1000 })] }
  { s with img := { s.img with cfg := some c }, slices := [(0, { state := .active, level := 2 ^ 40 })] }

/-- Domain 3 owned by the reachable peer 2. -/
def farOwned (s : State) : State :=
  let t := withPeer s
  { t with lku := { t.lku with
      domains := [(3, { state := 2, owner := 2 })], peers := [(2, { state := 1, session := some 1, path0 := true, delay0 := 10 })] } }

/-- LandingAndAdmissionComplete: each clause. -/
theorem witness_LandingAndAdmissionComplete :
    (let r : Req := { rid := 1, phase := .reading }
     findReq (withReq r) 1 = some r ∧ (descCheck r.viaFabric r.viaPeer r.desc []).isSome = true) ∧
    (let r : Req := { rid := 1, phase := .reading, desc := { command := 0x5001, cls := 2 } }
     findReq (withReq r) 1 = some r ∧ descCheck r.viaFabric r.viaPeer r.desc [] = none ∧
      (∃ st d, admitTest (updReq 1 (fun _ => r) (on .ready)) r.desc r.slice r.viaTenant = .refuse st d)) ∧
    (let r : Req := { rid := 1, phase := .reading, desc := { command := 0x5001, cls := 2 } }
     let s := admitting r
     descCheck r.viaFabric r.viaPeer r.desc [] = none ∧ (∃ d, admitTest (updReq 1 (fun _ => r) s) r.desc r.slice r.viaTenant = .accept d)) ∧
    (let r : Req := { rid := 1, phase := .reading,
                      desc := { command := 0x3107, cls := 2, keyA := 1, domain := 3, outAddr := 4096, outCap := 8 } }
     let s := farOwned (admitting r)
     findReq s 1 = some r ∧ descCheck r.viaFabric r.viaPeer r.desc [] = none ∧
      (∃ d o, admitTest (updReq 1 (fun _ => r) s) r.desc r.slice r.viaTenant = .forward d o)) ∧
    (let r : Req := { rid := 1, phase := .queued, desc := { command := 0x5001, cls := 1 } }
     seqFree (withReq r) 0 = true ∧ nextWork (withReq r) 0 = some r) ∧
    (let r : Req := { rid := 1, phase := .held, desc := { command := 0x5001, cls := 2 } }
     let s := { withReq r with img := { (withReq r).img with cfg := some { cfg0 with pools := [{}, { shared := 4 }] } } }
     seqFree s 0 = true ∧ seqShared s 0 = true ∧ (waitingSeq s).any Req.isEnsign = false ∧
      dispatchPick s (s.rqs.live.filter fun r => r.phase == .held).length (s.rqs.live.filter fun r => r.phase == .held) = some r ∧
      needsRead r.desc = false ∧ r.origin = .host 0) ∧
    (let r : Req := { rid := 1, phase := .fwdQueued, seqr := some 0, owner := 2 }
     findReq (withPeer (withReq r)) 1 = some r ∧ r.phase = .fwdQueued ∧ r.seqr.isSome = true ∧ fwdInUse (withPeer (withReq r)) < 65536 ∧
      sessionTo (withPeer (withReq r)) 2 = some 1) ∧
    (loaded .run .active).img.cfg = some cfg0 := by
  refine ⟨?_, ⟨rfl, ?_, ⟨_, _, rfl⟩⟩, ⟨?_, ⟨_, rfl⟩⟩, ⟨rfl, ?_, ⟨_, _, rfl⟩⟩, ?_, ?_, ?_, rfl⟩ <;> decide +kernel

/-- EngineEventsComplete: each clause. -/
theorem witness_EngineEventsComplete :
    (let r : Req := { rid := 1, phase := .executing, desc := { command := 0x0601, cls := 1 } }
     let s := { withReq r with
       eng := { (withReq r).eng with units := [(512, {})] }
       img := { (withReq r).img with cfg := some { cfg0 with pools := [{}, { shared := 4 }] } } }
     s.pwr.state = .run ∧ (tget? s.eng.units 512).isSome = true ∧ (unitOf s 2 0).present = true ∧ (unitOf s 2 0).parked = false ∧
      (2 : Nat) ≠ 1 ∧ (unitOf s 2 0).ctx0 = none ∧ (unitOf s 2 0).testFirst = false ∧ unitKind s 2 0 ≠ 2 ∧ ensignWaits s 2 = some r) ∧
    (let s := { on .run with eng := { (on .run).eng with units := [(256 * 7 + 1, {})] } }
     (tget? s.eng.units (256 * 7 + 1)).isSome = true ∧ unitIdle s 7 1 = true) ∧
    (∀ p, p = 2 ∨ p = 4 → let s := { on .run with eng := { (on .run).eng with units := [(256 * p, { kat := true })] } }
     s.pwr.state = .run ∧ (tget? s.eng.units (256 * p + 0)).isSome = true ∧ (unitOf s p 0).present = true ∧ (unitOf s p 0).ctx0 = none ∧
      ensignWaits s p = none) ∧
    (let s := { on .run with eng := { (on .run).eng with units := [(512, { present := false })] } }
     s.wdn.lost = false ∧ (tget? s.eng.units 512).isSome = true ∧ (unitOf s 2 0).present = false ∧ (sparesLeft s 2).isEmpty = false) ∧
    ((on .run).tmp.locked = false ∧ (on .run).wdn.lost = false ∧ (maskLanes (on .run)).contains (2, 0) = true) ∧
    (let r : Req := { rid := 1, phase := .detached }
     let s := { withReq r with eng := { (withReq r).eng with units := [(512, { ctx1 := some 1 })] } }
     tget? s.eng.units 512 = some { ctx1 := some 1 } ∧ findReq s 1 = some r ∧ r.phase = .detached) ∧
    (let r : Req := { rid := 1, phase := .releaseQueued, result := some {} }
     let s := { withReq r with
       eng := { (withReq r).eng with tasks := [1] }
       img := { (withReq r).img with cfg := some { cfg0 with pools := [{}, { shared := 4 }] } } }
     seqFree s 0 = true ∧ seqShared s 0 = true ∧ s.eng.tasks = 1 :: [] ∧ findReq s 1 = some r ∧ r.result = some {}) ∧
    (let r : Req := { rid := 1, phase := .blindWait }
     (withReq r).rqs.live.find? (fun r => r.phase == .blindWait) = some r ∧ blockedInst (withReq r) 3 = none) ∧
    (let r : Req := { rid := 1, phase := .rngWait }
     (withReq r).rqs.live.find? (fun r => r.phase == .rngWait) = some r ∧ (rrInst (withReq r) 2).isSome = true) ∧
    ((1519 : Int) < 1520 ∧ ([1519] : List Int).all (· < 1520) = true ∧ (on .run).adm.throttle = 0) := by
  refine ⟨?_, ?_, ?_, ?_, ?_, ?_, ?_, ?_, ?_, ?_⟩
  · decide +kernel
  · decide +kernel
  · rintro p (rfl | rfl) <;> decide +kernel
  all_goals decide +kernel

/-- RUN with one healthy cell of the source and a DRBG instance. -/
def withSource (c : Cell) (d : Drbg) (seeds credit : Nat) : State :=
  let s := on .run
  { s with ent := { s.ent with cells := [(63, c)], drbg := [(15, d)], seeds := seeds, blockCredit := credit } }

/-- EntropyEventsComplete: each clause. -/
theorem witness_EntropyEventsComplete :
    (∃ k : Nat, let s := withSource { state := k } {} 0 0
     cellsRun s = true ∧ (tget? s.ent.cells 63).isSome = true ∧ (tgetD s.ent.cells 63 {}).healthy = true ∧
      (List.replicate 1024 false).length = 1024 ∧ s.ent.capture = false ∧ s.ent.sourceFail = false ∧ 1965 < 1966 ∧
      (tgetD s.ent.cells 63 {}).trim < 62) ∧
    (let s := withSource {} {} 31 768
     s.ent.sourceFail = false ∧ 768 ≤ s.ent.blockCredit ∧ s.ent.seeds < 32) ∧
    (let s := withSource {} {} 0 0
     cellsRun s = true ∧ s.wdn.lost = false) ∧
    (let s := withSource {} { inst := true, calls := 65536 } 0 0
     (drbgOf s 15).inst = true ∧ s.ent.interval ≤ (drbgOf s 15).calls) ∧
    (let s := { withSource {} { inst := true, calls := 0 } 0 0 with mtime := 1000000000 }
     (drbgOf s 15).inst = true ∧ (drbgOf s 15).reseedAt + 1000000000 ≤ s.mtime) ∧
    (let s := withSource {} { inst := true, due := true } 1 0
     (drbgOf s 15).inst = true ∧ (drbgOf s 15).due = true ∧ 0 < s.ent.seeds ∧ s.ent.sourceFail = false) ∧
    (lockedOn.tmp.locked = true ∧ lockedOn.ent.startupDone = true ∧ lockedOn.ent.sourceFail = false) := by
  refine ⟨⟨3, by decide +kernel⟩, ?_⟩
  decide +kernel

/-- LookupCommandsComplete and LookupOperationsGiveTheirResults: the unit free behind an open BAR0, the last word, a table that no
command writes and the other writes of a module in MAKER. -/
theorem witness_LookupCommandsComplete : barOpen (on .ready) = true ∧ (on .ready).lku.busy = false ∧ 49151 < 49152 ∧ 127 < 128 := by decide +kernel

theorem witness_LookupOperationsGiveTheirResults : lkuWritable (inLife .maker 0) = false ∧ lkuWritable (on .run) = true := by decide +kernel

/-- CardAndMemoryEventsComplete: each clause. -/
theorem witness_CardAndMemoryEventsComplete :
    (let s := { withCard (some 7) with mtime := 900000000000 }
     (cardPort s 0).custodian.isSome = true ∧ (cardPort s 0).openedAt + 900000000000 ≤ s.mtime) ∧
    (let s := { on .run with mem := { (on .run).mem with trained := true, scrub := 2 ^ 29 - 1 } }
     s.pwr.state = .run ∧ s.mem.trained = true ∧ s.mem.selfRefresh = false ∧ s.mem.badLines.contains s.mem.scrub = false) ∧
    (let s := { on .run with mem := { (on .run).mem with remapCopy := [3] } }
     s.mem.remapCopy = 3 :: []) ∧ (on .ready).pwr.state = .ready := by decide +kernel

/-- RegisterEventsComplete: each clause. -/
theorem witness_RegisterEventsComplete :
    (pathOpen .bar0 (on .ready) = true ∧ 0x4 % 4 = 0) ∧
    (pathOpen .smbus (on .ready) = true ∧ (mgtFlags (on .ready)).getLsbD 1 = true ∧ smbusWritable 0x7C = true ∧ smbusWritable 0x80 = false) ∧
    (∃ off, wideLow.contains off = true ∧ (∃ t, exec (.reg64LowRead .bar0 off) (on .ready) = .next t)) ∧
    accessOk 0x4 8 = false ∧ captureState (on .ready) = false ∧ barOpen (inLife .maker 0) = true ∧ captureState (inLife .maker 0) = true ∧
    (let s := { inLife .returned 0 with ent := { (inLife .returned 0).ent with buffer := [7] } }
     captureState s = true ∧ s.ent.buffer = 7 :: []) ∧
    (let s := inLife .integrator 4400
     barOpen s = true ∧ s.tmp.fuseBusy = none ∧ s.lcs.state = .integrator ∧ s.pwr.state = .ready ∧ s.tmp.locked = false ∧
      (7 : BitVec 8) ≠ 0 ∧ (7 : BitVec 8).toNat ≤ 7 ∧ burnEnergy 2 ≤ s.pwr.cap) ∧
    (2047 < 2048 ∧ (on .ready).pcie.unmasked.contains 2047 = false) ∧
    (let s := { loaded .run .active with img := { (loaded .run .active).img with cfg := some { cfg0 with mgtFlags := 15 } } }
     s.pcie.link = true ∧ ideBlocks s = true) := by
  refine ⟨by decide +kernel, by decide +kernel, ⟨wideLow.headD 0, by decide +kernel, ⟨_, rfl⟩⟩, ?_⟩
  decide +kernel

/-- FuseBurnBlowsBothFuses: the last source. -/
theorem witness_FuseBurnBlowsBothFuses :
    let s := { on .ready with tmp := { (on .ready).tmp with fuseBusy := some 7 } }
    s.tmp.fuseBusy = some 7 ∧ 1 ≤ 7 ∧ 7 ≤ 7 ∧ tgetD s.wdn.stage 1 0 ≤ s.wdn.pennant := by decide +kernel

/-- PcieEventsComplete and HostResetClosesTheHostPath: each clause. -/
theorem witness_PcieEventsComplete :
    ((State.reset).pcie.perst = false ∧ (State.reset).pwr.state = .starting ∧ (State.reset).pwr.startRun = false) ∧
    ((on .run).pcie.perst = false ∧ (on .run).pcie.link = true ∧ (on .run).pwr.state ≠ .starting) ∧
    ((on .starting).pwr.state = .starting ∧ (on .sleep).pwr.state = .sleep) ∧
    ({ on .run with pcie := { (on .run).pcie with d3hot := true } } : State).pcie.d3hot = true ∧
    ((on .run).pcie.pasidEnable = true ∧ (on .run).rqs.queues = [] ∧ (withQueue {}).rqs.queues ≠ [] ∧ (withQueue {}).pcie.link = true) ∧
    linkTrains (on .starting) = true ∧
    (let s := { loaded .run .active with
       img := { (loaded .run .active).img with cfg := some { cfg0 with mgtFlags := 15 } }
       pcie := { (loaded .run .active).pcie with keyed := true } }
     s.pcie.link = true ∧ (mgtFlags s).getLsbD 3 = true ∧ s.pcie.keyed = true) := by decide +kernel

theorem witness_HostResetClosesTheHostPath : (withQueue {}).pcie.link = true := by decide +kernel

/-- SidebandCommandsComplete: each clause, at both ends of the mailbox. -/
theorem witness_SidebandCommandsComplete :
    (smbusUp (on .sleep) = true ∧ (mgtFlags (on .sleep)).getLsbD 2 = true) ∧
    (let s := { on .ready with mgt := { (on .ready).mgt with smbAddr := 0x60 } }
     (List.replicate 8 (0 : Word)).length = 8 ∧ s.mgt.smbAddr % 4 = 0 ∧ (mgtFlags s).getLsbD 1 = true ∧
      ∀ k, k < 8 → smbusWritable (s.mgt.smbAddr + 4 * k) = true) ∧
    (let s := { on .ready with mgt := { (on .ready).mgt with smbAddr := 0x64 } }
     s.mgt.smbAddr % 4 = 0 ∧ smbusWritable (s.mgt.smbAddr + 4 * 7) = false) ∧
    (1000 ≤ 1000 ∧ (10000 ≤ 1000 ∨ true = true) ∧ (on .run).pwr.lockout = false ∧ onVin (on .run) = true ∧ (on .run).pwr.startRun = true ∧
      (on .run).log.size ≠ 0) := by decide +kernel

/-- BoundaryScanCompletes, IdcodeReads. -/
theorem witness_BoundaryScanCompletes :
    tapUp (on .ready) = true ∧ (on .ready).pwr.state ≠ .run ∧ tapUp (on .run) = true ∧ (on .run).pwr.state = .run ∧
    tapUp (on .starting) = true := by decide +kernel

/-- An authorisation for this module with the nonce that its challenge gave. -/
def authInput (nonce : Bytes) : Bytes :=
  ascii "DBGA" ++ leBytes 2 1 ++ [3, 0] ++ List.replicate 32 0 ++ nonce ++ List.replicate 4736 0

theorem auth_ok :
    authOk (authInput (freeBytes 1 32)) {} { on .ready with lcs := { (on .ready).lcs with state := .returned, dbgNonce := some 1 } } = true := by
  have h : (freeBytes 1 32).length = 32 := leBytes_length ..
  have len : (authInput (freeBytes 1 32)).length = 4808 := by
    simp only [authInput, List.length_append, List.length_replicate, List.length_cons, List.length_nil, leBytes_length, h]; rfl
  have nonce : ∀ n : Bytes, n.length = 32 → bytesAt (authInput n) 40 32 = n := by
    intro n k
    have e : authInput n = (ascii "DBGA" ++ leBytes 2 1 ++ [3, 0] ++ List.replicate 32 0) ++ (n ++ List.replicate 4736 0) := by
      simp only [authInput, List.append_assoc]
    rw [bytesAt, e, List.drop_left' (by decide +kernel), List.append_assoc, List.take_left' k]
  simp only [authOk, len, nonce _ h, beq_self_eq_true]
  rfl

/-- DebugCommandsComplete: each clause, the debug area to its last byte. -/
theorem witness_DebugCommandsComplete :
    tapUp (on .ready) = true ∧ debugIr (on .ready) = true ∧
    (let s := { on .ready with lcs := { (on .ready).lcs with state := .returned } }
     s.lcs.state = .returned ∧ (wardenCalls 1 { s with ir := 0x21 }).isSome = true) ∧
    (on .ready).lcs.state ≠ .returned ∧ authOk [] {} (on .ready) = false ∧
    (let s := inLife .maker 0
     tapUp s = true ∧ debugMaster s = true ∧ debugFails (debugBase + debugSize - 1) 1 = none ∧
      badWordIn (debugBase + debugSize - 1) 1 { s with ir := 0x30 } = none ∧ cellsWf s.mem.cells = true ∧
      debugFails (debugBase + debugSize - 1) 2 = some (debugBase + debugSize)) := by decide +kernel

/-- SupplyEventsComplete: each clause, the lockout limits and the ratings. -/
theorem witness_SupplyEventsComplete :
    ((on .off).pwr.lockout = false ∧ (on .off).pwr.state = .off ∧ (on .reserve).pwr.state = .reserve) ∧
    (let s := { on .starting with pwr := { (on .starting).pwr with startRun := false, cause := 1 } }
     s.pwr.lockout = false ∧ s.pwr.state = .starting ∧ s.pwr.startRun = false ∧ s.pwr.cause = 1) ∧
    (let s := { on .starting with fab := { (on .starting).fab with reserveLocal := [3] } }
     s.fab.reserveLocal.contains 3 = true ∧ wardenUp s = true ∧ s.kvt.vs.isSome = true ∧ waitsToEnd s = true ∧ waitsToEnd (reloadDomain 3 s) = true ∧
      (reloadDomain 3 s).fab.reserveLocal = []) ∧
    (let s := { on .run with fab := { (on .run).fab with reserveLocal := [3] } }
     s.fab.reserveLocal.contains 3 = true ∧ wardenUp s = true ∧ waitsToEnd (reloadDomain 3 s) = false) ∧
    ((8499 < 8500 ∨ 62000 < 8499) ∧ (62001 < 8500 ∨ 62000 < 62001) ∧ 65000 ≤ 65000 ∧ 4500 ≤ 4500 ∧ (125 : Int) ≤ 125 ∧ (on .run).pwr.state ≠ .off ∧
      (on .run).pwr.state ≠ .reserve ∧ (on .run).pwr.lockout = false ∧ 8500 ≤ 8500 ∧ 62000 ≤ 62000) ∧
    ({ on .run with pwr := { (on .run).pwr with lockout := true } } : State).pwr.lockout = true ∧
    ((on .reserve).pwr.state = .reserve ∧ 2499 < cutoffMv (on .reserve)) ∧ (on .run).pwr.vinValid = true := by decide +kernel

theorem witness_OnlyAnExcessRatingStops :
    (65000 < 65001 ∨ 4500 < 0 ∨ (125 : Int) < 0) ∧ (65000 < 0 ∨ 4500 < 4501 ∨ (125 : Int) < 0) ∧ (65000 < 0 ∨ 4500 < 0 ∨ (125 : Int) < 126) ∧
    exec (.vinLockout 65000 4500 125) (on .run) ≠ .fault .beyondAbsoluteMaximum := by
  refine ⟨by decide, by decide, by decide, ?_⟩
  intro h; cases h

/-- A charger with a cell of 1000 mAh in a phase, at 25 degrees. -/
def charging (phase steps : Nat) (temp : Int) (fault : BitVec 8) (absent : Bool) : State :=
  let s := on .run
  { s with
    mtime := 600000000000
    pwr := { s.pwr with
      profile := some { rated := 1000, maxCharge := 500, cv := 4200, cutoff := 3000, tLow := 0, tHigh := 45, ntcR25 := 10, term := 50 }
      phase := phase, steps := steps, cellTemp := temp, ccTemp := 400, fault := fault, absent := absent, cellMv := 3700 } }

/-- ChargerEventsComplete: each clause. -/
theorem witness_ChargerEventsComplete :
    (∃ p, (charging 2 0 400 0 false).pwr.profile = some p ∧ (charging 2 0 400 0 false).pwr.state ≠ .off ∧
      ntcFault p 50001 = some 2 ∧ ntcFault p 19 = some 3 ∧ ntcFault p 50000 = none ∧ ntcFault p 20 = none ∧
      inWindow p 720 = true ∧ inWindow p 721 = false ∧ inWindow p 0 = true ∧ inWindow p (-1) = false ∧
      (charging 2 2 400 0 false).pwr.ccTemp + 80 < 481 ∧ (charging 2 2 400 0 false).pwr.steps < 3 ∧
      (charging 2 2 400 0 false).pwr.stepAt + 120000000000 ≤ (charging 2 2 400 0 false).mtime) ∧
    (let s := charging 2 1 447 0 false
     s.pwr.phase = 2 ∧ 0 < s.pwr.steps ∧ s.pwr.cellTemp < s.pwr.ccTemp + 48 ∧ s.pwr.stepAt + 600000000000 ≤ s.mtime ∧ s.pwr.vinValid = true) ∧
    ((charging 1 0 400 0 false).pwr.phase = 1 ∧ (charging 3 0 400 0 false).pwr.phase = 3) ∧
    (let s := charging 0 0 400 4 false
     s.pwr.fault.toNat % 8 ≠ 0 ∧ s.pwr.absent = false ∧ 65535 < 65536) ∧
    (let s := charging 0 0 400 0 true
     s.pwr.absent = true ∧ 1500 ≤ 1500 ∧ 1500 < 65536) ∧
    (let s := { charging 2 0 400 0 false with pwr := { (charging 2 0 400 0 false).pwr with qest := 100 } }
     s.pwr.cycleAcc + (-(-9 : Int)).toNat < s.pwr.qest / 10) := by
  refine ⟨⟨_, rfl, ?_⟩, ?_⟩ <;> decide +kernel

/-- TamperAndWardenEventsComplete: each clause. -/
theorem witness_TamperAndWardenEventsComplete :
    (10 < 11 ∧ (on .run).pwr.state ≠ .off ∧ sourceDead 10 0 (on .run) = false ∧ sourceDead 0 0 (on .reserve) = false ∧
      ¬ ((on .reserve).pwr.state = .reserve ∧ 8 = 9) ∧ (on .run).tmp.locked = false ∧ (∃ n, n < 11 ∧ responseErases n (on .run) = true)) ∧
    ({ lockedOn with tmp := { lockedOn.tmp with killRunning := true } } : State).tmp.killRunning = true ∧
    (1 ≤ 5 ∧ 5 ≤ 5 ∧ wardenUp (on .run) = true ∧ (on .run).wdn.standby = true ∧
      ({ on .run with wdn := { (on .run).wdn with standby := false } } : State).wdn.standby = false) ∧
    ({ on .run with wdn := { (on .run).wdn with failing := some true } } : State).wdn.failing = some true := by
  refine ⟨⟨by decide, by decide, by decide +kernel, by decide +kernel, by decide +kernel, by decide +kernel, 1, by decide +kernel⟩, ?_, ?_, rfl⟩ <;>
    decide +kernel

/-- A cluster member with an open session 1 to node 2, its ports up. -/
def member : State :=
  let s := withPeer (loaded .run .active)
  { s with
    fab := { s.fab with port0 := { link := true, pcs := true }, port1 := { link := true, pcs := true } }
    mem := { s.mem with trained := true } }

/-- The same with a session of other contents. -/
def memberWith (x : Session) : State := { member with fab := { member.fab with sessions := [(1, x)] } }

/-- PortAndTimeEventsComplete: each clause, an offset of 1 us and one beyond. -/
theorem witness_PortAndTimeEventsComplete :
    (1 < 2 ∧ portMode member 1 ≠ 0 ∧ wardenRuns member = true ∧ portUp member 1 = true ∧ standalone member = false) ∧
    (member.fab.ptpLocked = false ∧ ((1000 : Int).natAbs ≤ 1000) ∧ 1000 < (-1001 : Int).natAbs) ∧
    ({ member with fab := { member.fab with ptpLocked := true } } : State).fab.ptpLocked = true ∧
    ({ member with fab := { member.fab with ptpStepped := true } } : State).fab.ptpStepped = true ∧ member.fab.ptpStepped = false ∧
    (fabricUp member = true ∧ member.fab.sessions.any (fun e => !e.2.tenant && e.2.fpr == List.replicate 32 2) = false ∧
      member.fab.hs.any (fun x => x.fpr == List.replicate 32 2) = false ∧ beNat member.kvt.idFpr < beNat (List.replicate 32 (2 : Byte))) := by
  decide +kernel

/-- MessagesOfASessionComplete: each clause. -/
theorem witness_MessagesOfASessionComplete :
    (fabricUp member = true ∧ session? member 2 = none) ∧
    (let x : Session := { node := some 2, rxHigh := some 2000, rxSeen := [2000] }
     session? (memberWith x) 1 = some x ∧ replayed x 976 = true ∧ replayed x 977 = false ∧ replayed x 2000 = true) ∧
    (∃ x t, recvMsg { session := 1, message := 1, sequence := 0 } member = .inr (x, t) ∧ x.tenant = false ∧
      t.rqs.live.find? (fun r => r.phase == .forwarded && r.fwdTag == 7 && some r.owner == x.node) = none) ∧
    (let r : Req := { rid := 1, phase := .forwarded, fwdTag := 7, owner := 2 }
     let s := { member with rqs := { member.rqs with live := [r] } }
     ∃ x t, recvMsg { session := 1, message := 1, sequence := 0 } s = .inr (x, t) ∧ x.tenant = false ∧
      t.rqs.live.find? (fun r => r.phase == .forwarded && r.fwdTag == 7 && some r.owner == x.node) = some r) :=
  ⟨by decide +kernel, by decide +kernel, ⟨_, _, rfl, by decide +kernel, by decide +kernel⟩, ⟨_, _, rfl, by decide +kernel, by decide +kernel⟩⟩

/-- A peer's handshake message. -/
def goodHello : Handshake := { hid := 5, cert := { cluster := 9, ownerFpr := List.replicate 32 0, fpr := List.replicate 32 3, node := 4, notAfter := 1 } }

/-- SessionEventsComplete: each clause. -/
theorem witness_SessionEventsComplete :
    (fabricUp member = true ∧ member.fab.hs.any (fun x => !x.initiator && x.hid == goodHello.hid) = false ∧
      member.fab.hs.find? (fun x => x.initiator && x.fpr == goodHello.cert.fpr) = none ∧ member.fab.hs.length < 64 ∧
      handshakeFault goodHello goodHello.cert true false member = none ∧ (wardenCalls 1 member).isSome = true ∧
      handshakeFault { goodHello with formatOk := false } goodHello.cert true false member = some 1 ∧ 1 ≠ 8) ∧
    (let s := { member with fab := { member.fab with hs := [{ hid := 5, initiator := true, fpr := List.replicate 32 3 }] } }
     fabricUp s = true ∧ (s.fab.hs.find? (fun x => x.initiator && x.hid == goodHello.hid)).isSome = true ∧
      handshakeFault goodHello goodHello.cert true true (dropHs goodHello.hid s) = none) ∧
    (let p : Session := { node := some 4, fpr := List.replicate 32 3, notAfter := 1 }
     let s := { member with fab := { member.fab with hs := [{ hid := 5, peer := p }] } }
     (s.fab.hs.find? (fun x => !x.initiator && x.hid == goodHello.hid)).isSome = true ∧
      handshakeFault goodHello { goodHello.cert with
        formatOk := true, role := 1, cluster := clusterId s, node := 4, slice := p.slice, notBefore := p.notBefore, notAfter := p.notAfter
        ownerFpr := s.kvt.ownerFpr.getD [], fpr := p.fpr } true true (dropHs goodHello.hid s) = none) ∧
    (let x : Session := { node := some 2, unacked := [{ id := 3, ensign := true }], ackDue := true, confirmed := false }
     let s := { memberWith x with mtime := 86400000000000 }
     session? s 1 = some x ∧ x.unacked.find? (fun m => m.id == 3) = some { id := 3, ensign := true } ∧ 0 + 50000 ≤ s.mtime ∧
      x.unacked.any (fun m => m.sentAt + 1000000000 ≤ s.mtime) = true ∧ x.ackDue = true ∧ x.confirmed = false ∧ x.tenant = false ∧
      x.openedAt + 86400000000000 ≤ s.mtime) ∧
    (let s := { member with mtime := 100000000, fab := { member.fab with hs := [{ hid := 5, initiator := true }, { hid := 6 }] } }
     (s.fab.hs.find? (fun x => x.initiator && x.hid == 5)).isSome = true ∧ (s.fab.hs.find? (fun x => !x.initiator && x.hid == 6)).isSome = true ∧
      0 + 100000000 ≤ s.mtime) := by decide +kernel

/-- Domain 3 in a state at pennant 4, its owner, standby bit and standby. -/
def withDomain (st owner : Nat) (sby : Bool) (standby : Nat) : State :=
  { member with
    lku := { member.lku with domains := [(3, { pennant := 4, state := st, owner := owner, sby := sby, standby := standby })] }
    fab := { member.fab with sby := [(3, { haveSet := true, stored := 1 })] } }

/-- DomainMessagesComplete: each clause. -/
theorem witness_DomainMessagesComplete :
    (∃ x t, recvMsg { session := 1, message := 1 } (withDomain 2 2 true 1) = .inr (x, t) ∧ x.tenant = false ∧ x.node = some 2 ∧
      (domainOf t 3).pennant < 5 ∧ some 1 = (writeStandby 3 1 (learnPeer 3 2 5 2 t)).fab.nodeId ∧ some 7 ≠ (writeStandby 3 7 (learnPeer 3 2 5 2 t)).fab.nodeId ∧
      (domainOf t 3).state = 2 ∧ (domainOf t 3).owner = 2 ∧ (domainOf t 3).sby = true ∧ t.fab.nodeId = some (domainOf t 3).standby ∧
      (domainOf t 3).pennant ≤ 4 ∧ (tgetD t.fab.sby 3 {}).haveSet = true ∧ snapshotFits t [] = true ∧ snapshotFits t [{ handle := 1, largeLines := 16384 }] = false ∧
      mayTake t 3 = true ∧ fabricUp (withDomain 2 2 true 1) = true ∧ (domainOf (withDomain 2 2 true 1) 3).state = 2) ∧
    (let s := { withDomain 2 2 true 1 with fab := { (withDomain 2 2 true 1).fab with sby := [] } }
     ∃ x t, recvMsg { session := 1, message := 1 } s = .inr (x, t) ∧ (domainOf t 3).pennant < 5 ∧
      some 1 = (writeStandby 3 1 (learnPeer 3 2 5 2 t)).fab.nodeId ∧
      (tgetD (writeStandby 3 1 (learnPeer 3 2 5 2 t)).fab.sby 3 {}).haveSet = false) ∧
    (∃ x t, recvMsg { session := 1, message := 1 } (withDomain 1 1 true 2) = .inr (x, t) ∧ x.node = some 2 ∧
      (domainOf t 3).state = 1 ∧ (domainOf t 3).sby = true ∧ (domainOf t 3).standby = 2) :=
  ⟨⟨_, _, rfl, by decide +kernel⟩, ⟨_, _, rfl, by decide +kernel⟩, ⟨_, _, rfl, by decide +kernel⟩⟩

/-- LivenessEventsComplete: each clause. -/
theorem witness_LivenessEventsComplete :
    (∃ x t, recvFrame { session := 1 } member = .inr (x, t) ∧ x.tenant = false ∧ (0 : BitVec 8).getLsbD 3 = false ∧ (0 : BitVec 8).getLsbD 4 = false ∧
      2 ≠ 0xFFFE ∧ some 2 ≠ t.fab.nodeId) ∧
    (∃ x t, recvFrame { session := 1 } (memberWith { tenant := true }) = .inr (x, t) ∧ x.tenant = true) ∧ fabricUp member = true ∧
    (∀ m, m = 1 ∨ m = 2 →
      let s := { member with mtime := 30000000, lku := { member.lku with peers := [(2, { state := 1, missed := m, path0 := true, path1 := true })] } }
      (peerOf s 2).state = 1 ∧ wardenRuns s = true ∧ (peerOf s 2).last + 10000000 * ((peerOf s 2).missed + 1) ≤ s.mtime ∧ (peerOf s 2).missed = m ∧
      (peerOf s 2).path0 = true ∧ (peerOf s 2).last0 + 30000000 ≤ s.mtime ∧ (peerOf s 2).path1 = true ∧ (peerOf s 2).last1 + 30000000 ≤ s.mtime) ∧
    (∀ f, f = some 7 ∨ f = none →
      let s := { member with mtime := 100000000, fab := { member.fab with nodeId := none, nodeFlash := f } }
      fabricUp s = true ∧ s.fab.nodeId = none ∧ s.fab.tentative = none ∧
      s.fab.sessions.any (fun e => !e.2.tenant && e.2.openedAt + 100000000 ≤ s.mtime) = true ∧ s.fab.nodeFlash = f ∧ (peerOf s 7).state ≠ 1) ∧
    (let s := { member with mtime := 30000000, fab := { member.fab with nodeId := none, tentative := some 7 } }
     s.fab.tentative = some 7 ∧ fabricUp s = true ∧ s.fab.tentativeAt + 30000000 ≤ s.mtime) := by
  refine ⟨⟨_, _, rfl, by decide +kernel⟩, ⟨_, _, rfl, by decide +kernel⟩, by decide +kernel, ?_, ?_, by decide +kernel⟩
  · rintro m (rfl | rfl) <;> decide +kernel
  · rintro f (rfl | rfl) <;> decide +kernel

/-- StepRunsTheFrontCommand, CommandsLeaveTheQueue, StepKeepsMemoryCanonical, FusesNeverReturnToZero: a step from a state with a command
in front, and one more behind it. -/
theorem witness_StepRunsTheFrontCommand :
    let s := { on .run with pending := [.idcode, .bypass] }
    s.pending = .idcode :: [.bypass] ∧ Inv s ∧ ∃ t, Steps s t ∧ exec .idcode { s with pending := [.bypass] } = .next t ∧ Reaches s t :=
  ⟨rfl, ⟨by decide +kernel, by decide +kernel⟩, _, rfl, rfl, .tail (.refl _) rfl⟩

/-- EmptyQueueLetsTimePass: OFF, RUN and RESERVE with an empty queue. -/
theorem witness_EmptyQueueLetsTimePass :
    (on .off).pending = [] ∧ (on .off).pwr.state = .off ∧ (on .run).pwr.state ≠ .off ∧ (on .run).pwr.state ≠ .reserve ∧
    (on .reserve).pwr.state = .reserve ∧ (on .reserve).frac < 128 ∧ (on .reserve).mtime + ((on .reserve).frac + 3906250) / 128 < 2 ^ 64 := by
  decide +kernel

/-- The frame statements: a command of each kind answers a next state. -/
theorem witness_FrameOfRequestCommands :
    executes (.echo 7 none) = some 7 ∧
    (∃ t, exec (.echo 7 none) (atSeq 0x5001 1 0 none none 0 64 (List.replicate 64 0)) = .next t) ∧
    (atSeq 0x5001 1 0 none none 0 64 (List.replicate 64 0)).mem.wf = true := ⟨rfl, ⟨_, rfl⟩, by decide +kernel⟩

theorem witness_FrameOfLookupCommands : ∃ t, exec (.lkuTrieSearch 0 false) (on .ready) = .next t := ⟨_, rfl⟩

theorem witness_FrameOfChargerEvents : ∃ t, exec .prechargeTimeout (charging 1 0 400 0 false) = .next t := ⟨_, rfl⟩

theorem witness_FrameOfEntropyEvents : ∃ t, exec .seedBlockClose (withSource {} {} 31 768) = .next t := ⟨_, rfl⟩

/-- HostCompletionIsWrittenInOrder and NoDmaNoFetch: a finished request of the last entry of a queue, with and without DMA. -/
theorem witness_HostCompletionIsWrittenInOrder :
    (∀ out, out = [] ∨ out = [(1 : Byte)] →
      let x : Result := { output := out }
      let r : Req := { rid := 1, phase := .waitWrite, result := some x, desc := { flags := 2 } }
      let q : Queue := { cqTail := 63, reserved := 1 }
      let s := { withQueue q with rqs := { (withQueue q).rqs with live := [r] } }
      findReq s 1 = some r ∧ r.origin = .host 0 ∧ r.result = some x ∧ queue? s r.slice 0 = some q ∧ queueDma s = true ∧
        r.desc.noIrq = true ∧ x.written = out) ∧
    (let s := { on .run with pcie := { (on .run).pcie with credits := false } }
     queueDma s = false ∧ s.pcie.credits = false) := by
  refine ⟨?_, by decide +kernel⟩
  rintro out (rfl | rfl) <;> decide +kernel

/-- RepeatedEventsShareOneRecord: the record's last count, and another event after it. -/
theorem witness_RepeatedEventsShareOneRecord :
    (let r : LogRec := { typ := 0x301, count := 65535, payload := padWords [0] }
     let l : Log := { size := 4096, main := [r], used := 64 }
     let e : LogEvent := { typ := 0x301, payload := [0] }
     l.full = false ∧ l.main = r :: [] ∧ r.replayed = false ∧ r.typ = e.typ ∧ r.payload = padWords e.payload ∧ r.count = 65535 ∧
      0x301 ≠ ({ typ := 0x302, payload := [0] } : LogEvent).typ ∧ l.used + recBytes [0] + 64 ≤ l.size) := by decide +kernel

/-- CheckValuesOfKeys: a key of each algorithm, and KEY_INFO of one. -/
theorem witness_CheckValuesOfKeys :
    (key 1 "P0TB" 128 "E" 0 (List.replicate 16 7) 1 0).alg = chr "T" ∧ (key 1 "D0AB" 128 "E" 0 (List.replicate 16 7) 1 0).alg = chr "A" ∧
    (key 1 "M7HG" 128 "E" 1 (List.replicate 16 7) 1 0).alg = chr "H" ∧
    (let s := atSeq 0x0805 1 0 (some (key 1 "D0AB" 128 "E" 0 (List.replicate 16 7) 1 0)) none 0 21 []
     AtCommand 0x0805 noPre s 7 (reqOf s) (fetched 0x0805 s).1 (drawn 0x0805 s) ∧
      (fetched 0x0805 s).1.a = some (key 1 "D0AB" 128 "E" 0 (List.replicate 16 7) 1 0) ∧
      (key 1 "D0AB" 128 "E" 0 (List.replicate 16 7) 1 0).symmetric = true) :=
  ⟨by decide +kernel, by decide +kernel, by decide +kernel, at_command (by decide +kernel), rfl, by decide +kernel⟩

/-- StartEndsInRunOrReady: a start that waits for its end, with and without an image. -/
theorem witness_StartEndsInRunOrReady : waitsToEnd (on .starting) = true ∧ waitsToEnd (loaded .starting .active) = true := by decide +kernel

theorem fit_self {n : Nat} {l : Bytes} (h : l.length = n) : fit n l = l := by
  rw [fit, List.take_append_of_le_length (by omega), List.take_of_length_le (by omega)]

theorem bytesAt_append {a b c : Bytes} {i n : Nat} (h : a.length = i) (k : b.length = n) : bytesAt (a ++ (b ++ c)) i n = b := by
  rw [bytesAt, List.drop_left' h, List.append_assoc, List.take_left' k]

theorem input_from_host {d : Desc} {env : LaunchEnv} {s : State} {inp : Bytes} (e : env.hostIn = some inp) (n : d.inLen.toNat = inp.length)
    (h0 : inp.length ≠ 0) (h1 : d.inline = false) (h2 : inBuf d.inAddr.toNat = false) (h3 : canDma s = true) : mgtInput d env s = some inp := by
  simp [mgtInput, n, h0, h1, h2, h3, e, fit_self]

/-- The input of a VAULT_RESEAL COMMIT over two measurements. -/
def commitBytes (w u : Bytes) : Bytes :=
  (ascii "RSAL" ++ leBytes 2 1 ++ List.replicate 34 0) ++ (fit 48 w ++ (fit 48 u ++ (leBytes 4 0 ++ (leBytes 4 0 ++ List.replicate 4728 0))))

/-- Its launch. -/
def commitLaunch (w u : Bytes) : Launch where
  desc := { inLen := 4872, inAddr := 0x1000 }
  env := { hostIn := some (commitBytes w u) }

/-- A module with a staged bundle. -/
def staged : State := { on .ready with kvt := { (on .ready).kvt with fwBytes := [1] } }

theorem commit_taken (w u : Bytes) :
    MailboxTakes 0x6012 (withOp 16 2 (commitLaunch w u)) staged (commitBytes w u) (atMailbox 0x6012 (withOp 16 2 (commitLaunch w u)) staged) := by
  have len : (commitBytes w u).length = 4872 := by
    simp only [commitBytes, List.length_append, List.length_replicate, leBytes_length, fit_length]; rfl
  have zero : bytesAt (commitBytes w u) 140 4 = leBytes 4 0 := by
    have e : commitBytes w u = ((ascii "RSAL" ++ leBytes 2 1 ++ List.replicate 34 0) ++ fit 48 w ++ fit 48 u ++ leBytes 4 0) ++
        (leBytes 4 0 ++ List.replicate 4728 0) := by simp only [commitBytes, List.append_assoc]
    rw [e]
    exact bytesAt_append (by simp only [List.length_append, List.length_replicate, leBytes_length, fit_length]; rfl) (leBytes_length ..)
  have t1 : ((commitBytes w u).take 4 == ascii "RSAL") = true := rfl
  have t2 : (fld (commitBytes w u) 4 2 == 1) = true := rfl
  have t3 : isZero (commitBytes w u) 6 2 = true := rfl
  have t4 : isZero (commitBytes w u) 140 4 = true := by rw [isZero, fld, zero]; rfl
  refine ⟨free_of rfl, ?_, rfl, ?_, ?_, ?_⟩
  · show mgtCheck .bar0 (launched 0x6012 (withOp 16 2 { desc := { inLen := 4872, inAddr := 0x1000 } }))
      (atMailbox 0x6012 (withOp 16 2 { desc := { inLen := 4872, inAddr := 0x1000 } }) staged) = none
    decide +kernel
  · exact input_from_host rfl (len ▸ rfl) (by rw [len]; decide)
      (show Desc.inline (launched 0x6012 (withOp 16 2 { desc := { inLen := 4872, inAddr := 0x1000 } })) = false by decide +kernel)
      (show inBuf (Desc.inAddr (launched 0x6012 (withOp 16 2 { desc := { inLen := 4872, inAddr := 0x1000 } }))).toNat = false by decide +kernel) (show canDma staged = true by decide +kernel)
  · show resealBad _ _ = none
    have p : ¬ (launched 0x6012 (withOp 16 2 (commitLaunch w u))).p % 16 = 1 := by
      show ¬ (launched 0x6012 (withOp 16 2 { desc := { inLen := 4872, inAddr := 0x1000 } })).p % 16 = 1
      decide +kernel
    simp only [resealBad, p, if_false, t1, t2, t3, t4]
    rfl
  · show mgtTurnedAway (launched 0x6012 (withOp 16 2 { desc := { inLen := 4872, inAddr := 0x1000 } }))
      (atMailbox 0x6012 (withOp 16 2 { desc := { inLen := 4872, inAddr := 0x1000 } }) staged) = false
    decide +kernel

/-- OwnerAndVaultCommandsComplete: COMMIT of a staged bundle whose measurements the authorisation names. -/
theorem witness_OwnerAndVaultCommandsComplete_commit :
    ∃ inp u ver mW mU v l, MailboxTakes 0x6012 (withOp 16 2 l) staged inp u ∧ Config.bundleOf u.kvt.fwBytes = (ver, mW, mU) ∧
      u.kvt.fwBytes ≠ [] ∧ signed l.env.bundle = true ∧ signed l.env.sig = true ∧ boundHere u (bytesAt inp 8 32) = true ∧
      bytesAt inp 40 48 = fit 48 mW ∧ bytesAt inp 88 48 = fit 48 mU ∧ u.kvt.fw.version ≤ ver ∧ u.kvt.vs = some v := by
  refine ⟨_, _, (Config.bundleOf [1]).1, (Config.bundleOf [1]).2.1, (Config.bundleOf [1]).2.2, 0,
    commitLaunch (Config.bundleOf [1]).2.1 (Config.bundleOf [1]).2.2, commit_taken _ _, rfl, List.cons_ne_nil _ _, rfl, rfl, by decide +kernel,
    ?_, ?_, Nat.zero_le _, rfl⟩
  · exact bytesAt_append (by simp only [List.length_append, List.length_replicate, leBytes_length]; rfl) (fit_length ..)
  · have e : ∀ w u, commitBytes w u = ((ascii "RSAL" ++ leBytes 2 1 ++ List.replicate 34 0) ++ fit 48 w) ++
        (fit 48 u ++ (leBytes 4 0 ++ (leBytes 4 0 ++ List.replicate 4728 0))) := by intro w u; simp only [commitBytes, List.append_assoc]
    rw [e]
    exact bytesAt_append (by simp only [List.length_append, List.length_replicate, leBytes_length, fit_length]; rfl) (fit_length ..)

-- An image ------------------------------------------------------------------------------------------------------------------------

theorem bytesAt_skip {a b : Bytes} {i n : Nat} (h : a.length ≤ i) : bytesAt (a ++ b) i n = bytesAt b (i - a.length) n := by
  simp only [bytesAt, List.drop_append, List.drop_of_length_le h, List.nil_append]

theorem bytesAt_inside {a b : Bytes} {i n : Nat} (h : i + n ≤ a.length) : bytesAt (a ++ b) i n = bytesAt a i n := by
  have k : (a.drop i).length = a.length - i := List.length_drop ..
  simp only [bytesAt, List.drop_append_of_le_length (show i ≤ a.length by omega), List.append_assoc]
  rw [List.take_append_of_le_length (by omega), List.take_append_of_le_length (by omega)]

/-- Tenant entry 0, enabled for its host with one queue, and the other ones, disabled (**R39**, **R40**). -/
def entry (n : Nat) : Bytes :=
  if n = 0 then [0, 0x23] ++ leBytes 2 1 ++ List.replicate 8 0 ++ leBytes 2 16 ++ leBytes 2 1 ++ [1, 6] ++ List.replicate 14 0
  else BitVec.ofNat 8 n :: List.replicate 31 0

theorem entry_length (n : Nat) : (entry n).length = 32 := by
  unfold entry
  split
  · decide +kernel
  · simp

/-- Entries from one on. -/
def entries : Nat → Nat → Bytes
  | _, 0 => []
  | a, k + 1 => entry a ++ entries (a + 1) k

theorem entries_at : ∀ (n a k j m : Nat), n < k → j + m ≤ 32 → bytesAt (entries a k) (32 * n + j) m = bytesAt (entry (a + n)) j m
  | 0, a, k + 1, j, m, _, h => by
    rw [entries, show 32 * 0 + j = j by omega, bytesAt_inside (by rw [entry_length]; exact h)]; rfl
  | n + 1, a, k + 1, j, m, h, g => by
    rw [entries, bytesAt_skip (by rw [entry_length]; omega), entry_length, show 32 * (n + 1) + j - 32 = 32 * n + j by omega,
      entries_at n (a + 1) k j m (by omega) g, show a + 1 + n = a + (n + 1) by omega]

/-- The tenant section. -/
def tenantSection : Bytes := entries 0 256

theorem tenant_field (n j m : Nat) (h : n < 256) (g : j + m ≤ 32) : bytesAt tenantSection (32 * n + j) m = bytesAt (entry n) j m := by
  have e := entries_at n 0 256 j m h g
  rwa [Nat.zero_add] at e

theorem entries_length : ∀ a k, (entries a k).length = 32 * k
  | _, 0 => rfl
  | a, k + 1 => by rw [entries, List.length_append, entry_length, entries_length (a + 1) k]; omega

/-- The sections before the tenants (**R36**-**R38**): every pool shared. -/
def front : List Bytes :=
  [[1, 0, 48, 0, 0, 0, 0, 0] ++ [2, 0, 16, 0, 0, 0, 0, 0] ++ [3, 0, 8, 0, 0, 0, 0, 0] ++ [4, 0, 64, 0, 0, 0, 0, 0] ++ [5, 0, 32, 0, 0, 0, 0, 0] ++
     [6, 0, 16, 0, 0, 0, 0, 0] ++ [7, 0, 4, 0, 0, 0, 0, 0],
   leBytes 2 25 ++ [1, 1] ++ leBytes 2 1 ++ List.replicate 26 0]

/-- The sections after them (**R42**-**R49**): no PASID, no cluster, a plan of the whole vault. -/
def back : List Bytes :=
  [List.replicate 8 0,
   ([(1, 0, 2048), (2, 2048, 24576), (3, 26624, 4096), (4, 0, 0), (5, 30720, 64), (6, 30784, 1984)] : List (Nat × Nat × Nat)).flatMap fun e =>
     leBytes 4 e.1 ++ leBytes 4 e.2.1 ++ leBytes 4 e.2.2 ++ List.replicate 4 0,
   List.replicate 12 0 ++ leBytes 2 48710 ++ leBytes 2 35 ++ List.replicate 72 0 ++ [0xFF, 0xFF] ++ List.replicate 38 0,
   leBytes 4 0x15403F ++ List.replicate 28 0,
   [1, 0] ++ leBytes 2 1000 ++ leBytes 2 100 ++ leBytes 2 4200 ++ leBytes 2 3000 ++ [0, 45] ++ leBytes 2 10 ++ leBytes 2 3000 ++ leBytes 2 10 ++
     List.replicate 14 0,
   [1, 16, 8, 0, 1, 2, 3] ++ List.replicate 13 4 ++ leBytes 4 65536 ++ List.replicate 8 0, [0x5A, 7] ++ List.replicate 30 0]

/-- The ten sections. -/
def sections : List Bytes := front ++ tenantSection :: back

/-- The section table from an entry and an offset (**R33**). -/
def tableFrom : List Bytes → Nat → Nat → Bytes
  | [], _, _ => []
  | s :: r, i, o => leBytes 4 i ++ leBytes 4 o ++ leBytes 4 s.length ++ List.replicate 4 0 ++ tableFrom r (i + 1) (o + s.length)

/-- Header, table and first sections (**R32**, **R33**). -/
def imageHead : Bytes :=
  leBytes 4 0x5A41554C ++ leBytes 2 1 ++ leBytes 2 0x80 ++ leBytes 4 13656 ++ leBytes 4 10 ++ List.replicate 10 0 ++ leBytes 2 2 ++
  List.replicate 100 0 ++ tableFrom sections 1 0x120 ++ front.flatten

/-- The image: header, table, sections, signature block. -/
def image : Bytes := imageHead ++ (tenantSection ++ (back.flatten ++ List.replicate 4728 0))

theorem firstOff_append {a b : List (Bool × Nat)} (h : firstOff a = none) : firstOff (a ++ b) = firstOff b := by
  induction a with
  | nil => rfl
  | cons x r k =>
    obtain ⟨ok, off⟩ := x
    cases ok
    · exact absurd h (by simp [firstOff])
    · simpa [firstOff] using k (by simpa [firstOff] using h)

theorem firstOff_flatMap {l : List Nat} {f : Nat → List (Bool × Nat)} (h : ∀ n ∈ l, firstOff (f n) = none) : firstOff (l.flatMap f) = none := by
  induction l with
  | nil => rfl
  | cons a r k =>
    rw [List.flatMap_cons, firstOff_append (h a (List.mem_cons_self ..))]
    exact k fun n m => h n (List.mem_cons_of_mem _ m)

theorem tenants_ok (n : Nat) (h : n < 256) : firstOff (tenantTests tenantSection n) = none := by
  have e : bytesAt tenantSection (32 * n) 32 = entry n :=
    (tenant_field n 0 32 h (by omega)).trans (by rw [bytesAt, List.drop_zero]; exact fit_self (entry_length n))
  simp only [tenantTests, e]
  clear e
  revert n
  decide +kernel

theorem only_tenant : (List.range 256).filter (fun n => fld tenantSection (32 * n + 1) 1 % 2 == 1) = [0] := by
  have e : ∀ n ∈ List.range 256, (fld tenantSection (32 * n + 1) 1 % 2 == 1) = (fld (entry n) 1 1 % 2 == 1) := by
    intro n h
    rw [fld, tenant_field n 1 1 (List.mem_range.mp h) (by omega)]; rfl
  rw [List.filter_congr e]
  decide +kernel

theorem image_length : image.length = 13656 := by decide +kernel

theorem walk_step {raw s : Bytes} {r : List Bytes} {stop k i pos len : Nat}
    (h : fld raw (0x80 + 16 * i) 2 = i + 1 ∧ fld raw (0x80 + 16 * i + 4) 4 = pos ∧ pos % 8 = 0 ∧ fld raw (0x80 + 16 * i + 8) 4 = len ∧
      len = sectionLen raw (i + 1) pos ∧ pos + len ≤ stop)
    (b : bytesAt raw pos len = s) (t : sectionWalk raw stop k (i + 1) (pos + len) = some r) :
    sectionWalk raw stop (k + 1) i pos = some (s :: r) := by
  obtain ⟨h1, h2, h3, h4, h5, h6⟩ := h
  rw [sectionWalk]
  simp only [h1, h2, h3, h4, h6, true_and, and_true]
  rw [if_pos h5, t, b]

theorem tenants_placed : bytesAt image 0x178 8192 = tenantSection := bytesAt_append (by decide +kernel) (entries_length 0 256)

theorem image_sections : sectionWalk image (13656 - sigBlock) 10 0 0x120 = some sections :=
  walk_step (len := 56) (by decide +kernel) (by decide +kernel) <|
  walk_step (len := 32) (by decide +kernel) (by decide +kernel) <|
  walk_step (len := 8192) (by decide +kernel) tenants_placed <| by decide +kernel

/-- The module that the image is staged in. -/
def imageStaged : State :=
  let s := on .ready
  { s with img := { s.img with staged := true, slotB := { len := 13656, crcOk := true, content := image } } }

theorem image_head : headCheck (acceptCtx imageStaged) {} 13656 image = .inr (image, sections) := by
  have t : image.take (fld image 8 4) = image := by
    rw [show fld image 8 4 = 13656 by decide +kernel]
    exact List.take_of_length_le (by rw [image_length])
  simp only [headCheck, t]
  rw [show fld image 8 4 = 13656 by decide +kernel, image_sections, image_length]
  generalize hf : firstOff _ = o
  have ho : o = none := by rw [← hf]; decide +kernel
  subst ho
  rfl

theorem tenants_all : firstOff ((List.range 256).flatMap (tenantTests tenantSection)) = none :=
  firstOff_flatMap fun n h => tenants_ok n (List.mem_range.mp h)

theorem fields_of {raw : Bytes} {l : List Bytes} {d : Nat} (h0 : firstOff (headerTests raw) = none)
    (h1 : firstOff (partitionTests (l.getD 0 [])) = none) (h2 : firstOff (classTests (l.getD 1 [])) = none)
    (h3 : firstOff ((List.range 256).flatMap (tenantTests (l.getD 2 []))) = none) (h4 : firstOff (pasidTests (l.getD 3 [])) = none)
    (h5 : firstOff (planTests (l.getD 4 []) (fld (l.getD 5 []) 0 8)) = none) (h6 : firstOff (fabricTests (l.getD 5 [])) = none)
    (h7 : firstOff (tamperTests (l.getD 6 []) d) = none) (h8 : firstOff (profileTests (l.getD 7 [])) = none)
    (h9 : ∀ b, firstOff (entropyTests (l.getD 8 []) b) = none) (h10 : firstOff (pathTests (l.getD 9 [])) = none) : fieldBad raw l d = none := by
  simp only [fieldBad, List.findSome?_cons, List.findSome?_nil, Nat.sub_self, Nat.reduceSub, h0, h1, h2, h3, h4, h5, h6, h7, h8, h9, h10,
    Option.map_none]

theorem image_fields : fieldBad image sections 0 = none :=
  fields_of (by decide +kernel) (by decide +kernel) (by decide +kernel) tenants_all (by decide +kernel) (by decide +kernel) (by decide +kernel)
    (by decide +kernel) (by decide +kernel) (by decide +kernel) (by decide +kernel)

theorem image_tenants : (imageCfg image sections).tenants = [(0, tenantCfg tenantSection 0)] := by
  show ((List.range 256).filter fun n => fld tenantSection (32 * n + 1) 1 % 2 == 1).map (fun n => (n, tenantCfg tenantSection n)) = _
  rw [only_tenant]; rfl

theorem content_of {raw : Bytes} {l : List Bytes} {d : Nat} {t : Tenant} (f : fieldBad raw l d = none) (p : partitionBad (imageCfg raw l) = none)
    (q : (imageCfg raw l).pasids = []) (r : planBad ((List.range 6).map fun i => fld (l.getD 4 []) (16 * i) 1) (imageCfg raw l).plan = none)
    (k : (imageCfg raw l).tenants = [(0, t)]) : contentCheck raw l d = .inr (imageCfg raw l) := by
  simp only [contentCheck, f, p, q, r, k, pasidBad, msixBad, List.any_nil, Bool.false_eq_true, if_false]

theorem image_content : contentCheck image sections 0 = .inr (imageCfg image sections) :=
  content_of image_fields (by decide +kernel) (by decide +kernel) (by decide +kernel) image_tenants

theorem check_of {x : AcceptCtx} {e : SlotEnv} {z : Slot} {raw : Bytes} {l : List Bytes} {c : ImageCfg} (k : z.crcOk = true)
    (h : headCheck x e z.len z.content = .inr (raw, l)) (g : contentCheck raw l x.disabled = .inr c) : checkImage x e z = .inr c := by
  simp [checkImage, k, h, g]

theorem image_accepted :
    checkImage (acceptCtx imageStaged) {} { len := 13656, crcOk := true, content := image } = .inr (imageCfg image sections) :=
  check_of rfl image_head (by rw [show (acceptCtx imageStaged).disabled = 0 by decide +kernel]; exact image_content)

/-- ImageCommandsComplete: the activation of a staged image that passes every check. -/
theorem witness_ImageCommandsComplete_activate :
    ∃ c t, Taken 0x6003 (launchOf 0 0 0 0 0 [] 0) imageStaged (fun _ u =>
      checkImage (acceptCtx u) { flashOk := true, sig := {} } (slotOf u (!u.img.slotActive)) = .inr c ∧
        resealStaged (!u.img.slotActive) (latchAll 5 u) = some t) :=
  ⟨_, _, taken (by decide +kernel) ⟨image_accepted, rfl⟩⟩

-- A blob --------------------------------------------------------------------------------------------------------------------------

theorem shaRound_length (b0 b1 : BitVec 64 → BitVec 64) (l : List (BitVec 64)) (k : BitVec 64 × BitVec 64) : (shaRound b0 b1 l k).length = l.length := by
  unfold shaRound; split <;> simp

theorem shaRounds_length (b0 b1 : BitVec 64 → BitVec 64) (ks : List (BitVec 64 × BitVec 64)) (l : List (BitVec 64)) :
    (ks.foldl (shaRound b0 b1) l).length = l.length := by
  induction ks generalizing l with
  | nil => rfl
  | cons k r h => rw [List.foldl_cons, h, shaRound_length]

theorem sha512_fold (l : List Bytes) (h : List (BitVec 64)) : (l.foldl sha512Compress h).length = h.length := by
  induction l generalizing h with
  | nil => rfl
  | cons b r k => rw [List.foldl_cons, k, sha512Compress, List.length_zipWith, shaRounds_length, Nat.min_self]

theorem flat_dwords (l : List (BitVec 64)) : (l.flatMap fun x => beBytes 8 x.toNat).length = 8 * l.length := by
  induction l with
  | nil => rfl
  | cons a r h => simp only [List.flatMap_cons, List.length_append, h, beBytes_length, List.length_cons]; omega

theorem sha384_length (m : Bytes) : (sha384 m).length = 48 := by
  have k : ((chunks 8 ((sha384H.map fun h => beBytes 8 h.toNat).flatten)).map fun b => BitVec.ofNat 64 (beNat b)).length = 8 := by decide +kernel
  simp only [sha384, sha512Blocks, List.length_take, flat_dwords, sha512_fold, k]
  rfl

theorem hkdf_length (a b c : Bytes) : (hkdf a b c 32).length = 32 := by
  have k : ∀ x y, (hmac 2 x y).length = 48 := fun x y => sha384_length _
  simp only [hkdf, hkdfBlocks, List.length_take, List.length_append, k]
  rfl

theorem xor_length (a b : Bytes) : (xorBytes a b).length = min a.length b.length := List.length_zipWith

theorem chunks_even {n : Nat} (hn : 0 < n) : ∀ (k fuel : Nat) (l : Bytes), l.length = n * k → k ≤ fuel →
    (chunksN n fuel l).length = k ∧ ∀ w ∈ chunksN n fuel l, w.length = n
  | 0, fuel, l, h, _ => by
    have : l = [] := List.eq_nil_of_length_eq_zero (by omega)
    subst this
    cases fuel <;> simp [chunksN]
  | k + 1, 0, l, _, g => by omega
  | k + 1, fuel + 1, l, h, g => by
    have e : n * (k + 1) = n * k + n := Nat.mul_succ n k
    have hl : l.isEmpty = false := by cases l with
      | nil => simp at h; omega
      | cons => rfl
    have ih := chunks_even hn k fuel (l.drop n) (by rw [List.length_drop]; omega) (by omega)
    simp only [chunksN, hl, Bool.false_eq_true, if_false, List.length_cons, ih.1, List.mem_cons, true_and]
    rintro w (rfl | m)
    · rw [List.length_take]; omega
    · exact ih.2 w m

theorem words_made {nk : Nat} (hn : 0 < nk) : ∀ (n i : Nat) (rcon : Byte) (ws : List Bytes), (∀ w ∈ ws, w.length = 4) → nk ≤ ws.length →
    (aesExpand nk n i rcon ws).length = n + ws.length ∧ ∀ w ∈ aesExpand nk n i rcon ws, w.length = 4
  | 0, _, _, ws, h, _ => by simpa [aesExpand] using h
  | n + 1, i, rcon, ws, h, g => by
    have back : (ws.getD (nk - 1) []).length = 4 := by
      rw [List.getD_eq_getElem _ _ (by omega : nk - 1 < ws.length)]
      exact h _ (List.getElem_mem _)
    have prev : (ws.headD []).length = 4 := by
      cases ws with
      | nil => simp at g; omega
      | cons a r => exact h a (List.mem_cons_self ..)
    have add : ∀ (t : Bytes) (j : Nat) (rc : Byte), t.length = 4 →
        (aesExpand nk n j rc (xorBytes (ws.getD (nk - 1) []) t :: ws)).length = n + 1 + ws.length ∧
          ∀ w ∈ aesExpand nk n j rc (xorBytes (ws.getD (nk - 1) []) t :: ws), w.length = 4 := by
      intro t j rc ht
      have q := words_made hn n j rc (xorBytes (ws.getD (nk - 1) []) t :: ws) (by
        intro w m
        rcases List.mem_cons.mp m with rfl | m
        · rw [xor_length, back, ht]; rfl
        · exact h w m) (by rw [List.length_cons]; omega)
      exact ⟨by rw [q.1, List.length_cons]; omega, q.2⟩
    simp only [aesExpand]
    split
    · apply add
      split
      · rename_i a b r e
        have : ((ws.headD []).map aesSub).length = 4 := by rw [List.length_map, prev]
        rw [e] at this
        simp only [List.length_cons, List.length_append, List.length_nil] at this ⊢
        omega
      · rw [List.length_map, prev]
    · split
      · exact add _ _ _ (by rw [List.length_map, prev])
      · exact add _ _ _ prev

theorem flatten_words (l : List Bytes) (h : ∀ w ∈ l, w.length = 4) : l.flatten.length = 4 * l.length := by
  induction l with
  | nil => rfl
  | cons a r k =>
    rw [List.flatten_cons, List.length_append, h a (List.mem_cons_self ..), k fun w m => h w (List.mem_cons_of_mem _ m), List.length_cons]
    omega

theorem round_keys {k : Bytes} (h : k.length = 32) : (aesRoundKeys k).length = 15 ∧ ∀ w ∈ aesRoundKeys k, w.length = 16 := by
  have a := chunks_even (n := 4) (by decide) 8 k.length k (by omega) (by omega)
  have b := words_made (nk := 8) (by decide) 52 8 1 (chunks 4 k).reverse (fun w m => a.2 w (List.mem_reverse.mp m))
    (by rw [List.length_reverse]; exact Nat.le_of_eq a.1.symm)
  have c : (aesExpand 8 52 8 1 (chunks 4 k).reverse).flatten.length = 16 * 15 := by
    rw [flatten_words _ b.2, b.1, List.length_reverse, show (chunks 4 k).length = 8 from a.1]
  have d := chunks_even (n := 16) (by decide) 15 ((aesExpand 8 52 8 1 (chunks 4 k).reverse).flatten.length) _ c (by rw [c]; decide)
  have e : aesRoundKeys k = chunks 16 (aesExpand 8 52 8 1 (chunks 4 k).reverse).flatten := by
    simp only [aesRoundKeys, h, Nat.reduceDiv, Nat.reduceAdd, Nat.reduceMul, Nat.reduceSub]
  rw [e]
  exact d

theorem rounds_length : ∀ (ks : List Bytes) (s : Bytes), ks ≠ [] → (∀ w ∈ ks, w.length = 16) → (aesEncRounds ks s).length = 16
  | [], _, h, _ => absurd rfl h
  | [k], s, _, h => by
    rw [aesEncRounds, xor_length, h k (List.mem_cons_self ..)]; rfl
  | k :: l :: ks, s, _, h => by
    rw [aesEncRounds]
    · exact rounds_length (l :: ks) _ (List.cons_ne_nil _ _) fun w m => h w (List.mem_cons_of_mem _ m)
    · exact List.cons_ne_nil _ _

theorem aes_block {k : Bytes} (h : k.length = 32) (b : Bytes) : (aesEnc k b).length = 16 := by
  obtain ⟨n, m⟩ := round_keys h
  unfold aesEnc
  match e : aesRoundKeys k with
  | [] => rw [e] at n; cases n
  | a :: r =>
    rw [e] at n m
    have : r ≠ [] := by rintro rfl; cases n
    exact rounds_length r _ this fun w x => m w (List.mem_cons_of_mem _ x)


/-- Lists of pieces: all of 16 bytes but the last, which has 1 to 16. -/
def Pieces : List Bytes → Prop
  | [] => True
  | [a] => 0 < a.length ∧ a.length ≤ 16
  | a :: b :: r => a.length = 16 ∧ Pieces (b :: r)

theorem pieces_cut : ∀ (l : List Bytes) (fuel : Nat), Pieces l → l.length ≤ fuel → chunksN 16 fuel l.flatten = l
  | [], fuel, _, _ => by cases fuel <;> rfl
  | [a], fuel, h, g => by
    obtain ⟨h, k⟩ := h
    match fuel, g with
    | n + 1, _ =>
      have : a.isEmpty = false := by cases a with | nil => simp at h | cons => rfl
      simp only [List.flatten_cons, List.flatten_nil, List.append_nil, chunksN, this, Bool.false_eq_true, if_false]
      rw [List.take_of_length_le k, List.drop_of_length_le k]
      cases n <;> rfl
  | a :: b :: r, fuel, h, g => by
    obtain ⟨h, k⟩ := h
    match fuel, g with
    | n + 1, g =>
      have : (a ++ (b :: r).flatten).isEmpty = false := by cases a with | nil => simp at h | cons => rfl
      rw [List.flatten_cons]
      simp only [chunksN, this, Bool.false_eq_true, if_false]
      rw [List.take_left' h, List.drop_left' h, pieces_cut (b :: r) n k (by simpa using g)]

theorem pieces_length : ∀ l : List Bytes, Pieces l → l.length ≤ l.flatten.length
  | [], _ => Nat.le_refl _
  | [a], h => by simp only [List.flatten_cons, List.flatten_nil, List.append_nil, List.length_cons, List.length_nil]; exact h.1
  | a :: b :: r, h => by
    have := pieces_length (b :: r) h.2
    rw [List.flatten_cons, List.length_append, List.length_cons]
    have := h.1
    omega

theorem xor_twice : ∀ b k : Bytes, b.length ≤ k.length → xorBytes (xorBytes b k) k = b
  | [], _, _ => rfl
  | _ :: _, [], h => by simp at h
  | a :: b, c :: k, h => by
    have := xor_twice b k (by simpa using h)
    simp only [xorBytes, List.zipWith_cons_cons] at this ⊢
    rw [this, BitVec.xor_assoc, BitVec.xor_self, BitVec.xor_zero]

theorem counter_mode (c : Cipher) (iv : Bytes) (e : ∀ b, (c.enc b).length = 16) : ∀ (l : List Bytes) (n : Nat), Pieces l →
    Pieces (gcmCtr c iv n l) ∧ (gcmCtr c iv n l).flatten.length = l.flatten.length ∧ gcmCtr c iv n (gcmCtr c iv n l) = l
  | [], _, _ => ⟨trivial, rfl, rfl⟩
  | [a], n, h => by
    have x := xor_twice a (c.enc (iv ++ beBytes 4 (n % 2 ^ 32))) (by rw [e]; exact h.2)
    have y : (xorBytes a (c.enc (iv ++ beBytes 4 (n % 2 ^ 32)))).length = a.length := by rw [xor_length, e]; exact Nat.min_eq_left h.2
    refine ⟨?_, ?_, ?_⟩
    · simp only [gcmCtr, Pieces, y]; exact h
    · simp only [gcmCtr, List.flatten_cons, List.flatten_nil, List.append_nil, y]
    · simp only [gcmCtr, x]
  | a :: b :: r, n, h => by
    have x := xor_twice a (c.enc (iv ++ beBytes 4 (n % 2 ^ 32))) (by rw [e, h.1])
    have y : (xorBytes a (c.enc (iv ++ beBytes 4 (n % 2 ^ 32)))).length = a.length := by rw [xor_length, e, h.1]; rfl
    obtain ⟨p, q, w⟩ := counter_mode c iv e (b :: r) (n + 1) h.2
    refine ⟨?_, ?_, ?_⟩
    · simp only [gcmCtr] at p ⊢
      exact ⟨by rw [y, h.1], p⟩
    · rw [gcmCtr, List.flatten_cons, List.length_append, q, y]
      simp only [List.flatten_cons, List.length_append]
    · rw [gcmCtr, gcmCtr, x, w]

/-- Text under the counters is what it was when it comes back. -/
theorem text_twice (c : Cipher) (iv : Bytes) (e : ∀ b, (c.enc b).length = 16) (l : List Bytes) (h : Pieces l) :
    gcmText c iv (gcmText c iv l.flatten) = l.flatten ∧ (gcmText c iv l.flatten).length = l.flatten.length := by
  obtain ⟨p, q, w⟩ := counter_mode c iv e l 2 h
  have a : chunks 16 l.flatten = l := pieces_cut l _ h (pieces_length l h)
  have b : chunks 16 (gcmCtr c iv 2 l).flatten = gcmCtr c iv 2 l := pieces_cut _ _ p (pieces_length _ p)
  simp only [gcmText, a, b, w, q, and_self]

theorem tag_length (c : Cipher) (iv a t : Bytes) (e : ∀ b, (c.enc b).length = 16) : (gcmTag c iv a t).length = 16 := by
  simp only [gcmTag, ghash, xor_length, e, beBytes_length, Nat.min_self]

/-- The key of a blob for an offer, by the ciphertext and the point in its head. -/
def blobKey (s : State) (sl : Nat) (o : Offer) (hd : Bytes) : Cipher :=
  { aes := true
    key := migrationKey (pqDecapsOf "K" 2 (pqPair "K" 2 o.keys).2 (bytesAt hd 48 1088)) (xdh 4 (freeBytes (o.keys + 1) 32) (bytesAt hd 1136 32))
      (offerBody sl (selfNode s) o) }

theorem enc_length {k : Bytes} (h : k.length = 32) (b : Bytes) : (Cipher.enc { aes := true, key := k } b).length = 16 := aes_block h b

theorem key_length (x y z : Bytes) : (migrationKey x y z).length = 32 := by unfold migrationKey; exact hkdf_length ..

theorem blob_blocks (s : State) (sl : Nat) (o : Offer) (hd b : Bytes) : ((blobKey s sl o hd).enc b).length = 16 := by
  unfold blobKey
  exact enc_length (key_length ..) b

theorem opens_blob (s : State) (sl : Nat) (o : Offer) (hd iv ct : Bytes) (h : hd.length = 1168) (i : iv.length = 12) :
    openBlob s sl o (hd ++ (iv ++ (ct ++ gcmTag (blobKey s sl o hd) iv hd ct))) = some (gcmText (blobKey s sl o hd) iv ct) := by
  have t := tag_length (blobKey s sl o hd) iv hd ct (blob_blocks s sl o hd)
  generalize e : gcmTag (blobKey s sl o hd) iv hd ct = tag at t ⊢
  have a1 : bytesAt (hd ++ (iv ++ (ct ++ tag))) 48 1088 = bytesAt hd 48 1088 := bytesAt_inside (by omega)
  have a2 : bytesAt (hd ++ (iv ++ (ct ++ tag))) 1136 32 = bytesAt hd 1136 32 := bytesAt_inside (by omega)
  have a3 : bytesAt (hd ++ (iv ++ (ct ++ tag))) 1168 12 = iv := bytesAt_append h i
  have n : (hd ++ (iv ++ (ct ++ tag))).length = 1196 + ct.length := by simp only [List.length_append]; omega
  have a4 : bytesAt (hd ++ (iv ++ (ct ++ tag))) 1180 (1196 + ct.length - 1196) = ct := by
    rw [← List.append_assoc]
    exact bytesAt_append (by simp only [List.length_append]; omega) (by omega)
  have a5 : (hd ++ (iv ++ (ct ++ tag))).take 1168 = hd := List.take_left' h
  have a6 : (hd ++ (iv ++ (ct ++ tag))).drop (1196 + ct.length - 16) = tag := by
    rw [← List.append_assoc, ← List.append_assoc]
    exact List.drop_left' (by simp only [List.length_append]; omega)
  unfold openBlob
  simp only [n, a1, a2, a3, a4, a5, a6]
  simp only [blobKey] at e ⊢
  simp only [e, beq_self_eq_true, if_true]


/-- An offer that the slice holds. -/
def offer5 : Offer := { id := 5, expiry := 10, keys := 0 }

/-- The target of a migration. -/
def awaiting : State := { loaded .run .active with slices := [(0, { state := .active, offer := some offer5 })] }

/-- The head of a blob for it: its ciphertext and its point are zeros, which the target opens to some key. -/
def blobHead : Bytes :=
  ascii "SBLB" ++ leBytes 2 1 ++ [0, 0] ++ leBytes 2 7 ++ leBytes 2 65535 ++ leBytes 4 328 ++ leBytes 8 5 ++ List.replicate 1144 0

/-- Its payload: no queue, no roster and an empty ring entry, in pieces of one block. -/
def noQueues : List Bytes := List.replicate 20 (List.replicate 16 0) ++ [List.replicate 8 0]

/-- The blob. -/
def blobFor (c : Cipher) : Bytes :=
  let ct := gcmText c (List.replicate 12 0) noQueues.flatten
  blobHead ++ (List.replicate 12 0 ++ (ct ++ gcmTag c (List.replicate 12 0) blobHead ct))

def blobLaunch (inp : Bytes) : Launch where
  desc := { inLen := 1524, inAddr := 0x1000 }
  env := { hostIn := some inp }

theorem blob_head : blobHead.length = 1168 := by decide +kernel

theorem no_queues : Pieces noQueues ∧ noQueues.flatten.length = 328 :=
  ⟨by simp only [noQueues, List.replicate, List.cons_append, List.nil_append, Pieces]; decide, by decide +kernel⟩

theorem blob_field (c : Cipher) (i n : Nat) (h : i + n ≤ 1168) : fld (blobFor c) i n = fld blobHead i n := by
  have k : bytesAt (blobFor c) i n = bytesAt blobHead i n := bytesAt_inside (by rw [blob_head]; exact h)
  rw [fld, fld, k]

theorem blob_taken (c : Cipher) (e : ∀ b, (c.enc b).length = 16) :
    MailboxTakes 0x6009 (withOp 16 2 (blobLaunch (blobFor c))) awaiting (blobFor c)
      (atMailbox 0x6009 (withOp 16 2 (blobLaunch (blobFor c))) awaiting) := by
  have t := fun ct => tag_length c (List.replicate 12 0) blobHead ct e
  obtain ⟨x, y⟩ := text_twice c (List.replicate 12 0) e noQueues no_queues.1
  rw [no_queues.2] at y
  have len : (blobFor c).length = 1524 := by
    simp only [blobFor, List.length_append, blob_head, List.length_replicate, y, t]
  have t1 : ((blobFor c).take 4 == ascii "SBLB") = true := by
    rw [show (blobFor c).take 4 = blobHead.take 4 from List.take_append_of_le_length (by rw [blob_head]; decide)]
    decide +kernel
  have f := blob_field c
  have z : ∀ i n, i + n ≤ 1168 → isZero (blobFor c) i n = isZero blobHead i n := fun i n h => by rw [isZero, isZero, f i n h]
  refine ⟨free_of rfl, ?_, rfl, ?_, ?_, ?_⟩
  · show mgtCheck .bar0 (launched 0x6009 (withOp 16 2 { desc := { inLen := 1524, inAddr := 0x1000 } }))
      (atMailbox 0x6009 (withOp 16 2 { desc := { inLen := 1524, inAddr := 0x1000 } }) awaiting) = none
    decide +kernel
  · exact input_from_host rfl (len ▸ rfl) (by rw [len]; decide)
      (show Desc.inline (launched 0x6009 (withOp 16 2 { desc := { inLen := 1524, inAddr := 0x1000 } })) = false by decide +kernel)
      (show inBuf (Desc.inAddr (launched 0x6009 (withOp 16 2 { desc := { inLen := 1524, inAddr := 0x1000 } }))).toNat = false by decide +kernel)
      (show canDma awaiting = true by decide +kernel)
  · show restoreBad _ _ = none
    have p : ¬ (launched 0x6009 (withOp 16 2 (blobLaunch (blobFor c)))).p % 16 = 1 := by
      show ¬ (launched 0x6009 (withOp 16 2 { desc := { inLen := 1524, inAddr := 0x1000 } })).p % 16 = 1
      decide +kernel
    simp only [restoreBad, p, if_false, t1, f 4 2 (by decide), f 12 4 (by decide), z 7 1 (by decide), z 32 16 (by decide), len]
    decide +kernel
  · show mgtTurnedAway (launched 0x6009 (withOp 16 2 { desc := { inLen := 1524, inAddr := 0x1000 } }))
      (atMailbox 0x6009 (withOp 16 2 { desc := { inLen := 1524, inAddr := 0x1000 } }) awaiting) = false
    decide +kernel

/-- MigrationCommandsComplete: a blob for the offer, whatever key its ciphertext opens to. -/
theorem witness_MigrationCommandsComplete_restore :
    ∃ inp u l o b, MailboxTakes 0x6009 (withOp 16 2 l) awaiting inp u ∧ (slice u 0).offer = some o ∧ fld inp 10 2 = selfNode u ∧
      fld inp 16 8 = o.id ∧ u.mtime < o.expiry ∧ openBlob u 0 o inp = some b ∧
      b.length = 328 + 32 * fld b 0 1 + 40 * fld b 1 1 ∧ fld b 0 1 ≤ 16 ∧ fld b 1 1 ≤ 64 ∧ fld inp 6 1 = 0 ∧ restorable u 0 [] = true ∧
      (List.range (fld b 0 1)).map (fun i => queueOfRecord (bytesAt b (8 + 32 * i) 32)) = [] := by
  obtain ⟨c, k⟩ : ∃ c, c = blobKey awaiting 0 offer5 blobHead := ⟨_, rfl⟩
  have e : ∀ b, (c.enc b).length = 16 := k ▸ blob_blocks awaiting 0 offer5 blobHead
  obtain ⟨x, y⟩ := text_twice c (List.replicate 12 0) e noQueues no_queues.1
  have f := blob_field c
  refine ⟨_, _, blobLaunch (blobFor c), offer5, noQueues.flatten, blob_taken c e, by rfl, ?_, ?_,
    show (0 : Nat) < 10 by decide, ?_, ?_, ?_, ?_, ?_, show restorable awaiting 0 [] = true by decide +kernel, ?_⟩
  · rw [f 10 2 (by decide)]
    show fld blobHead 10 2 = selfNode awaiting
    decide +kernel
  · rw [f 16 8 (by decide)]; decide +kernel
  · show openBlob awaiting 0 offer5 (blobFor c) = _
    rw [blobFor, k, opens_blob awaiting 0 offer5 blobHead _ _ blob_head (by rw [List.length_replicate]), ← k, x]
  · rw [no_queues.2]; decide +kernel
  · decide +kernel
  · decide +kernel
  · rw [f 6 1 (by decide)]; decide +kernel
  · decide +kernel

-- Statements over steps and queues ---------------------------------------------------------------------------------------------------

theorem witness_StepKeepsMemoryCanonical : Inv State.reset ∧ Steps State.reset (idle State.reset) :=
  ⟨⟨by decide +kernel, by decide +kernel⟩, rfl⟩

theorem witness_FusesNeverReturnToZero : Reaches State.reset (idle State.reset) := .tail (.refl _) rfl

theorem witness_CommandsLeaveTheQueue : exec .trieNodeFree State.reset = .next State.reset := rfl

theorem witness_NoDmaNoFetch : (on .ready).pcie.d3hot = false ∧ State.reset.pcie.busMaster = false ∧ State.reset.pcie.link = false ∧
    (let s := on .ready; { s with pcie := { s.pcie with d3hot := true } }).pcie.d3hot = true := by decide

theorem witness_IdcodeReads : tapUp (on .sleep) = true ∧ tapUp (on .run) = true ∧ tapUp (on .starting) = true := by decide

-- Terms that WellFormed refuses ------------------------------------------------------------------------------------------------------

/-- One ill-formed term for each kind of check, all refused. -/
theorem test_ill_formed_refused :
    [Instr.nonEnsignDispatch 48, .descriptorArrival 256 0 none, .descriptorArrival 0 16 none,
     .descriptorArrival 0 0 (some (List.replicate 9 {})), .operationBoundary 0 0, .operationBoundary 8 0, .operationBoundary 1 64,
     .sliceFreezeDone 256, .drainCeilingExpiry (some 256), .lkuBatch false (some [{ op := 1, operand := [0] }]),
     .trieScrub 49152 0 0, .trieScrub 0 128 0, .trieScrub 0 0 73, .reg64LowRead .bar0 16777216, .registerAccessInvalid .bar0 0 256 true,
     .msixUnmask 2048, .pcieRequestRefused 1 false, .configRequest 4096 false].all (fun i => !wellFormed i) = true := by decide +kernel

theorem test_more_ill_formed_refused :
    [Instr.smbusWriteBurst [0] true {}, .dbgAuth [] {}, .dbgMem (2 ^ 40) 4 none, .dbgMem 0 4 (some []), .domainReloadLocal 65536,
     .vinLockout 65536 0 0, .cellFault 0, .cellFault 9, .junctionTempSample [0], .healthWindowEnd 64 [], .reseedDue 16,
     .scrubRead 73, .cardInserted 2, .approvalWindowExpiry 65536, .tamperAlarm 11 0, .wardenCoreFailure 6 true true,
     .portLinkChange 2 true, .beacon 0 [] 0 0, .claimMessage {} 0 0 4294967296 0 0 0,
     .resyncStored {} 0 0 18446744073709551616, .unitCheckFailure 1 0 256].all (fun i => !wellFormed i) = true := by decide +kernel

-- Values of the spec's own examples, and of the standards that it names --------------------------------------------------------------

/-- The partition of Tallowmere's image: 32 Chamois, 12 AES, 6 TDEA, 16 digest, 8 Oryx, 6 Markhor and no code unit reserved. -/
def tallowmere : State :=
  let s := on .run
  { s with img := { s.img with cfg := some { cfg0 with pools := [32, 12, 6, 16, 8, 6, 0].map fun n => { reserve := n } } } }

/-- Worked example of 04_admission.md: ADM_ENSIGN_CAP, ADM_ENSIGN_BURST. -/
theorem test_tallowmere_capacity : ensignCap tallowmere = 2348484 ∧ ensignBurst tallowmere = 285 := by decide +kernel

/-- The same: ADM_FIT. -/
theorem test_tallowmere_fit : admFit tallowmere = 0x02CEEFFE := by decide +kernel

/-- Worked example of one instant under mixed load: ADM_WAIT from 120 class-1 and 10 class-7 requests. -/
theorem test_mixed_load_wait :
    admWait { tallowmere with adm := { tallowmere.adm with
      backlog := [(1, 120 * 19800 + 10 * 209250), (2, 1920), (3, 1920), (5, 920000), (8, 120 * 600 + 10 * 300)] } } = 234088 := by
  decide +kernel

/-- The cell of the worked example of 18_power.md, at 114 mAh in a phase at a temperature in sixteenths of a degree. -/
def faded (phase steps : Nat) (temp : Int) : State :=
  let s := on .run
  { s with pwr := { s.pwr with
      profile := some { rated := 120, maxCharge := 100, cv := 4100, cutoff := 3300, tLow := 5, tHigh := 45, ntcR25 := 100, ntcBeta := 3435, term := 6 }
      qest := 114 * 3600000, phase := phase, steps := steps, cellTemp := temp, ccTemp := 309, cellMv := 3700 } }

/-- I_set 57 mA at 19.3 degrees, 43 mA after one thermal step at 24.6, 28 mA and a CV level of 4,000 mV at 40 degrees. -/
theorem test_faded_cell :
    (recharge (faded 0 0 309)).pwr.iset = 57 ∧
      (match exec (.cellTempReading 10000 394) (faded 2 0 309) with | .next t => (t.pwr.iset, t.pwr.steps) | _ => (0, 0)) = (43, 1) ∧
      (match (faded 2 0 640).pwr.profile with | some p => (iSet p (faded 2 0 640).pwr 2, cvLevel p 640) | none => (0, 0)) = (28, 4000) := by
  decide +kernel

/-- At 46 degrees the charger holds; at 42 it still holds, and below 42 it goes on. -/
theorem test_faded_cell_hold :
    ([(2, 736), (5, 672), (5, 671)].map fun (x : Nat × Int) =>
      match exec (.cellTempReading 10000 x.2) (faded x.1 0 400) with | .next t => t.pwr.phase | _ => 9) = [5, 5, 2] := by decide +kernel

/-- SHA-256 of "abc" (FIPS 180-4). -/
theorem test_sha256_abc : sha256 (ascii "abc") =
    [0xba, 0x78, 0x16, 0xbf, 0x8f, 0x01, 0xcf, 0xea, 0x41, 0x41, 0x40, 0xde, 0x5d, 0xae, 0x22, 0x23, 0xb0, 0x03, 0x61, 0xa3, 0x96, 0x17,
     0x7a, 0x9c, 0xb4, 0x10, 0xff, 0x61, 0xf2, 0x00, 0x15, 0xad] := by decide +kernel

/-- AES-128 of FIPS 197, appendix C.1. -/
theorem test_aes_128 : aesEnc ((List.range 16).map (BitVec.ofNat 8)) ((List.range 16).map fun n => BitVec.ofNat 8 (17 * n)) =
    [0x69, 0xc4, 0xe0, 0xd8, 0x6a, 0x7b, 0x04, 0x30, 0xd8, 0xcd, 0xb7, 0x80, 0x70, 0xb4, 0xc5, 0x5a] := by decide +kernel

end Sys2Proof.Tests
end

/-! The step by the two forms of the queue: a command in front, or none (log entries 1 and 2). -/

namespace Sys2Proof.Machine

theorem step_of_pending_cons {s : State} {c : Instr} {rest : List Instr} (h : s.pending = c :: rest) :
    step s = exec c { s with pending := rest } := by
  simp only [step, h]

theorem step_of_pending_nil {s : State} (h : s.pending = []) : step s = .next (idle s) := by
  simp only [step, h]

/-- Settles O43: both clauses are the rule for a queue with a command in front, whether the queue is written into
the state or found there. -/
theorem stepRunsTheFrontCommand : Obligations.StepRunsTheFrontCommand := by
  intro s c rest
  have written : step { s with pending := c :: rest } = exec c { s with pending := rest } := step_of_pending_cons rfl
  exact ⟨written, step_of_pending_cons⟩

end Sys2Proof.Machine

/-! The image commands at an idle mailbox (R57-R59): what IMAGE_STAGE and IMAGE_ACTIVATE answer and leave where no
check refuses them. -/

namespace Sys2Proof.Machine

/-- What a launch gives whose command completes at once, in the form that `exec` gives it. -/
theorem next_of_mailbox_ends {code : Nat} {l : Launch} {s u v : State} {inp : Bytes} {y : Done}
    (htakes : MailboxTakes code l s inp u) (hcode : BitVec.ofNat 16 code ≠ 0)
    (hrun : mgtRun l.path (launched code l) l.env inp u = (some y, v)) :
    (.next (pump (hostLaunch code l s)) : Res) = .next (mailboxEnds code l y v) := by
  rw [mailbox_ends htakes hcode hrun]

/-- The state with a chunk that has read back in the inactive slot, which the chunk at offset 0 finds erased (R58). -/
def chunkProgrammed (d : Desc) (inp : Bytes) (s : State) : State :=
  let b := !s.img.slotActive
  let y : Slot := if d.keyA.toNat = 0 then {} else slotOf s b
  let t : State := if d.keyA.toNat = 0 then { s with img := { s.img with staged := false } } else s
  setSlot b { y with content := y.content ++ inp } t

/-- A chunk before the last: the bookkeeping of the staging names the offset that comes next (R58). -/
theorem imageStageRun_of_more {d : Desc} {env : LaunchEnv} {inp : Bytes} {s : State} (hread : env.readBack = true)
    (hmore : nbit d.p 0 = false) :
    imageStageRun d env inp s =
      let v := chunkProgrammed d inp s
      okCmd { v with img := { v.img with staging := some { next := d.keyA.toNat + inp.length, total := d.keyB.toNat } } } := by
  simp only [imageStageRun, hread, hmore, Bool.not_true, Bool.false_eq_true, if_false]
  rfl

/-- The last chunk: the record of the slot is written with sequence number 0 and IMAGE_DONE raised (R57, R58). -/
theorem imageStageRun_of_last {d : Desc} {env : LaunchEnv} {inp : Bytes} {s : State} (hread : env.readBack = true)
    (hlast : nbit d.p 0 = true) :
    imageStageRun d env inp s =
      let b := !s.img.slotActive
      let v := chunkProgrammed d inp s
      okCmd (raise 1 (setSlot b { (slotOf v b) with seqNo := 0, len := d.keyB.toNat, crcOk := true, seedFor := none }
        { v with img := { v.img with staging := none, staged := true } })) := by
  simp only [imageStageRun, hread, hlast, Bool.not_true, Bool.false_eq_true, if_false, if_true]
  rfl

/-- The activation of an image that passes every check and whose vault seed re-seals: the commit (R59, R61). -/
theorem imageActivateRun_of_accepted {env : LaunchEnv} {s t : State} {c : ImageCfg}
    (hcheck : checkImage (acceptCtx s) { flashOk := env.flashOk, sig := env.sig } (slotOf s (!s.img.slotActive)) = .inr c)
    (hseal : resealStaged (!s.img.slotActive) (latchAll 5 s) = some t) :
    imageActivateRun env s = okCmd (commitImage (!s.img.slotActive) c t) := by
  simp only [imageActivateRun, hcheck, hseal]

/-- Settles O19: the mailbox takes each command, which then completes with what its run answers. -/
theorem imageCommandsComplete : Obligations.ImageCommandsComplete := by
  intro s u l inp
  refine ⟨fun htakes hread => ⟨fun hmore => ?more, fun hlast => ?last⟩, fun c t htakes hcheck hseal => ?activate⟩
  case more =>
    have hrun := (mgtRun_6002 l inp u).trans (imageStageRun_of_more hread hmore)
    exact next_of_mailbox_ends htakes (by decide) hrun
  case last =>
    have hrun := (mgtRun_6002 l inp u).trans (imageStageRun_of_last hread hlast)
    exact next_of_mailbox_ends htakes (by decide) hrun
  case activate =>
    have hrun : mgtRun l.path (launched 0x6003 l) l.env inp u =
        okCmd (recharge (commitImage (!u.img.slotActive) c t)) := by
      rw [mgtRun_6003, imageActivateRun_of_accepted hcheck hseal]
      rfl
    exact next_of_mailbox_ends htakes (by decide) hrun

end Sys2Proof.Machine

/-! What the queues and the live requests hold after a plain update of the state. -/

namespace Sys2Proof.Machine

theorem tget?_tset_self {α : Type} (t : Tbl α) (n : Nat) (v : α) : tget? (tset t n v) n = some v := by
  induction t with
  | nil => simp [tset, tget?]
  | cons e t ih =>
    obtain ⟨k, w⟩ := e
    rw [tset]
    split_ifs with hlt heq
    · simp [tget?]
    · simp [tget?]
    · simp [tget?, Ne.symm heq, ih]

@[simp] theorem queue?_setQueue_self (sl n : Nat) (q : Queue) (s : State) : queue? (setQueue sl n q s) sl n = some q :=
  tget?_tset_self ..

theorem queue?_congr {s t : State} (h : t.rqs = s.rqs) (sl n : Nat) : queue? t sl n = queue? s sl n := by
  rw [queue?, queue?, h]

theorem findReq_congr {s t : State} (h : t.rqs = s.rqs) (rid : Nat) : findReq t rid = findReq s rid := by
  rw [findReq, findReq, h]

@[simp] theorem queue?_dropReq (rid : Nat) (s : State) (sl n : Nat) : queue? (dropReq rid s) sl n = queue? s sl n := rfl

@[simp] theorem findReq_dropReq_self (rid : Nat) (s : State) : findReq (dropReq rid s) rid = none := by
  simp [findReq, dropReq]

@[simp] theorem sendMsix_rqs (v : Nat) (s : State) : (sendMsix v s).rqs = s.rqs := by
  unfold sendMsix
  split_ifs <;> rfl

end Sys2Proof.Machine

/-! Doorbells (R68, R73, R308): what each write leaves, by whether its PASID and its queue are valid. -/

namespace Sys2Proof.Machine

section Doorbells
variable {s : State} {w : DbWrite} {q : Queue}

theorem execSqTailDoorbell_of_foreign (hbar : barOpen s = true) (hpasid : pasidForeign s w.page.toNat w.pasid = true) :
    execSqTailDoorbell w s = .next (pasidRefuse w.page.toNat (w.pasid.getD 0).toNat s) := by
  simp [execSqTailDoorbell, hbar, hpasid]

theorem execCqHeadDoorbell_of_foreign (hbar : barOpen s = true) (hpasid : pasidForeign s w.page.toNat w.pasid = true) :
    execCqHeadDoorbell w s = .next (pasidRefuse w.page.toNat (w.pasid.getD 0).toNat s) := by
  simp [execCqHeadDoorbell, hbar, hpasid]

variable (hbar : barOpen s = true) (hpasid : pasidForeign s w.page.toNat w.pasid = false)
include hbar hpasid

theorem execSqTailDoorbell_of_invalid (hqueue : doorbellQueue w s = none) :
    execSqTailDoorbell w s = .next (doorbellInvalid w 0 s) := by
  simp [execSqTailDoorbell, hbar, hpasid, hqueue]

theorem execCqHeadDoorbell_of_invalid (hqueue : doorbellQueue w s = none) :
    execCqHeadDoorbell w s = .next (doorbellInvalid w 0x100 s) := by
  simp [execCqHeadDoorbell, hbar, hpasid, hqueue]

theorem execSqTailDoorbell_of_valid (hqueue : doorbellQueue w s = some q) :
    execSqTailDoorbell w s =
      let t := setQueue w.page.toNat w.queue.toNat { q with tail := w.value.toNat % 65536 } s
      let sl := w.page.toNat
      .next { t with rqs := { t.rqs with order := if s.rqs.order.contains sl then s.rqs.order else s.rqs.order ++ [sl] } } := by
  simp [execSqTailDoorbell, hbar, hpasid, hqueue, setQueue]

theorem execCqHeadDoorbell_of_valid (hqueue : doorbellQueue w s = some q)
    (hfree : (w.value.toNat % 65536 + q.depth - q.cqHead) % q.depth ≤ q.written) :
    execCqHeadDoorbell w s = .next (setQueue w.page.toNat w.queue.toNat { q with cqHead := w.value.toNat % 65536 } s) := by
  simp [execCqHeadDoorbell, hbar, hpasid, hqueue, Nat.not_lt.mpr hfree]

end Doorbells

theorem execPasidUnmapped_of_foreign {s : State} {page : BitVec 8} {pasid : BitVec 20} (posted : Bool) (hbar : barOpen s = true)
    (hpasid : pasidForeign s page.toNat (some pasid) = true) :
    execPasidUnmapped page pasid posted s =
      .next ((if posted then id else emit (.pcie 2)) (pasidRefuse page.toNat pasid.toNat s)) := by
  cases posted <;> simp [execPasidUnmapped, hbar, hpasid]

/-- Settles O10: a foreign PASID is refused before the queue is looked at, and a write that addresses no valid queue
is only logged. -/
theorem badDoorbellsAreIgnoredAndLogged : Obligations.BadDoorbellsAreIgnoredAndLogged := by
  intro s w hbar
  refine ⟨fun hpasid => ⟨?tailForeign, ?headForeign⟩, fun hpasid hqueue => ⟨?tailInvalid, ?headInvalid⟩⟩
  case tailForeign => exact execSqTailDoorbell_of_foreign hbar hpasid
  case headForeign => exact execCqHeadDoorbell_of_foreign hbar hpasid
  case tailInvalid =>
    have hlog := execSqTailDoorbell_of_invalid hbar hpasid hqueue
    rwa [doorbellInvalid, Nat.zero_add] at hlog
  case headInvalid => exact execCqHeadDoorbell_of_invalid hbar hpasid hqueue

end Sys2Proof.Machine

/-! Descriptor fetch and arrival (R70, R308-R310). -/

namespace Sys2Proof.Machine

theorem execDescriptorFetch_of_next {s : State} {sl n : Nat} {q : Queue} (hdma : queueDma s = true)
    (hnext : nextFetch s = some (sl, n)) (hqueue : queue? s sl n = some q) :
    execDescriptorFetch s =
      let k := min (min 8 q.rung) (min q.space (q.depth - q.issued))
      let t := setQueue sl n { q with
        issued := (q.issued + k) % q.depth, reserved := q.reserved + k, reads := q.reads ++ [k] } s
      .next (trimOrder sl (emit (.fetch sl n q.issued k) (updSlice sl (fun x => { x with rr := (n + 1) % 16 }) t))) := by
  simp [execDescriptorFetch, hdma, hnext, hqueue]

/-- The oldest read of the queue answers with as many descriptors as it asked for. -/
theorem execDescriptorArrival_of_read {s : State} {sl n k : Nat} {q : Queue} {rest : List Nat} {l : List Desc}
    (hqueue : queue? s sl n = some q) (hreads : q.reads = k :: rest) (hlen : l.length = k) :
    execDescriptorArrival sl n (some l) s =
      let t := setQueue sl n { q with reads := rest, head := (q.head + k) % q.depth } s
      .next (pauseCheck sl n (l.foldl (fun u d => takeDescriptor sl n d u) t)) := by
  simp only [execDescriptorArrival, hqueue, hreads, hlen, ne_eq, not_true_eq_false, if_false]

theorem execDescriptorArrival_of_failed {s : State} {sl n : Nat} {q : Queue} (hqueue : queue? s sl n = some q)
    (hreads : q.reads ≠ []) :
    execDescriptorArrival sl n none s =
      let t := setQueue sl n { q with
        stopped := true, reads := [], issued := q.head, reserved := q.reserved - q.reads.foldl (· + ·) 0 } s
      .next (logEvent 0x303 [BitVec.ofNat 8 sl, BitVec.ofNat 8 n]
        (updSlice sl (fun x => { x with qerr := x.qerr ||| BitVec.ofNat 16 (2 ^ n) }) t)) := by
  obtain ⟨k, rest, hcons⟩ := List.exists_cons_of_ne_nil hreads
  simp only [execDescriptorArrival, hqueue, hcons]

theorem execLandingRoomFreed_of_fits {s : State} {r : Req} (hwaits : s.rqs.live.find? (fun r => r.phase == .waitRoom) = some r)
    (hdma : queueDma s = true) (hfits : ensignFits s r = true) :
    execLandingRoomFreed s = .next ((if needsRead r.desc then emit (.read r.rid) else id)
      (updReq r.rid (fun x => { x with phase := .reading }) s)) := by
  cases hread : needsRead r.desc <;> simp [execLandingRoomFreed, hwaits, hdma, hfits, hread]

/-- Settles O9: each clause is the equation of its command in the case that its hypotheses pick. -/
theorem doorbellsFetchAndArrivalComplete : Obligations.DoorbellsFetchAndArrivalComplete := by
  intro s
  exact ⟨fun _ _ hbar hpasid hqueue => execSqTailDoorbell_of_valid hbar hpasid hqueue,
    fun _ _ hbar hpasid hqueue hfree => execCqHeadDoorbell_of_valid hbar hpasid hqueue hfree,
    fun _ _ _ hdma hnext hqueue => execDescriptorFetch_of_next hdma hnext hqueue,
    fun _ _ _ _ _ _ hqueue hreads hlen => execDescriptorArrival_of_read hqueue hreads hlen,
    fun _ _ _ hqueue hreads => execDescriptorArrival_of_failed hqueue hreads,
    fun _ hwaits hdma hfits => execLandingRoomFreed_of_fits hwaits hdma hfits,
    fun _ _ posted hbar hpasid => execPasidUnmapped_of_foreign posted hbar hpasid⟩

end Sys2Proof.Machine

/-! Landing, admission and the sequencers (R71, R77, R105, R110-R112, R293, R309). -/

namespace Sys2Proof.Machine

/-- A request with the input that it lands with (R71): the bytes in its descriptor, or the bytes read for it. -/
def landedReq (r : Req) (read : Bytes) (s : State) : Req :=
  { r with input := if r.desc.inline then r.desc.inlineBytes else read, landAt := s.mtime }

/-- The uncorrectable trie words that admission's search for the PAN meets are noted (R105, R256). -/
def trieNoted (q : Req) (t : State) : State :=
  if armed t && !q.desc.fwd && q.desc.panSet && q.desc.namesKey && permits t q.slice (clsOf q.desc) then
    noteTrie (trieSearch t.lku q.desc.panList).bad t else t

/-- A landed request follows the verdict of admission (R105). -/
def followVerdict (q : Req) (v : Verdict2) (u : State) : State :=
  match v with
  | .refuse st d => refuseReq q st d u
  | .accept dom => acceptReq q dom u
  | .forward dom owner => forwardReq q dom owner u

section Landing
variable {s : State} {rid : Nat} {r q : Req} {read : Bytes} (hfound : findReq s rid = some r) (hq : q = landedReq r read s)
include hfound hq

theorem landReq_of_failed {st d : Nat} (hcheck : descCheck q.viaFabric q.viaPeer q.desc q.input = some (st, d)) :
    landReq rid read s = endReq rid st d (updReq rid (fun _ => q) s) := by
  subst hq
  simp only [landedReq] at hcheck ⊢
  simp only [landReq, hfound, hcheck]

theorem landReq_of_passed {v : Verdict2} (hcheck : descCheck q.viaFabric q.viaPeer q.desc q.input = none)
    (hverdict : admitTest (updReq rid (fun _ => q) s) q.desc q.slice q.viaTenant = v) :
    landReq rid read s = followVerdict q v (trieNoted q (updReq rid (fun _ => q) s)) := by
  subst hq hverdict
  simp only [landedReq] at hcheck ⊢
  simp only [landReq, hfound, hcheck]
  rfl

end Landing

theorem execRequestLand_of_reading {s : State} {rid : Nat} {r : Req} (inp : Bytes) (hfound : findReq s rid = some r)
    (hphase : r.phase = .reading) :
    execRequestLand rid (some inp) s = .next (landReq rid (if needsRead r.desc then fit r.desc.inLen.toNat inp else []) s) := by
  cases hread : needsRead r.desc <;> simp [execRequestLand, hfound, hphase, hread]

theorem execSequencerFree_of_work {s : State} {l : Nat} {r : Req} (hfree : seqFree s l = true) (hwork : nextWork s l = some r) :
    execSequencerFree l s = .next (assignSeq l r s) := by
  simp only [execSequencerFree, hfree, hwork, Bool.not_true, Bool.false_eq_true, if_false]

theorem execNonEnsignDispatch_of_pick {s : State} {l n : Nat} {r : Req} (hfree : seqFree s l = true)
    (hshared : seqShared s l = true) (hens : (waitingSeq s).any Req.isEnsign = false)
    (hpick : dispatchPick s (s.rqs.live.filter fun r => r.phase == .held).length (s.rqs.live.filter fun r => r.phase == .held) =
      some r)
    (hdma : needsRead r.desc = true → queueDma s = true) (horigin : r.origin = .host n) :
    execNonEnsignDispatch l s = .next (pauseCheck r.slice n ((if needsRead r.desc then emit (.read r.rid) else id)
      (updReq r.rid (fun x => { x with phase := .reading, seqr := some l }) s))) := by
  cases hread : needsRead r.desc with
  | false => simp [execNonEnsignDispatch, hfree, hshared, hens, hpick, hread, horigin]
  | true => simp [execNonEnsignDispatch, hfree, hshared, hens, hpick, hread, hdma hread, horigin]

theorem execRequestForward_of_session {s : State} {rid i : Nat} {r : Req} (hfound : findReq s rid = some r)
    (hphase : r.phase = .fwdQueued) (hseq : r.seqr.isSome = true) (hroom : fwdInUse s < 65536)
    (hsession : sessionTo s r.owner = some i) :
    execRequestForward rid s =
      let t := dropWork r.work (parkAfter rid { s with fab := { s.fab with
        nextFwd := if s.fab.nextFwd + 1 = 2 ^ 32 then 1 else s.fab.nextFwd + 1, fwdSent := satAdd 64 s.fab.fwdSent 1 } })
      .next (sendMsg i r.isEnsign
        { typ := 1, bytes := 64 + r.input.length, what := .request i (fwdDesc r s.fab.nextFwd) r.input }
        (updReq rid (fun x => { x with phase := .forwarded, seqr := none, work := [], fwdTag := s.fab.nextFwd }) t)) := by
  have hgo : ¬ (r.phase != .fwdQueued || r.seqr.isNone) = true := by
    simp [hphase, Option.isNone_eq_false_iff.mpr hseq]
  simp only [execRequestForward, hfound, hgo, Nat.not_le.mpr hroom, hsession, Bool.false_eq_true, if_false]

theorem execTokenRefill_of_image {s : State} {c : ImageCfg} (himage : s.img.cfg = some c) :
    execTokenRefill s = .next (c.tenants.foldl (fun t e => updSlice e.1 (refill e.2) t) s) := by
  simp only [execTokenRefill, himage]

/-- Settles O11: the arrival of the input is the landing, which the check of R77 and then the verdict of admission
split into its four ends. -/
theorem landingAndAdmissionComplete : Obligations.LandingAndAdmissionComplete := by
  intro s
  refine ⟨fun rid inp r hfound hphase => ?land, fun _ _ => execSequencerFree_of_work,
    fun _ _ _ => execNonEnsignDispatch_of_pick, fun _ _ _ => execRequestForward_of_session, fun _ => execTokenRefill_of_image⟩
  case land =>
    intro i q t
    have hland := execRequestLand_of_reading inp hfound hphase
    have hq : q = landedReq r (if needsRead r.desc then fit r.desc.inLen.toNat inp else []) s := rfl
    refine ⟨fun st d hcheck => ?failed, fun hcheck => ?passed⟩
    case failed => exact hland.trans (congrArg _ (landReq_of_failed hfound hq hcheck))
    case passed =>
      have follows (v : Verdict2) (hverdict : admitTest t q.desc q.slice q.viaTenant = v) :
          exec (.requestLand rid (some inp)) s = .next (followVerdict q v (trieNoted q t)) :=
        hland.trans (congrArg _ (landReq_of_passed hfound hq hcheck hverdict))
      exact ⟨fun st d => follows (.refuse st d), fun dom => follows (.accept dom), fun dom owner => follows (.forward dom owner)⟩

end Sys2Proof.Machine

/-! Queues, slice reset and slice freeze (R67, R312-R314, R436): the runs of the commands at an idle mailbox, and the events that
end them. -/

namespace Sys2Proof.Machine

/-- What a launch gives whose command waits for an event. -/
theorem next_of_mailbox_waits {code : Nat} {l : Launch} {s u v : State} {inp : Bytes} {r : Running}
    (htakes : MailboxTakes code l s inp u) (hcode : BitVec.ofNat 16 code ≠ 0)
    (hrun : mgtRun l.path (launched code l) l.env inp u = (none, { v with mgt := { v.mgt with running := some r } })) :
    (.next (pump (hostLaunch code l s)) : Res) = .next (mailboxWaits r v) := by
  rw [mailbox_waits htakes hcode hrun]
  rfl

/-- P0 [0] of a row with two operations is the number of its operation. -/
theorem nbit_withOp_two (code : Nat) {n : Nat} (hn : n < 2) (l : Launch) :
    nbit (launched code (withOp 2 n l)).p 0 = decide (n = 1) := by
  rw [launched_p, withOp_p 2 n l hn rfl, nbit, Nat.testBit_zero]
  congr 1
  exact propext (by omega)

theorem queueCreateRun_of_absent {d : Desc} {u : State} (hpasid : u.pcie.pasidEnable = true)
    (habsent : queue? u d.slice.toNat (d.p % 16) = none) :
    queueCreateRun d u = okCmd (setQueue d.slice.toNat (d.p % 16)
      { depth := 2 ^ (tenant u d.slice.toNat).depthLog2, pasid := d.keyA.toNat, sqBase := d.inAddr.toNat
        cqBase := d.outAddr.toNat } u) := by
  simp [queueCreateRun, hpasid, habsent]

theorem queueDeleteRun_of_idle {d : Desc} {u : State} {q : Queue} (hqueue : queue? u d.slice.toNat (d.p % 16) = some q)
    (hreads : q.reads = []) (hidle : u.rqs.live.any (fun r => r.slice == d.slice.toNat && r.origin == .host (d.p % 16)) = false) :
    queueDeleteRun d u = okCmd (trimOrder d.slice.toNat (dropQueue d.slice.toNat (d.p % 16) u)) := by
  simp [queueDeleteRun, hqueue, hreads, hidle]

/-- A slice that a SLICE_RESET may reset begins to drain; where P0 [0] is set it is squashed at once (R313, R314). -/
theorem sliceResetRun_of_enabled {path : MPath} {d : Desc} {u : State} (henabled : enabled u d.slice.toNat = true)
    (hstate : (slice u d.slice.toNat).state = .active ∨ (slice u d.slice.toNat).state = .frozen ∨
      (slice u d.slice.toNat).state = .saved) :
    sliceResetRun path d u =
      let sl := d.slice.toNat
      let t := dropScopeApprovals sl (checkpoint (updSlice sl (fun y => { y with
        state := .resetting, squash := nbit d.p 0, drainFrom := u.mtime }) u))
      let v := if nbit d.p 0 then squashSlice sl (fun _ => true) t else t
      (none, { v with mgt := { v.mgt with running := some (.sliceReset sl path) } }) := by
  have hgo : ((slice u d.slice.toNat).state == .active || (slice u d.slice.toNat).state == .frozen ||
      (slice u d.slice.toNat).state == .saved) = true := by simpa [or_assoc] using hstate
  simp [sliceResetRun, henabled, hgo]

theorem sliceFreezeRun_of_active {path : MPath} {d : Desc} {u : State} (hfreeze : nbit d.p 0 = false)
    (henabled : enabled u d.slice.toNat = true) (hstate : (slice u d.slice.toNat).state = .active) :
    sliceFreezeRun path d u =
      let sl := d.slice.toNat
      let t := checkpoint (updSlice sl (fun y => { y with state := .freezing, drainFrom := u.mtime }) u)
      (none, { t with mgt := { t.mgt with running := some (.sliceFreeze sl path) } }) := by
  simp [sliceFreezeRun, hfreeze, henabled, hstate]

theorem sliceFreezeRun_of_frozen {path : MPath} {d : Desc} {u : State} (hthaw : nbit d.p 0 = true)
    (henabled : enabled u d.slice.toNat = true) (hstate : (slice u d.slice.toNat).state = .frozen) :
    sliceFreezeRun path d u = okCmd (checkpoint
      (updSlice d.slice.toNat (fun y => { y with state := .active, roster := [] }) u)) := by
  simp [sliceFreezeRun, hthaw, henabled, hstate]

theorem sliceResetDone_of_drained {n : Nat} {s : State} (hstate : (slice s n).state = .resetting)
    (hdrain : (slice s n).squash = false) (hreads : readsDone s n = true) (hidle : s.rqs.live.any (fun r => r.slice == n) = false) :
    sliceResetDone n s = completes (resets n) (raise 6 (checkpoint
      (updSlice n (fun x => { x with state := .active, resetDone := true, squash := false })
        (dropQueues n (releaseLanding n s))))) := by
  simp [sliceResetDone, hstate, hdrain, hreads, hidle]

theorem sliceFreezeDone_of_drained {n : Nat} {s : State} (hstate : (slice s n).state = .freezing) (hreads : readsDone s n = true)
    (hresponses : responsesDone s n = true) (hidle : s.rqs.live.any (fun r => r.slice == n && !r.viaPeer) = false) :
    sliceFreezeDone n s = completes (freezes n) (raise 6 (checkpoint
      (updSlice n (fun x => { x with state := .frozen, resetDone := true, roster := rosterOf s n })
        ((tenantSessions s n).foldl (fun u i => closeSession i (some 0) u) s)))) := by
  simp [sliceFreezeDone, hstate, hreads, hresponses, hidle]

theorem drainCeiling_of_slice {n : Nat} {s : State} (hstate : (slice s n).state = .resetting ∨ (slice s n).state = .freezing)
    (hdue : (slice s n).drainFrom + drainNs s ≤ s.mtime) :
    drainCeiling (some n) s =
      squashSlice n (fun r => !r.isEnsign && !((slice s n).state == .freezing && r.viaPeer)) s := by
  have hgo : ((slice s n).state == .resetting || (slice s n).state == .freezing) = true := by simpa using hstate
  simp only [drainCeiling, hgo, hdue, decide_true, Bool.and_self, if_true]

theorem drainCeiling_of_module {t : Nat} {s : State} (hdrain : s.rqs.readyDrain = some t) (hdue : t + drainNs s ≤ s.mtime) :
    drainCeiling none s = endLive (fun r => !r.isEnsign && squashable r) stAborted s := by
  simp only [drainCeiling, hdrain, hdue, if_true]

/-- Settles O20: the mailbox takes each command, which then completes or waits with what its run answers; the events
follow their own equations. -/
theorem queueAndResetCommandsComplete : Obligations.QueueAndResetCommandsComplete := by
  intro s u l inp sl
  refine ⟨fun htakes hpasid habsent => ?create, fun q htakes hqueue hreads hidle => ?delete,
    fun htakes henabled hstate => ?drain, fun htakes henabled hstate => ?squash,
    fun n hstate hdrain hreads hidle => ?resetDone, fun htakes henabled hstate => ?freeze,
    fun n hstate hreads hresponses hidle => ?freezeDone, fun htakes henabled hstate => ?thaw,
    fun n hstate hdue => ?sliceCeiling, fun t hdrain hdue => ?moduleCeiling⟩
  case create =>
    exact next_of_mailbox_ends htakes (by decide)
      ((mgtRun_6004 l inp u).trans (queueCreateRun_of_absent (d := launched 0x6004 l) hpasid habsent))
  case delete =>
    exact next_of_mailbox_ends htakes (by decide)
      ((mgtRun_6005 l inp u).trans (queueDeleteRun_of_idle (d := launched 0x6005 l) hqueue hreads hidle))
  case drain =>
    have hrun := (mgtRun_6006 (withOp 2 0 l) inp u).trans (sliceResetRun_of_enabled henabled hstate)
    rw [nbit_withOp_two 0x6006 (by decide) l] at hrun
    exact next_of_mailbox_waits htakes (by decide) hrun
  case squash =>
    have hrun := (mgtRun_6006 (withOp 2 1 l) inp u).trans (sliceResetRun_of_enabled henabled hstate)
    rw [nbit_withOp_two 0x6006 (by decide) l] at hrun
    exact next_of_mailbox_waits htakes (by decide) hrun
  case resetDone =>
    exact congrArg (fun t => Host.Outcome.next (pump t)) (sliceResetDone_of_drained hstate hdrain hreads hidle)
  case freeze =>
    exact next_of_mailbox_waits htakes (by decide) ((mgtRun_6007 (withOp 2 0 l) inp u).trans
      (sliceFreezeRun_of_active (nbit_withOp_two 0x6007 (by decide) l) henabled hstate))
  case freezeDone =>
    exact congrArg (fun t => Host.Outcome.next (pump t)) (sliceFreezeDone_of_drained hstate hreads hresponses hidle)
  case thaw =>
    exact next_of_mailbox_ends htakes (by decide) ((mgtRun_6007 (withOp 2 1 l) inp u).trans
      (sliceFreezeRun_of_frozen (nbit_withOp_two 0x6007 (by decide) l) henabled hstate))
  case sliceCeiling => exact congrArg _ (drainCeiling_of_slice hstate hdue)
  case moduleCeiling => exact congrArg _ (drainCeiling_of_module hdrain hdue)

end Sys2Proof.Machine

/-! The completion of a request of a host queue (R72, R73, R78, R94). -/

namespace Sys2Proof.Machine

/-- The record of a host-path request as it stands at the tail of its completion queue (R78). -/
def hostCpl (s : State) (r : Req) (n : Nat) (x : Result) (q : Queue) : Cpl :=
  { cplOf s r x with phase := q.phase, sqHead := q.head, sqId := n }

/-- The queue after one completion: the tail advanced, the phase inverted at the wrap, the reserved entry given back
(R73). -/
def Queue.completed (q : Queue) : Queue :=
  let last := q.cqTail + 1 == q.depth
  { q with cqTail := if last then 0 else q.cqTail + 1, phase := if last then !q.phase else q.phase, reserved := q.reserved - 1 }

/-- The writes of a completion: the output, where there is one, and then the record (R72). -/
def putHost (r : Req) (n : Nat) (x : Result) (q : Queue) (s : State) : State :=
  emit (.completion r.slice n q.cqTail (hostCpl s r n x q))
    (if x.written = [] then s else emit (.write (some q.pasid) r.desc.outAddr.toNat x.written) s)

/-- The interrupt of a host-path completion, where the request asks for one and the tenant has a vector (R72). -/
def signalHost (r : Req) (n : Nat) (t : Tenant) (s : State) : State :=
  if r.desc.noIrq || t.msixCount = 0 then s else sendMsix (t.msixBase + n % t.msixCount) s

@[simp] theorem signalHost_rqs (r : Req) (n : Nat) (t : Tenant) (s : State) : (signalHost r n t s).rqs = s.rqs := by
  unfold signalHost
  split_ifs
  · rfl
  · exact sendMsix_rqs ..

theorem signalHost_of_noIrq {r : Req} (h : r.desc.noIrq = true) (n : Nat) (t : Tenant) (s : State) : signalHost r n t s = s := by
  simp [signalHost, h]

section WriteHost
variable {s : State} {r : Req} {n : Nat} {x : Result} {q : Queue} (hqueue : queue? s r.slice n = some q)
include hqueue

theorem writeHost_of_queue :
    writeHost r n x s = countLate (hostCpl s r n x q).late (dropReq r.rid
      (signalHost r n (tenant s r.slice) (setQueue r.slice n q.completed (putHost r n x q s)))) := by
  simp only [writeHost, hqueue]
  rfl

theorem findReq_writeHost_self : findReq (writeHost r n x s) r.rid = none := by
  rw [writeHost_of_queue hqueue, findReq_congr (countLate_rqs ..), findReq_dropReq_self]

theorem queue?_writeHost_self : queue? (writeHost r n x s) r.slice n = some q.completed := by
  rw [writeHost_of_queue hqueue, queue?_congr (countLate_rqs ..), queue?_dropReq, queue?_congr (signalHost_rqs ..),
    queue?_setQueue_self]

theorem writeHost_out_of_noIrq (hquiet : r.desc.noIrq = true) : (writeHost r n x s).out = (putHost r n x q s).out := by
  rw [writeHost_of_queue hqueue, countLate_out, dropReq_out, signalHost_of_noIrq hquiet, setQueue_out]

end WriteHost

theorem tryWrite_of_host {s : State} {r : Req} {n : Nat} {x : Result} (hfound : findReq s r.rid = some r)
    (horigin : r.origin = .host n) (hresult : r.result = some x) :
    tryWrite r.rid s = if queueDma s then writeHost r n x s else s := by
  simp only [tryWrite, hfound, hresult, horigin]

/-- Settles O53: without DMA the result waits; with it the completion is written by `writeHost`, whose writes,
queue and live requests are those of the statement. -/
theorem hostCompletionIsWrittenInOrder : Obligations.HostCompletionIsWrittenInOrder := by
  intro s r n x q hfound horigin hresult hqueue
  have hwrite := tryWrite_of_host hfound horigin hresult
  refine ⟨fun hdma => ?waits, fun hdma => ?writes⟩
  case waits => rw [hwrite, hdma, if_neg Bool.false_ne_true]
  case writes =>
    rw [hdma, if_pos rfl] at hwrite
    refine ⟨_, hostCpl s r n x q, hwrite, findReq_writeHost_self hqueue, rfl, rfl, rfl, rfl, rfl, rfl, rfl, rfl,
      fun hempty hquiet => ?record, fun hout hquiet => ?outputFirst, ?queue⟩
    case record => rw [writeHost_out_of_noIrq hqueue hquiet, putHost, if_pos hempty]; rfl
    case outputFirst => rw [writeHost_out_of_noIrq hqueue hquiet, putHost, if_neg hout]; rfl
    case queue => simpa only [Queue.completed, beq_iff_eq] using queue?_writeHost_self hqueue

end Sys2Proof.Machine

/-! Engine events (R103, R104, R111, R156, R157, R166, R173, R188, R190, R194, R244, R438): what each leaves where its premise
holds. -/

namespace Sys2Proof.Machine

section Units
variable {s : State} {p l : Nat} (hlisted : (tget? s.eng.units (256 * p + l)).isSome = true)
include hlisted

theorem execUnitClockStop_of_idle (hidle : unitIdle s p l = true) :
    execUnitClockStop p l s = .next (updUnit p l (fun x => { x with clock := false }) s) := by
  simp only [execUnitClockStop, hlisted, hidle, Bool.and_self, if_true]

/-- The lowest spare of the pool takes the number of a unit that is gone (R17, R190). -/
theorem execSpareSwitchIn_of_spare {n : Nat} {rest : List Nat} (hwarden : s.wdn.lost = false)
    (hgone : (unitOf s p l).present = false) (hspare : sparesLeft s p = n :: rest) :
    execSpareSwitchIn p l s = .next (applyThrottle (updUnit p l (fun _ => { phys := n })
      { s with eng := { s.eng with sparesUsed := tupd s.eng.sparesUsed p [] (· ++ [n]) } })) := by
  simp [execSpareSwitchIn, Option.isNone_eq_false_iff.mpr hlisted, hwarden, hgone, hspare]

variable (hrun : s.pwr.state = .run)
include hrun

theorem execUnitCheckFailure_of_run (c : Nat) : execUnitCheckFailure p l c s = .next (retireUnit p l c s) := by
  simp [execUnitCheckFailure, Option.isNone_eq_false_iff.mpr hlisted, hrun]

variable (hpresent : (unitOf s p l).present = true) (hfree : (unitOf s p l).ctx0 = none)
include hpresent hfree

/-- An ENSIGN operation takes context 0 of a unit that may serve it, whatever context 1 holds (R111, R173). -/
theorem execOperationBoundary_of_ensign {r : Req} (hpool : p ≠ 1) (hparked : (unitOf s p l).parked = false)
    (htested : (unitOf s p l).testFirst = false) (hkind : unitKind s p l ≠ 2) (hwaits : ensignWaits s p = some r) :
    execOperationBoundary p l s = .next (updUnit p l (fun x => { x with ctx0 := some r.rid, clock := true }) s) := by
  simp [execOperationBoundary, Option.isNone_eq_false_iff.mpr hlisted, hrun, hpresent, hfree, hpool, hparked, htested, hkind,
    hwaits]

/-- A boundary lets a cipher or digest unit be tested: it holds no ENSIGN operation, and none that it could take goes before
the test (R166). -/
theorem execKnownAnswerTest_of_turn (pass : Bool) (hlow : 2 ≤ p) (hhigh : p < 5)
    (hturn : (unitOf s p l).testFirst = true ∨ ensignWaits s p = none ∨ unitKind s p l = 2) :
    execKnownAnswerTest p l pass s =
      .next (if pass then updUnit p l (fun x => { x with kat := false, testFirst := false }) s else retireUnit p l 3 s) := by
  have hnoneFirst : (!(unitOf s p l).testFirst && (ensignWaits s p).isSome && unitKind s p l != 2) = false := by
    rcases hturn with htest | hnone | hdedicated
    · simp [htest]
    · simp [hnone]
    · simp [hdedicated]
  have hlists := Option.isNone_eq_false_iff.mpr hlisted
  cases pass <;>
    simp [execKnownAnswerTest, hlists, hrun, hpresent, hfree, hnoneFirst, Nat.not_lt.mpr hlow, Nat.not_le.mpr hhigh]

end Units

theorem execMaskReseed_of_lane {s : State} {p l : Nat} (hrun : s.pwr.state = .run) (hunlocked : s.tmp.locked = false)
    (hwarden : s.wdn.lost = false) (hlane : (maskLanes s).contains (p, l) = true) :
    execMaskReseed p l s = .next (reseedLane p l s) := by
  simp only [execMaskReseed, hrun, hunlocked, hwarden, hlane, beq_self_eq_true, Bool.not_false, Bool.and_self, if_true]

theorem execCoreCompletionInterrupt_of_detached {s : State} {p l rid : Nat} {u : EUnit} {r : Req}
    (hunit : tget? s.eng.units (256 * p + l) = some u) (hholds : u.ctx1 = some rid) (hfound : findReq s rid = some r)
    (hphase : r.phase = .detached) :
    execCoreCompletionInterrupt p l s = .next { updReq rid (fun x => { x with phase := .releaseQueued }) s with
      eng := { s.eng with tasks := s.eng.tasks ++ [rid] } } := by
  simp only [execCoreCompletionInterrupt, hunit, Option.bind_some, hholds, hfound, hphase, beq_self_eq_true, if_true]
  rfl

theorem execReleaseStep_of_task {s : State} {l rid : Nat} {rest : List Nat} {r : Req} {x : Result} (hfree : seqFree s l = true)
    (hshared : seqShared s l = true) (htasks : s.eng.tasks = rid :: rest) (hfound : findReq s rid = some r)
    (hresult : r.result = some x) :
    execReleaseStep l s = .next (conclude r { status := x.status, detail := x.detail, output := x.output, store := x.store }
      { s with eng := { s.eng with tasks := rest } }) := by
  have hfound' : findReq { s with eng := { s.eng with tasks := rest } } rid = some r := (findReq_congr rfl rid).trans hfound
  simp [execReleaseStep, hfree, hshared, htasks, hfound', hresult]

theorem execBlindWaitResume_of_serving {s : State} {r : Req} (hwaits : s.rqs.live.find? (fun r => r.phase == .blindWait) = some r)
    (hserves : blockedInst s 3 = none) : execBlindWaitResume s = .next (requeue r.rid s) := by
  simp only [execBlindWaitResume, hwaits, hserves, Option.isNone_none, if_true]

theorem execRngWaitResume_of_serving {s : State} {r : Req} (hwaits : s.rqs.live.find? (fun r => r.phase == .rngWait) = some r)
    (hserves : (rrInst s 2).isSome = true) : execRngWaitResume s = .next (requeue r.rid s) := by
  simp only [execRngWaitResume, hwaits, hserves, if_true]

/-- The highest of several samples is one of them, so it lies below any bound that they all lie below. -/
theorem foldl_max_lt {x b : Int} {rest : List Int} (hx : x < b) (hrest : rest.all (· < b) = true) : rest.foldl max x < b := by
  have hmem : rest.foldl max x ∈ x :: rest := List.max?_mem List.max?_cons'
  have hall : ∀ y ∈ x :: rest, y < b := by simpa [hx] using hrest
  exact hall _ hmem

/-- Samples below 95 degrees at level 0 start the cool time or let it run, and the level stays (R104). -/
theorem execJunctionTempSample_of_cool {s : State} {x : Int} {rest : List Int} (hx : x < 1520)
    (hrest : rest.all (· < 1520) = true) (hlevel : s.adm.throttle = 0) :
    execJunctionTempSample (x :: rest) s = .next { s with
      tmp := { s.tmp with temps := (x :: rest ++ s.tmp.temps.drop (rest.length + 1)).take 4 }
      adm := { s.adm with coolSince := some (s.adm.coolSince.getD s.mtime) } } := by
  have hcool : rest.foldl max x < 1520 := foldl_max_lt hx hrest
  have hnoRaise : ¬ 1600 ≤ rest.foldl max x := by omega
  simp [execJunctionTempSample, hcool, hnoRaise, hlevel]

/-- Settles O12: each clause is the equation of its event in the case that its hypotheses pick. -/
theorem engineEventsComplete : Obligations.EngineEventsComplete := by
  intro s
  refine ⟨fun p l r hrun hlisted hpresent hparked hpool hfree htested hkind hwaits => ?boundary,
    fun _ _ => execUnitClockStop_of_idle,
    fun p l hrun hlow hhigh hlisted hpresent hfree hturn => ?test,
    fun _ _ c hrun hlisted => execUnitCheckFailure_of_run hlisted hrun c,
    fun _ _ _ _ hwarden hlisted => execSpareSwitchIn_of_spare hlisted hwarden,
    fun _ _ => execMaskReseed_of_lane,
    fun _ _ _ _ _ => execCoreCompletionInterrupt_of_detached,
    fun _ _ _ _ _ => execReleaseStep_of_task,
    fun _ => execBlindWaitResume_of_serving,
    fun _ => execRngWaitResume_of_serving,
    fun _ _ => execJunctionTempSample_of_cool⟩
  case boundary => exact execOperationBoundary_of_ensign hlisted hrun hpresent hfree hpool hparked htested hkind hwaits
  case test =>
    have htest (pass : Bool) := execKnownAnswerTest_of_turn hlisted hrun hpresent hfree pass hlow hhigh hturn
    exact ⟨htest true, htest false⟩

end Sys2Proof.Machine

/-! The answer of a command that stands at its sequencer (R72, R75, R119): its calculation run, and delivered. -/

namespace Sys2Proof.Machine

/-- An answer without its count of issue slots, about which `Answers` says nothing. -/
def Answer.bare (a : Answer) : Answer := { a with ops := [] }

theorem Answer.eq_with_ops_of_bare {x a : Answer} (h : x.bare = a.bare) : x = { a with ops := x.ops } := by
  simp only [bare, Answer.mk.injEq] at h
  obtain ⟨hstatus, hdetail, houtput, hstore, hwait, hring, -⟩ := h
  cases x
  simp_all

/-- The state in which the calculation of a command runs: its free values are taken (log entry 7). -/
def State.drawn (u : State) : State := { u with freeCtr := u.freeCtr + drawsPerCommand }

section Sequencer
variable {i : Instr} {c : Nat} {pre : Pre} {f : Calc} {g : Req → Keys → Nat → Answer} {s u : State} {rid : Nat} {r : Req}
  {k : Keys} {x a : Answer}

theorem runCmd_of_atCommand (hat : AtCommand c pre s rid r k u) : runCmd c pre f rid none s = .next (runCalc f r k u) := by
  obtain ⟨hfound, hphase, hseqr, hcode, row, t, hrow, hkeys, hfresh, hpre, hsize, hdraws⟩ := hat
  subst hcode
  simp [runCmd, runReq, runKeyed, hfound, hphase, hseqr, hrow, hkeys, hfresh, hpre, hsize, hdraws]

theorem runCalc_of_fits (hcalc : f u.drawn r k u.freeCtr = (x, u.drawn)) (hfits : x.output.length ≤ r.desc.outCap.toNat) :
    runCalc f r k u = delivered r k x (countOps x.ops u.drawn) := by
  simp only [State.drawn] at hcalc
  simp only [runCalc, hcalc, Nat.not_lt.mpr hfits, if_false]
  rfl

/-- A command answers what its calculation gives, where that keeps the state. -/
theorem answers_of_calc (hexec : exec i s = runCmd c pre f rid none s) (hat : AtCommand c pre s rid r k u)
    (hcalc : f u.drawn r k u.freeCtr = (x, u.drawn)) (hbare : x.bare = a.bare) : Answers i s r k u a := by
  intro hfits
  have hx : x = { a with ops := x.ops } := Answer.eq_with_ops_of_bare hbare
  rw [hx] at hcalc
  refine ⟨x.ops, ?_⟩
  rw [hexec, runCmd_of_atCommand hat, runCalc_of_fits hcalc hfits]
  rfl

theorem answers_of_pureCalc (hexec : exec i s = runCmd c pre (pureCalc g) rid none s) (hat : AtCommand c pre s rid r k u)
    (hbare : (g r k u.freeCtr).bare = a.bare) : Answers i s r k u a :=
  answers_of_calc hexec hat rfl hbare

/-- The confirmation that a calculation waits for: that of the key, where there is one (R119). -/
def confirmsOf (x : Option KeyRec) : Bool := match x with | some y => y.confirmed | none => true

theorem not_confirmsOf_of_all {o : Option KeyRec} (h : ∀ x, o = some x → x.confirmed = true) : ¬ (!confirmsOf o) = true := by
  cases o with
  | none => decide
  | some y => simp [confirmsOf, h y rfl]

/-- Both keys confirm, so the calculation runs and only the slots of the confirmations are added (R119). -/
theorem withConfirm_of_confirmed (hconf : Confirmed k) (n : Nat) :
    ∃ x, withConfirm (pureCalc g) s r k n = (x, s) ∧ x.bare = (g r k n).bare := by
  obtain ⟨ha, hb⟩ := hconf
  exact ⟨_, (if_neg (not_confirmsOf_of_all ha)).trans (if_neg (not_confirmsOf_of_all hb)), rfl⟩

theorem answers_of_confirmed (hexec : exec i s = runCmd c pre (withConfirm (pureCalc g)) rid none s)
    (hat : AtCommand c pre s rid r k u) (hconf : Confirmed k) (hbare : (g r k u.freeCtr).bare = a.bare) :
    Answers i s r k u a := by
  obtain ⟨x, hcalc, hx⟩ := withConfirm_of_confirmed (s := u.drawn) (r := r) (g := g) hconf u.freeCtr
  exact answers_of_calc hexec hat hcalc (hx.trans hbare)

end Sequencer

end Sys2Proof.Machine

/-! PIN blocks and card verification values (R117-R128). -/

namespace Sys2Proof.Machine

section Compare
variable {s u : State} {rid : Nat} {r : Req} {k : Keys}

/-- The digits of the reference block of PIN_VERIFY_COMPARE, under KEY_B after the PIN block (R126). -/
def referencePin (r : Req) (k : Keys) : Option (List Nat) :=
  pinDecode (foutOf r) (matOf k.b) r.desc.panList (bytesAt r.input (pinLen (finOf r)) (pinLen (foutOf r)))

theorem pinVerifyCompare_answers (hat : AtCommand 0x0104 (prePin "P0" "DB" true) s rid r k u) (hconf : Confirmed k) :
    Answers (.pinVerifyCompare rid none) s r k u
      (verdict (match inputPin r k, referencePin r k with | some a, some b => a == b | _, _ => false)) :=
  answers_of_confirmed rfl hat hconf rfl

end Compare

/-- Settles O1: with the keys confirmed each command answers what its calculation gives, by whether the PIN block
decodes. -/
theorem pinAndCardCommandsAnswer : Obligations.PinAndCardCommandsAnswer := by
  intro s u rid r k hconf
  refine ⟨fun hat => answers_of_confirmed rfl hat hconf ?translate, fun hat => answers_of_confirmed rfl hat hconf ?verifyPvv,
    fun hat => answers_of_confirmed rfl hat hconf ?verifyOffset, fun hat => pinVerifyCompare_answers hat hconf,
    fun hat => answers_of_confirmed rfl hat hconf ?pvv, fun hat => answers_of_confirmed rfl hat hconf ?offset,
    fun hat => answers_of_confirmed rfl hat hconf rfl, fun hat => answers_of_confirmed rfl hat hconf rfl⟩
  all_goals
    cases inputPin r k with
    | none => rfl
    | some pin => rfl

/-- Settles O56: the verdict of the comparison by whether both blocks decode. -/
theorem pinVerifyCompareVerdict : Obligations.PinVerifyCompareVerdict := by
  intro s u rid r k hat hconf block reference
  have hanswers := pinVerifyCompare_answers hat hconf
  rw [show inputPin r k = block from rfl, show referencePin r k = reference from rfl] at hanswers
  refine ⟨fun p q hblock hreference _ heq => ?equal, fun p q hblock hreference hne => ?mismatch, fun hfails => ?undecoded⟩
  case equal => simpa [hblock, hreference, heq, verdict] using hanswers
  case mismatch => simpa [hblock, hreference, hne, verdict] using hanswers
  case undecoded =>
    rcases hfails with hnone | hnone
    · simpa [hnone, verdict] using hanswers
    · simpa [hnone, verdict] using hanswers

end Sys2Proof.Machine

/-! EMV, MAC and DUKPT (R129-R136). -/

namespace Sys2Proof.Machine

/-- Settles O2: with the keys confirmed each command answers what its calculation gives; ARQC_VERIFY_ARPC by whether the
ARQC verifies, DUKPT_PIN_TRANSLATE by whether the PIN block decodes. -/
theorem emvMacAndDukptCommandsAnswer : Obligations.EmvMacAndDukptCommandsAnswer := by
  intro s u rid r k hconf
  refine ⟨fun hat => answers_of_confirmed rfl hat hconf rfl, fun hat => answers_of_confirmed rfl hat hconf ?verifyArpc,
    fun hat => answers_of_confirmed rfl hat hconf rfl, fun hat => answers_of_confirmed rfl hat hconf rfl,
    fun hat => answers_of_confirmed rfl hat hconf rfl, fun hat => answers_of_confirmed rfl hat hconf rfl,
    fun hat => answers_of_confirmed rfl hat hconf rfl, fun hat => answers_of_confirmed rfl hat hconf ?pinTranslate,
    fun hat => answers_of_confirmed rfl hat hconf rfl, fun hat => answers_of_confirmed rfl hat hconf rfl,
    fun hat => answers_of_confirmed rfl hat hconf ?ikExport⟩
  case verifyArpc => dsimp only; split_ifs <;> rfl
  case pinTranslate =>
    dsimp only
    generalize pinDecode _ _ _ _ = p
    cases p <;> rfl
  case ikExport =>
    obtain ⟨_ | a, _ | b⟩ := k <;> rfl

end Sys2Proof.Machine

/-! The key commands (R85, R139-R143, R182, R370). -/

namespace Sys2Proof.Machine

section KeyImport
variable (r : Req) (k : Keys) (p : Block) (key : Bytes)

/-- The HMAC hash of the key in a key block (R142 step 4). -/
def importHash : Nat := if bytesAt r.input 5 2 == ascii "M7" then hmHash p.opts else 0

/-- The record that KEY_IMPORT makes of the key in its key block (R137, R142). -/
def importedRecord : KeyRec :=
  { symRecord (blockAttrs r.input key (importHash r p)) (4 + 8 * b2n (nbit r.desc.p 0)) r.domain key with vol := nbit r.desc.p 1 }

/-- The check value in a KC block is that of the record (R142). -/
def kcAgrees (hash : Nat) (x : KeyRec) : Bool :=
  match optOf p.opts "KC" with
  | some d => !(ascii "ATH").contains x.alg || (x.alg == chr "H" && hash == 0) || d == kcData x.alg x.kcv
  | none => true

/-- The steps of KEY_IMPORT from the unwrapped key on, in their order (R142): the KC block agrees, the attributes are accepted, a TDEA
key does not repeat, the protection key is strong enough, every optional block is known, and an M7 key names its hash.  `o` counts
the slots of the key block, `e` those of the new key. -/
def acceptAnswer (o e : List (Nat × Nat)) : Answer :=
  let x := importedRecord r p key
  if !kcAgrees p (importHash r p) x then { status := stVerify, ops := o }
  else
    match attrKind x false with
    | some kind => { status := stUsage, detail := 0x200 + kind, ops := o }
    | none =>
      if x.alg = chr "T" ∧ tdeaRepeats key then { status := stUsage, detail := 0x203, ops := o }
      else if (k.a.getD {}).strength < x.strength then { status := stUsage, detail := 0x104, ops := o }
      else
        match badOpt p.opts with
        | some off => { status := stMalformed, detail := malDetail off 10, ops := o }
        | none =>
          if x.usage = ascii "M7" ∧ importHash r p = 0 then
            { status := stMalformed, detail := malDetail ((p.opts.find? fun o => o.id == ascii "HM").map (·.off) |>.getD 12) 10
              ops := o }
          else { output := x.kcv, store := some x, ops := o ++ e }

theorem acceptAnswer_bare (o e : List (Nat × Nat)) : (acceptAnswer r k p key o e).bare = (acceptAnswer r k p key [] []).bare := by
  unfold acceptAnswer
  generalize importedRecord r p key = x
  dsimp only
  cases kcAgrees p (importHash r p) x with
  | false => rfl
  | true =>
    cases attrKind x false with
    | some kind => rfl
    | none =>
      cases badOpt p.opts with
      | some off => dsimp only; split_ifs <;> rfl
      | none => dsimp only; split_ifs <;> rfl

/-- The steps of KEY_IMPORT from the header on (R142), with the slots that it counts for a key block and for a new key. -/
def importAnswer (o : Block → List (Nat × Nat)) (e : KeyRec → List (Nat × Nat)) : Answer :=
  match parseBlock r.input with
  | .inr off => { status := stMalformed, detail := malDetail off 10 }
  | .inl p =>
    match openBlock r.input p (matOf k.a) with
    | none => { status := stVerify, ops := o p }
    | some key => acceptAnswer r k p key (o p) (e (importedRecord r p key))

theorem importAnswer_bare (o : Block → List (Nat × Nat)) (e : KeyRec → List (Nat × Nat)) :
    (importAnswer r k o e).bare = (importAnswer r k (fun _ => []) (fun _ => [])).bare := by
  unfold importAnswer
  cases parseBlock r.input with
  | inr off => rfl
  | inl p =>
    dsimp only
    cases openBlock r.input p (matOf k.a) with
    | none => rfl
    | some key => exact acceptAnswer_bare ..

/-- The slots that KEY_IMPORT counts for a key block (R507). -/
def importOps (n : Nat) : List (Nat × Nat) :=
  blockOps p.aes p.head ((r.input.length - p.head) / 2 - (if p.aes then 16 else 8)) n

end KeyImport

section KeyCommands
variable {s u : State} {rid : Nat} {r : Req} {k : Keys}

/-- The attributes, and the check value where the key is symmetric (R85, R141). -/
theorem keyInfo_answers (hat : AtCommand 0x0805 noPre s rid r k u) :
    Answers (.keyInfo rid none) s r k u
      (let x := k.a.getD {}
       { output := fit 16 x.attrs ++ (if x.symmetric then x.kcv else []) }) := by
  refine answers_of_pureCalc rfl hat ?_
  dsimp only
  cases (k.a.getD {}).symmetric with
  | true => rfl
  | false => exact congrArg (fun b => (okOut b).bare) (List.append_nil _).symm

theorem keyGenerate_answers (hat : AtCommand 0x0803 (fun _ r _ => preSymmetric r.input) s rid r k u) :
    Answers (.keyGenerate rid none) s r k u
      (let a := r.input.take 16
       let key := materialOf a (freeBytes u.freeCtr (leNat (bytesAt a 8 2) / 8))
       let x := symRecord a (entryFlags 1 a) r.domain key
       if x.alg = chr "T" ∧ tdeaRepeats key then { status := stUsage, detail := 0x203 }
       else { output := x.kcv, store := some x }) := by
  refine answers_of_pureCalc rfl hat ?_
  dsimp only [storeSymmetric]
  split_ifs <;> rfl

/-- The statement shows the key and the time, the signature the layer key: neither depends on the free values taken. -/
theorem keyAttest_answers (hat : AtCommand 0x0807 (fun _ _ k => require (nbit (k.a.getD {}).flags 0) (usageFail 1 1)) s rid r k u) :
    Answers (.keyAttest rid none) s r k u
      (let b := keyStatement u r (k.a.getD {})
       { output := b ++ layerSign u "MORILATIK-KYST-1" b u.freeCtr }) :=
  answers_of_calc rfl hat rfl rfl

theorem publicKeyImport_answers (hat : AtCommand 0x0808 prePubImport s rid r k u) :
    Answers (.publicKeyImport rid none) s r k u
      (let x : KeyRec := { attrs := r.input.take 16 }
       if pubAccepted x.alg x.bits (r.input.drop 16) then { store := some (pubRecord r (r.input.take 16) (r.input.drop 16)) }
       else { status := stRejected }) :=
  answers_of_pureCalc rfl hat rfl

/-- A KEY_EXPORT that needs no approval reserves none, and answers the wrapped block (R143). -/
theorem keyExport_answers {a b : KeyRec} (hat : AtCommand 0x0802 preExport s rid r k u) (hkeys : k = { a := some a, b := some b })
    (hfree : nbit b.flags 3 = false) :
    Answers (.keyExport rid none) s r k u
      (let o := fun i => (bytesAt r.input i 1).headD 0
       { output := wrapBlock a.isAes a.material
           (b.usage ++ [b.alg] ++ [optionOr (o 1) b.mode] ++ bytesAt r.input 4 2 ++ [optionOr (o 2) b.exportability])
           [o 3] (exportOpts (o 6).toNat b a) b.material (freeBytes u.freeCtr 64) }) := by
  subst hkeys
  have hcalc : calcExport u.drawn r { a := some a, b := some b } u.freeCtr = (exportAnswer r a b u.freeCtr, u.drawn) := by
    simp only [calcExport, hfree, Bool.false_eq_true, if_false]
  exact answers_of_calc rfl hat hcalc rfl

/-- KEY_IMPORT answers what its steps give, whatever slots they count (R142). -/
theorem keyImport_answers (hat : AtCommand 0x0801 preImport s rid r k u) :
    Answers (.keyImport rid none) s r k u (importAnswer r k (fun _ => []) (fun _ => [])) := by
  have hcalc : calcImport u.drawn r k u.freeCtr = (importAnswer r k (fun p => importOps r p u.freeCtr) entryOps, u.drawn) := rfl
  exact answers_of_calc rfl hat hcalc (importAnswer_bare ..)

end KeyCommands

/-- Settles O7: each clause is what its command answers. -/
theorem keyCommandsAnswer : Obligations.KeyCommandsAnswer := by
  intro s u rid r k
  exact ⟨keyGenerate_answers, keyImport_answers, keyInfo_answers, keyAttest_answers, publicKeyImport_answers,
    fun hat => answers_of_pureCalc rfl hat rfl, fun _ _ => keyExport_answers⟩

/-- Settles O58: the check value by the algorithm of the record, and what KEY_INFO answers for a symmetric key. -/
theorem checkValuesOfKeys : Obligations.CheckValuesOfKeys := by
  refine ⟨fun x halg => ?tdea, fun x halg => ?aes, fun x halg => ?hmac, fun s u rid r k x hat hkey hsym => ⟨?info, ?length⟩⟩
  case tdea => rw [KeyRec.kcv, kcvOf, if_pos halg]
  case aes => rw [KeyRec.kcv, kcvOf, halg, if_neg (by decide), if_pos rfl]
  case hmac => rw [KeyRec.kcv, kcvOf, halg, if_neg (by decide), if_neg (by decide)]
  case info => simpa only [hkey, Option.getD_some, hsym, if_true] using keyInfo_answers hat
  case length =>
    have hattrs : (fit 16 x.attrs).length = 16 := by simp [fit]
    rw [List.length_append, hattrs]

end Sys2Proof.Machine

/-! Custodians and dual control at an idle mailbox (R145-R148, R367, R368, R408, R409). -/

namespace Sys2Proof.Machine

/-- P0 [3:0] of a row with up to 16 operations is the number of its operation. -/
theorem p_mod_withOp_sixteen (code : Nat) {n : Nat} (hn : n < 16) (l : Launch) : (launched code (withOp 16 n l)).p % 16 = n := by
  rw [launched_p, withOp_p 16 n l hn rfl]
  omega

/-- What CUSTODIAN_SESSION gives whose operation completes at once. -/
theorem next_of_custodian_ends {n : Nat} {l : Launch} {s u v : State} {inp : Bytes} {y : Done}
    (htakes : MailboxTakes 0x6014 (withOp 16 n l) s inp u)
    (hrun : custodianRun (launched 0x6014 (withOp 16 n l)) l.env inp u = (some y, v)) :
    (.next (pump (hostLaunch 0x6014 (withOp 16 n l) s)) : Res) = .next (mailboxEnds 0x6014 (withOp 16 n l) y v) :=
  next_of_mailbox_ends htakes (by decide) ((mgtRun_6014 (withOp 16 n l) inp u).trans hrun)

section CustodianSession
variable {d : Desc} {env : LaunchEnv} {inp : Bytes} {u t : State}

theorem custodianRun_of_open (hop : d.p % 16 = 1) : custodianRun d env inp u = custOpen d env.card u := by
  simp only [custodianRun, hop]

theorem custodianRun_of_approve (hop : d.p % 16 = 2) : custodianRun d env inp u = custApprove d env.card inp u := by
  simp only [custodianRun, hop]

theorem custodianRun_of_withdraw (hop : d.p % 16 = 3) : custodianRun d env inp u = custWithdraw inp u := by
  simp only [custodianRun, hop]

theorem custodianRun_of_close (hop : d.p % 16 = 4) : custodianRun d env inp u = okCmd (updPort (portNo d) closeCard u) := by
  simp only [custodianRun, hop]

theorem custodianRun_of_status (hop : d.p % 16 = 5) :
    custodianRun d env inp u = outCmd (u.cust.approvals.flatMap (approvalBytes u.mtime)) u := by
  simp only [custodianRun, hop]

/-- The session that OPEN begins on a port for a custodian of the roster (R367). -/
def cardOpened (p id : Nat) (r : Custodian) (t : State) : State :=
  updPort p (fun x => { x with active := true, custodian := some id, roles := r.roles, openedAt := t.mtime, key := t.freeCtr })
    { t with freeCtr := t.freeCtr + 1 }

theorem custOpen_of_rostered {card : CardReply} {r : Custodian} (hpresent : (cardPort u (portNo d)).present = true)
    (hclosed : (cardPort u (portNo d)).custodian = none) (hcall : wardenCalls 1 u = some t) (hstays : card.removed = false)
    (hanswers : card.answers = true) (hsig : card.sigOk = true) (hverified : card.verified = 1)
    (hroster : rosterEntry t card.custodian.toNat = some r) :
    custOpen d card u = outCmd (leBytes 2 card.custodian.toNat ++ [r.roles]) (cardOpened (portNo d) card.custodian.toNat r t) := by
  have hentry : rosterEntry (draw t).2 card.custodian.toNat = some r := hroster
  simp only [custOpen, hpresent, hclosed, hcall, hstays, hanswers, hsig, hverified, hentry, Option.isSome_none, Bool.not_true,
    Bool.or_false, Bool.and_self, beq_self_eq_true, Bool.false_eq_true, if_false, if_true]
  rfl

/-- The approval that APPROVE makes from its input, the port's custodian and the component that its card answers (R147). -/
def approvalMade (d : Desc) (card : CardReply) (inp : Bytes) (id : Nat) (s : State) : Approval where
  number := s.cust.nextNumber
  statement := inp.take 64
  custodian := id
  roles := (cardPort s (portNo d)).roles
  port := portNo d
  expiry := s.mtime + 1000000000 * fld inp 64 2
  component := if nbit (fld inp 66 2) 0 then card.component else none

theorem custApprove_of_signed {card : CardReply} {id : Nat} (hopen : (cardPort u (portNo d)).custodian = some id)
    (hrole : (cardPort u (portNo d)).roles.getLsbD (b2n (nbit (fld inp 66 2) 0)) = true)
    (hroom : (addApproval (approvalMade d card inp id u) u.cust.approvals).length ≤ 16) (hstays : card.removed = false)
    (hanswers : card.answers = true) (hsig : card.sigOk = true)
    (hcomponent : nbit (fld inp 66 2) 0 = true → card.component.isSome = true) :
    custApprove d card inp u = outCmd (leBytes 2 u.cust.nextNumber) { u with cust := { u.cust with
      approvals := addApproval (approvalMade d card inp id u) u.cust.approvals
      nextNumber := u.cust.nextNumber % 65535 + 1 } } := by
  have hgot : (nbit (fld inp 66 2) 0 && card.component.isNone) = false := by
    cases hwants : nbit (fld inp 66 2) 0 with
    | false => rfl
    | true => simp [Option.isNone_eq_false_iff.mpr (hcomponent hwants)]
  simp only [approvalMade] at hroom ⊢
  simp [custApprove, hopen, hrole, Nat.not_lt.mpr hroom, hstays, hanswers, hsig, hgot]

theorem custWithdraw_of_free {a : Approval} (hfound : u.cust.approvals.find? (fun x => x.number == fld inp 0 2) = some a)
    (hfree : a.reserved = false) :
    custWithdraw inp u = okCmd (setApprovals (u.cust.approvals.filter fun x => x.number != a.number) u) := by
  simp only [custWithdraw, hfound, hfree, Bool.false_eq_true, if_false]

end CustodianSession

/-- A reservation only marks approvals (R148). -/
theorem eq_setApprovals_of_reserveApprovals {n role : Nat} {st : Bytes} {s t : State} {a : List Approval}
    (h : reserveApprovals n role st s = .inl (a, t)) : ∃ l, t = setApprovals l s := by
  unfold reserveApprovals at h
  dsimp only at h
  split_ifs at h
  cases h
  exact ⟨_, rfl⟩

/-- The state with the module unlocked and its latches cleared (R409 steps 1 and 3). -/
def latchesCleared (s : State) : State :=
  { s with tmp := { s.tmp with latched := 0, locked := false, erased := false, seedKilled := false, killRunning := false } }

/-- The DRBGs of the consumers and the masks drawn anew where the source serves (R409). -/
def randomnessRenewed (s : State) : State :=
  if s.ent.startupDone && !s.ent.sourceFail then
    reseedMasks (instantiateAll (consumerInsts s 1 ++ consumerInsts s 2 ++ consumerInsts s 3) s) else s

theorem unlockNow_of_unerased {s : State} (hkept : s.tmp.erased = false) :
    unlockNow s = okCmd (refreshHold (logEvent 0xB02 (leBytes 4 s.tmp.lockSeq ++ [0]) (randomnessRenewed (latchesCleared s)))) := by
  simp only [unlockNow, hkept, Bool.false_eq_true, if_false]
  rfl

/-- An UNLOCK with the lock's number, no condition present and its approvals unlocks, and consumes them (R408, R409). -/
theorem unlockRun_of_approved {d : Desc} {env : LaunchEnv} {inp : Bytes} {u v t : State} {a : List Approval}
    (hv : v = { u with tmp := { u.tmp with active := env.tmpActive } }) (hlocked : u.tmp.locked = true)
    (hscrapped : u.lcs.state ≠ .scrapped) (hinvalid : u.lcs.state ≠ .invalid) (hclear : env.tmpActive = 0)
    (hkept : u.tmp.erased = false) (hnumber : fld inp 0 8 = u.tmp.lockSeq)
    (happroved : reserveApprovals (unlockApprovals v) 0 (opStatement d 0xFFFF inp) v = .inl (a, t)) :
    unlockRun d env inp u = okCmd (settleApprovals true (opStatement d 0xFFFF inp)
      (refreshHold (logEvent 0xB02 (leBytes 4 t.tmp.lockSeq ++ [0]) (randomnessRenewed (latchesCleared t))))) := by
  have hnow : t.tmp.erased = false := by
    obtain ⟨l, rfl⟩ := eq_setApprovals_of_reserveApprovals happroved
    rw [hv]
    exact hkept
  have hrun : dualControl (unlockApprovals v) d inp unlockNow v = okCmd (settleApprovals true (opStatement d 0xFFFF inp)
      (refreshHold (logEvent 0xB02 (leBytes 4 t.tmp.lockSeq ++ [0]) (randomnessRenewed (latchesCleared t))))) := by
    simp only [dualControl, happroved, unlockNow_of_unerased hnow]
    rfl
  rw [← hrun, hv]
  simp [unlockRun, hlocked, hscrapped, hinvalid, hclear, hnumber]

/-- Settles O25: the mailbox takes each command, which then completes with what its run answers. -/
theorem custodianCommandsComplete : Obligations.CustodianCommandsComplete := by
  intro s u l inp
  have hop {n : Nat} (hn : n < 16) : (launched 0x6014 (withOp 16 n l)).p % 16 = n := p_mod_withOp_sixteen 0x6014 hn l
  refine ⟨fun t r htakes hpresent hclosed hcall hstays hanswers hsig hverified hroster => ?opens,
    fun id htakes hopen hrole hroom hstays hanswers hsig hcomponent => ?approve,
    fun a htakes hfound hfree => ?withdraw, fun htakes => ?close, fun htakes => ?status,
    fun a t htakes hlocked hscrapped hinvalid hclear hkept hnumber happroved => ?unlock⟩
  case opens =>
    exact next_of_custodian_ends htakes ((custodianRun_of_open (hop (by decide))).trans
      (custOpen_of_rostered hpresent hclosed hcall hstays hanswers hsig hverified hroster))
  case approve =>
    exact next_of_custodian_ends htakes ((custodianRun_of_approve (hop (by decide))).trans
      (custApprove_of_signed hopen hrole hroom hstays hanswers hsig hcomponent))
  case withdraw =>
    exact next_of_custodian_ends htakes ((custodianRun_of_withdraw (hop (by decide))).trans (custWithdraw_of_free hfound hfree))
  case close => exact next_of_custodian_ends htakes (custodianRun_of_close (hop (by decide)))
  case status => exact next_of_custodian_ends htakes (custodianRun_of_status (hop (by decide)))
  case unlock =>
    exact next_of_mailbox_ends htakes (by decide) ((mgtRun_600D l inp u).trans
      (unlockRun_of_approved rfl hlocked hscrapped hinvalid hclear hkept hnumber happroved))

end Sys2Proof.Machine

/-! Data cipher, digests, HMAC, RANDOM and what a tenant reads of its slice (R85, R159-R165, R323). -/

namespace Sys2Proof.Machine

/-- No slice changes when a command takes its free values (log entry 7). -/
theorem slice_drawn (u : State) (n : Nat) : slice u.drawn n = slice u n := rfl

/-- Nothing that SLICE_INFO shows changes when a command takes its free values (log entry 7). -/
theorem sliceInfo_drawn (u : State) (n : Nat) : sliceInfo u.drawn n = sliceInfo u n := rfl

section TenantCommands
variable {s u : State} {rid : Nat} {r : Req} {k : Keys}

/-- The tag over the ciphertext decides: with it the plaintext is answered, without it VERIFY_FAILED and no byte (R160). -/
theorem gcmDecrypt_answers (hat : AtCommand 0x0604 (fun _ _ k => needKey 1 k.a "D0" "DB" "A" []) s rid r k u) :
    Answers (.gcmDecrypt rid none) s r k u
      (let c : Cipher := { aes := true, key := matOf k.a }
       let al := leNat (r.input.take 4)
       let len := r.input.length - 32 - al
       let ct := bytesAt r.input 4 len
       let iv := bytesAt r.input (4 + len + al) 12
       if gcmTag c iv (bytesAt r.input (4 + len) al) ct == r.input.drop (r.input.length - 16) then
         { output := gcmText c iv ct } else { status := stVerify }) := by
  refine answers_of_pureCalc rfl hat ?_
  dsimp only
  split_ifs with htag
  case pos => rfl
  case neg => rfl

/-- METER_READ shows the ring of the slice as it stands when the command runs (R323). -/
theorem meterRead_answers (hat : AtCommand 0x5003 noPre s rid r k u) :
    Answers (.meterRead rid none) s r k u
      { output := ((slice u r.slice).ring.take r.desc.p).reverse.flatMap RingEntry.bytes } := by
  rw [← slice_drawn u]
  exact answers_of_calc rfl hat rfl rfl

/-- SLICE_INFO shows the slice as it stands when the command runs (R323). -/
theorem sliceInfo_answers (hat : AtCommand 0x5004 noPre s rid r k u) :
    Answers (.sliceInfo rid none) s r k u { output := sliceInfo u r.slice } := by
  rw [← sliceInfo_drawn u]
  exact answers_of_calc rfl hat rfl rfl

end TenantCommands

/-- Settles O3: each command answers what its calculation gives; GCM_DECRYPT by whether the tag matches, METER_READ and
SLICE_INFO from a state that the free values taken leave as it is. -/
theorem cipherAndDigestCommandsAnswer : Obligations.CipherAndDigestCommandsAnswer := by
  intro s u rid r k
  refine ⟨?encrypt, ?decrypt, ?gcmEncrypt, gcmDecrypt_answers, ?sha256Blocks, ?sha512Blocks, ?keccakAbsorb, ?keccakSqueeze,
    ?hmacGenerate, ?hmacVerify, ?random, ?echo, meterRead_answers, sliceInfo_answers⟩
  all_goals exact fun hat => answers_of_pureCalc rfl hat rfl

end Sys2Proof.Machine

/-! RSA, the curves and the modular commands of the Oryx cores (R178, R179, R184-R186, R361). -/

namespace Sys2Proof.Machine

/-- A derived record is answered and stored unless it repeats a TDEA key; the slots of its entry are no part of the
answer (R138, R361). -/
theorem bare_of_derivedRecord (x : KeyRec) (key : Bytes) (slots : List (Nat × Nat)) :
    (if x.alg = chr "T" ∧ tdeaRepeats key then ({ status := stUsage, detail := 0x203 } : Answer)
      else { output := x.kcv, store := some x, ops := slots }).bare =
    (if x.alg = chr "T" ∧ tdeaRepeats key then ({ status := stUsage, detail := 0x203 } : Answer)
      else { output := x.kcv, store := some x }).bare := by
  split_ifs with hrepeats
  case pos => rfl
  case neg => rfl

/-- Settles O4: each command answers what its calculation gives. EDDSA_VERIFY by whether key and signature pass the
checks of R184, ECDH_DERIVE by whether the peer's point gives a secret: both calculations also count digest or entry
slots, which `Answers` leaves open. MOD_MUL once its operands stand at the places that R178 gives them. The calculations
of the other commands are the stated answers, term for term. -/
theorem oryxCommandsAnswer : Obligations.OryxCommandsAnswer := by
  intro s u rid r k
  refine ⟨?rsaSign, ?rsaVerify, ?rsaDecrypt, ?rsaEncrypt, ?rsaKeygen, ?ecdsaSign, ?ecdsaVerify, ?eddsaSign,
    fun hat => answers_of_pureCalc rfl hat ?eddsaVerify, fun hat => answers_of_pureCalc rfl hat ?ecdhDerive, ?ecKeygen,
    ?modExp, fun hat => answers_of_pureCalc rfl hat ?modMul⟩
  case eddsaVerify =>
    dsimp only
    split_ifs with hrejected
    case pos => rfl
    case neg => rfl
  case ecdhDerive =>
    dsimp only
    cases ecdhSecret (curveCode r k) (matOf k.a) (r.input.take (r.input.length - 16)) with
    | none => rfl
    | some z => exact bare_of_derivedRecord _ _ _
  case modMul =>
    simp only [Nat.mul_zero, Nat.add_zero, Nat.mul_one]
    rfl
  all_goals exact fun hat => answers_of_pureCalc rfl hat rfl

end Sys2Proof.Machine

/-! The post-quantum and hybrid commands (R87, R203-R227). -/

namespace Sys2Proof.Machine

/-- Below the limit of R100 the signing loop ends with its signature, so the calculation runs as it stands. -/
theorem limited_of_below {iters : Nat} {r : Req} (hbelow : r.isEnsign = true → iters < 128) (f : Calc) (t : State) (k : Keys)
    (n : Nat) : limited iters f t r k n = f t r k n := by
  refine if_neg fun hover => ?_
  obtain ⟨hens, hreached⟩ := Bool.and_eq_true_iff.mp hover
  exact absurd (hbelow hens) (Nat.not_lt.mpr (of_decide_eq_true hreached))

/-- No record of a live key changes when a command takes its free values (log entry 7). -/
theorem liveRecord_drawn (u : State) (sl h : Nat) : liveRecord u.drawn sl h = liveRecord u sl h := rfl

section SchemeCommands
variable {i : Instr} {c iters : Nat} {pre : Pre} {g : Req → Keys → Nat → Answer} {s u : State} {rid : Nat} {r : Req} {k : Keys}
  {a : Answer}

/-- A signature whose loop stays below its limit is what its calculation gives (R100). -/
theorem answers_of_limited (hexec : exec i s = runCmd c pre (limited iters (pureCalc g)) rid none s)
    (hat : AtCommand c pre s rid r k u) (hbelow : r.isEnsign = true → iters < 128) (hbare : (g r k u.freeCtr).bare = a.bare) :
    Answers i s r k u a :=
  answers_of_calc hexec hat (limited_of_below hbelow _ _ _ _) hbare

/-- The indices that remain are read from the live record as it stands when the command runs (R220). -/
theorem statefulRemaining_answers
    (hat : AtCommand 0x3107 (fun _ _ k => require ((k.a.getD {}).typ == 4) (usageFail 1 3)) s rid r k u) :
    Answers (.statefulRemaining rid none) s r k u
      (match liveRecord u r.slice r.desc.keyA.toNat with
       | some x => { output := leBytes 8 (totalIndices x.2.bits - x.2.nextIdx) }
       | none => { status := stNotFound, detail := 1 }) := by
  rw [← liveRecord_drawn u]
  cases hlive : liveRecord u.drawn r.slice r.desc.keyA.toNat with
  | none => exact answers_of_calc rfl hat (by simp only [hlive]) rfl
  | some x => exact answers_of_calc rfl hat (by simp only [hlive, okOut]) rfl

end SchemeCommands

/-- Settles O5: each command answers what its calculation gives. The two signatures do so because their loop stays below
its limit, HYBRID_VERIFY by whether the point of its public key decodes (log entry 34). The calculations of the other
commands are the stated answers, term for term, but for the digest slots that signing and verifying a long message
count, which `Answers` leaves open. -/
theorem latticeAndHybridCommandsAnswer : Obligations.LatticeAndHybridCommandsAnswer := by
  intro s u rid r k
  refine ⟨?mlkemKeygen, ?mlkemEncaps, ?mlkemDecaps, ?mldsaKeygen, ?mldsaVerify, ?hybridKemKeygen, ?hybridEncaps,
    ?hybridDecaps, ?hybridSignKeygen, fun hat => answers_of_pureCalc rfl hat ?hybridVerify,
    fun _ hat hbelow => answers_of_limited rfl hat hbelow rfl, fun _ hat hbelow => answers_of_limited rfl hat hbelow rfl⟩
  case hybridVerify =>
    dsimp only
    cases ecDecode p256 ((pubOf r k 2017).1.drop 1952) with
    | none => rfl
    | some q => rfl
  all_goals exact fun hat => answers_of_pureCalc rfl hat rfl

/-- Settles O6: each command answers what its calculation gives. STATEFUL_REMAINING reads its record from a state that the
free values taken leave as it is, STATEFUL_VERIFY answers by whether the public key begins with the type codes of its
set (R220). The calculations of the other commands are the stated answers, term for term, but for the digest slots that
the hash-based ones count, which `Answers` leaves open. -/
theorem hashAndCodeCommandsAnswer : Obligations.HashAndCodeCommandsAnswer := by
  intro s u rid r k
  refine ⟨?slhdsaKeygen, ?slhdsaSign, ?slhdsaVerify, ?statefulKeygen, fun hat => answers_of_pureCalc rfl hat ?statefulVerify,
    statefulRemaining_answers, ?hqcKeygen, ?hqcEncaps, ?hqcDecaps, ?mcelieceKeygen, ?mcelieceEncaps, ?mcelieceDecaps⟩
  case statefulVerify =>
    dsimp only
    split_ifs with hwrong
    case pos => rfl
    case neg => rfl
  all_goals exact fun hat => answers_of_pureCalc rfl hat rfl

end Sys2Proof.Machine

/-! Entropy events (R234-R238, R240, R242, R243, R245, R246, R387): what each leaves where its premise holds. -/

namespace Sys2Proof.Machine

section Cells
variable {s : State} {cell : Nat} (hrun : cellsRun s = true) (hlisted : (tget? s.ent.cells cell).isSome = true)
  (hhealthy : (tgetD s.ent.cells cell {}).healthy = true) (hcapture : s.ent.capture = false)
include hrun hlisted hhealthy hcapture

/-- A window of a source that serves gives all its conditioned bits to the block, and credits them where it passes (R235). -/
theorem execHealthWindowEnd_of_serving {w : List Bool} (hlength : w.length = 1024) (hserves : s.ent.sourceFail = false) :
    execHealthWindowEnd cell w s =
      let j := judgeWindow s.mtime w (tgetD s.ent.cells cell {})
      let n := condBits s.ent.cond w
      .next { s with ent := { s.ent with
        cells := tset s.ent.cells cell j.1, blockBits := s.ent.blockBits + n
        blockCredit := s.ent.blockCredit + (if j.2 then 0 else n), credit := satAdd 65 s.ent.credit (if j.2 then 0 else n) } } := by
  simp [execHealthWindowEnd, Option.isNone_eq_false_iff.mpr hlisted, hrun, hhealthy, hcapture, hlength, hserves]

/-- Too few ones move the trim up by one; away from both of its ends no period counts towards an edge (R233). -/
theorem execBalancingPeriodEnd_of_fewOnes {ones : Nat} (hfew : ones < 1966) (hinner : (tgetD s.ent.cells cell {}).trim < 62) :
    execBalancingPeriodEnd cell ones s = .next { s with ent := { s.ent with
      cells := tset s.ent.cells cell { tgetD s.ent.cells cell {} with
        trim := (tgetD s.ent.cells cell {}).trim + 1, edge := 0 } } } := by
  have hperiod : ¬ 4096 < ones := by omega
  have htrim : min 63 ((tgetD s.ent.cells cell {}).trim + 1) = (tgetD s.ent.cells cell {}).trim + 1 := by omega
  have hinside : (tgetD s.ent.cells cell {}).trim ≠ 62 := by omega
  simp [execBalancingPeriodEnd, Option.isNone_eq_false_iff.mpr hlisted, hrun, hhealthy, hcapture, hperiod, hfew, htrim, hinside]

end Cells

section Seeds
variable {s : State} (hserves : s.ent.sourceFail = false)
include hserves

theorem execSeedBlockClose_of_full (hfull : 768 ≤ s.ent.blockCredit) (hroom : s.ent.seeds < 32) :
    execSeedBlockClose s = .next { s with ent := { s.ent with
      seeds := s.ent.seeds + 1, blockCredit := s.ent.blockCredit - 768, blockBits := s.ent.blockCredit - 768 } } := by
  simp [execSeedBlockClose, hserves, Nat.not_lt.mpr hfull, Nat.not_le.mpr hroom]

theorem execDrbgReseed_of_due {i : Nat} (hnumber : i < 16) (hinst : (drbgOf s i).inst = true) (hdue : (drbgOf s i).due = true)
    (hseed : 0 < s.ent.seeds) :
    execDrbgReseed i s = .next (reseed i { s with ent := { s.ent with seeds := s.ent.seeds - 1 } }) := by
  simp [execDrbgReseed, hserves, hnumber, hinst, hdue, hseed]

theorem execDrbgWardenReinstantiate_of_started (hwhere : s.tmp.locked = true ∨ s.lcs.state = .returned)
    (hstarted : s.ent.startupDone = true) :
    execDrbgWardenReinstantiate s = .next (instantiateAll ((consumerInsts s 4).filter fun i => !(drbgOf s i).inst) s) := by
  simp [execDrbgWardenReinstantiate, hserves, hwhere, hstarted]

end Seeds

theorem execEntCheckpoint_of_running {s : State} (hrun : cellsRun s = true) (hwarden : s.wdn.lost = false) :
    execEntCheckpoint s = .next (let t := (List.range 64).foldl retireCell s
      if t.ent.startupDone || t.ent.sourceFail then sourceCheck t else t) := by
  simp only [execEntCheckpoint, hrun, hwarden, Bool.not_true, Bool.or_self, Bool.false_eq_true, if_false]

theorem execReseedDue_of_passed {s : State} {i : Nat} (hnumber : i < 16) (hinst : (drbgOf s i).inst = true)
    (hpassed : s.ent.interval ≤ (drbgOf s i).calls ∨ (drbgOf s i).reseedAt + 1000000000 ≤ s.mtime) :
    execReseedDue i s = .next (updDrbg i (fun d => { d with due := true }) s) := by
  simp [execReseedDue, hnumber, hinst, hpassed]

/-- Settles O13: each clause is the equation of its event in the case that its hypotheses pick. -/
theorem entropyEventsComplete : Obligations.EntropyEventsComplete := by
  intro s
  refine ⟨fun cell w hrun hlisted hhealthy hlength hcapture hserves => ?window,
    fun cell ones hrun hlisted hhealthy hfew hcapture hinner => ?period,
    execSeedBlockClose_of_full, execEntCheckpoint_of_running, fun _ => execReseedDue_of_passed,
    fun i hnumber hinst hdue hseed hserves => ?reseed,
    fun hwhere hstarted hserves => execDrbgWardenReinstantiate_of_started hserves hwhere hstarted⟩
  case window => exact execHealthWindowEnd_of_serving hrun hlisted hhealthy hcapture hlength hserves
  case period => exact execBalancingPeriodEnd_of_fewOnes hrun hlisted hhealthy hcapture hfew hinner
  case reseed => exact execDrbgReseed_of_due hserves hnumber hinst hdue hseed

end Sys2Proof.Machine

/-! What the entropy events leave as it was (R237, R240, R245). -/

namespace Sys2Proof.Machine

/-- A state without what an entropy event may change: the source and the instances, the log, the free values taken, and the
interrupt that SOURCE_FAIL raises (R240). -/
def State.sansEntropy (s : State) : State :=
  { s with ent := {}, log := {}, mgt := { s.mgt with irq := 0 }, pcie := { s.pcie with pba := [] }, out := [], freeCtr := 0 }

/-- What either branch leaves of the rest, their choice leaves. -/
theorem sansEntropy_ite {g : Prop} [Decidable g] {s x y : State} (hx : x.sansEntropy = s.sansEntropy)
    (hy : y.sansEntropy = s.sansEntropy) : (if g then x else y).sansEntropy = s.sansEntropy := by
  split
  · exact hx
  · exact hy

theorem sansEntropy_logEvent (typ : Nat) (payload : Bytes) (s : State) :
    (logEvent typ payload s).sansEntropy = s.sansEntropy :=
  sansEntropy_ite rfl rfl

theorem sansEntropy_sendMsix (v : Nat) (s : State) : (sendMsix v s).sansEntropy = s.sansEntropy :=
  sansEntropy_ite rfl (sansEntropy_ite rfl rfl)

theorem sansEntropy_raise (v : Nat) (s : State) : (raise v s).sansEntropy = s.sansEntropy :=
  sansEntropy_ite rfl (sansEntropy_ite (sansEntropy_sendMsix ..) rfl)

theorem sansEntropy_retireCell (s : State) (cell : Nat) : (retireCell s cell).sansEntropy = s.sansEntropy :=
  sansEntropy_ite rfl (sansEntropy_logEvent ..)

theorem sansEntropy_sourceCheck (s : State) : (sourceCheck s).sansEntropy = s.sansEntropy :=
  sansEntropy_ite rfl ((sansEntropy_raise ..).trans (sansEntropy_logEvent ..))

/-- One after another, steps that each leave the rest leave the rest. -/
theorem sansEntropy_foldl {f : State → Nat → State} (hstep : ∀ s n, (f s n).sansEntropy = s.sansEntropy) (l : List Nat)
    (s : State) : (l.foldl f s).sansEntropy = s.sansEntropy :=
  List.foldlRecOn (motive := fun t => t.sansEntropy = s.sansEntropy) l f rfl fun t ih n _ => (hstep t n).trans ih

theorem sansEntropy_instantiateAll (l : List Nat) (s : State) : (instantiateAll l s).sansEntropy = s.sansEntropy :=
  sansEntropy_foldl (f := fun s i => instantiate i s) (fun _ _ => rfl) l s

section Events
variable {s t : State}

/-- An event with a guard leaves the rest where both of its branches do. -/
theorem sansEntropy_of_guarded {g : Prop} [Decidable g] {x y : State}
    (h : (if g then Host.Outcome.next x else Host.Outcome.next y : Res) = .next t)
    (hx : x.sansEntropy = s.sansEntropy) (hy : y.sansEntropy = s.sansEntropy) : t.sansEntropy = s.sansEntropy := by
  rw [← apply_ite Host.Outcome.next] at h
  cases h
  exact sansEntropy_ite hx hy

theorem sansEntropy_of_execHealthWindowEnd {cell : Nat} {w : List Bool} (h : execHealthWindowEnd cell w s = .next t) :
    t.sansEntropy = s.sansEntropy := by
  simp only [execHealthWindowEnd] at h
  split_ifs at h <;> cases h <;> rfl

theorem sansEntropy_of_execBalancingPeriodEnd {cell ones : Nat} (h : execBalancingPeriodEnd cell ones s = .next t) :
    t.sansEntropy = s.sansEntropy :=
  sansEntropy_of_guarded h rfl (sansEntropy_ite (sansEntropy_logEvent ..) rfl)

theorem sansEntropy_of_execSeedBlockClose (h : execSeedBlockClose s = .next t) : t.sansEntropy = s.sansEntropy :=
  sansEntropy_of_guarded h rfl rfl

theorem sansEntropy_of_execEntCheckpoint (h : execEntCheckpoint s = .next t) : t.sansEntropy = s.sansEntropy :=
  have hretired := sansEntropy_foldl sansEntropy_retireCell (List.range 64) s
  sansEntropy_of_guarded h rfl (sansEntropy_ite ((sansEntropy_sourceCheck _).trans hretired) hretired)

theorem sansEntropy_of_execReseedDue {i : Nat} (h : execReseedDue i s = .next t) : t.sansEntropy = s.sansEntropy :=
  sansEntropy_of_guarded h rfl rfl

theorem sansEntropy_of_execDrbgReseed {i : Nat} (h : execDrbgReseed i s = .next t) : t.sansEntropy = s.sansEntropy :=
  sansEntropy_of_guarded h rfl rfl

theorem sansEntropy_of_execDrbgWardenReinstantiate (h : execDrbgWardenReinstantiate s = .next t) :
    t.sansEntropy = s.sansEntropy :=
  sansEntropy_of_guarded h (sansEntropy_instantiateAll ..) rfl

end Events

/-- Settles O52: each event leaves the state without its entropy part as it was, and the fields of the statement are fields of
that rest. -/
theorem frameOfEntropyEvents : Obligations.FrameOfEntropyEvents := by
  intro s t i hi hexec
  have hrest : t.sansEntropy = s.sansEntropy := by
    rcases hi with ⟨c, w, rfl⟩ | ⟨c, n, rfl⟩ | rfl | rfl | ⟨n, rfl⟩ | ⟨n, rfl⟩ | rfl
    · exact sansEntropy_of_execHealthWindowEnd hexec
    · exact sansEntropy_of_execBalancingPeriodEnd hexec
    · exact sansEntropy_of_execSeedBlockClose hexec
    · exact sansEntropy_of_execEntCheckpoint hexec
    · exact sansEntropy_of_execReseedDue hexec
    · exact sansEntropy_of_execDrbgReseed hexec
    · exact sansEntropy_of_execDrbgWardenReinstantiate hexec
  have field {α : Type} (f : State → α) : f t.sansEntropy = f s.sansEntropy := congrArg f hrest
  exact ⟨field (·.mtime), field (·.img), field (·.rqs), field (·.slices), field (·.adm), field (·.eng), field (·.lku),
    field (·.mem), field (·.kvt), field (·.fab), field (·.lcs), field (·.tmp), field (·.wdn), field (·.pwr), field (·.cust),
    field (·.ir), field (·.mgt.buf), field (·.pending)⟩

end Sys2Proof.Machine

/-! The lookup unit's commands (R269) and its time-driven events (R253, R256, R266): what each leaves. -/

namespace Sys2Proof.Machine

/-- With the unit free a command runs its operation whole on the operand registers (R269, log entry 27). -/
theorem lkuCmd_of_free {s : State} (op table index : Nat) (irq : Bool) (hbar : barOpen s = true) (hfree : s.lku.busy = false) :
    lkuCmd op table index irq s =
      let x := lkuOp op table index (wordsBytes s.lku.data) { s with lku := { s.lku with done := false } }
      .next (lkuEnd irq x.1 x.2.1 x.2.2) := by
  simp [lkuCmd, lkuRun, hbar, hfree]

theorem execLkuBatch_of_open {s : State} (irq : Bool) (records : Option (List BatchRec)) (hbar : barOpen s = true) :
    execLkuBatch irq records s = .next (lkuBatchRun irq records s) := by
  simp [execLkuBatch, hbar]

section Scrub
variable {node word : Nat} (s : State) (hnode : node < 49152) (hword : word < 128)
include hnode hword

theorem execTrieScrub_of_singleBit :
    execTrieScrub node word 1 s = .next { s with lku := { s.lku with scrubCorr := satAdd 16 s.lku.scrubCorr 1 } } := by
  simp [execTrieScrub, Nat.not_le.mpr hnode, Nat.not_le.mpr hword]

/-- A word with more bits in error stays uncorrectable until it is written (R256); the scrub logs it (log entry 28). -/
theorem execTrieScrub_of_moreBits {bits : Nat} (hbits : 2 ≤ bits) :
    execTrieScrub node word bits s = .next (noteTrie [128 * node + word] { s with lku := { s.lku with
      badWords := if s.lku.badWords.contains (128 * node + word) then s.lku.badWords
        else (128 * node + word) :: s.lku.badWords } }) := by
  have hsome : bits ≠ 0 := by omega
  have hmore : bits ≠ 1 := by omega
  simp [execTrieScrub, Nat.not_le.mpr hnode, Nat.not_le.mpr hword, hsome, hmore]

end Scrub

/-- Settles O14: the twelve table commands are one rule for the free unit at twelve operations, and each other clause is the
equation of its command or event. -/
theorem lookupCommandsComplete : Obligations.LookupCommandsComplete := by
  intro s index irq
  refine ⟨fun hbar hfree => ?tables, fun records hbar => execLkuBatch_of_open irq records hbar, rfl, rfl,
    fun node word hnode hword => ⟨execTrieScrub_of_singleBit s hnode hword, fun _ => execTrieScrub_of_moreBits s hnode hword⟩⟩
  case tables =>
    have run op table := lkuCmd_of_free op table index.toNat irq hbar hfree
    exact ⟨run 1 0, run 2 0, run 4 0, run 3 0, run 5 0, run 1 1, run 2 1, run 4 1, run 3 1, run 3 2, run 3 3, run 3 4⟩

end Sys2Proof.Machine

/-! The messages of a domain from a peer (R297, R298, R301, R302): what each leaves once its frame is accepted. -/

namespace Sys2Proof.Machine

section PeerMessages
variable {s t : State} {h : FrameHead} {x : Session} {n d : Nat}
  (hmsg : recvMsg h s = .inr (x, t)) (hpeer : x.tenant = false) (hnode : x.node = some n)
include hmsg hpeer

/-- A fresh message of a peer session reaches what handles it (R287). -/
theorem onPeer_of_peer (f : Session → State → State) : onPeer h f s = f x t := by
  simp [onPeer, hmsg, hpeer]

include hnode

section Claim
variable {p k : Nat} (hfresh : (domainOf t d).pennant < p)
include hfresh

/-- A fresh claim that names another standby: this module holds nothing for the domain any longer (R301). -/
theorem execClaimMessage_of_otherStandby (reason sequence : Nat)
    (hother : some k ≠ (writeStandby d k (learnPeer d n p n t)).fab.nodeId) :
    execClaimMessage h d reason p n k sequence s =
      let v := writeStandby d k (learnPeer d n p n t)
      .next (pump { v with fab := { v.fab with sby := terase v.fab.sby d } }) := by
  rw [execClaimMessage, claimMessage, onPeer_of_peer hmsg hpeer]
  simp [hnode, hfresh, hother]

/-- A fresh claim that names this module, which holds no key set of the domain: it asks for a full snapshot (R301). -/
theorem execClaimMessage_of_newStandby (reason sequence : Nat)
    (hself : some k = (writeStandby d k (learnPeer d n p n t)).fab.nodeId)
    (hnew : (tgetD (writeStandby d k (learnPeer d n p n t)).fab.sby d {}).haveSet = false) :
    execClaimMessage h d reason p n k sequence s = .next (pump (startResync d (writeStandby d k (learnPeer d n p n t)))) := by
  rw [execClaimMessage, claimMessage, onPeer_of_peer hmsg hpeer]
  simp [hnode, hfresh, ← hself, hnew]

end Claim

section Snapshot
variable {kind p : Nat} {l : List SnapItem} (hremote : (domainOf t d).state = 2) (howner : (domainOf t d).owner = n)
  (hsby : (domainOf t d).sby = true) (hself : t.fab.nodeId = some (domainOf t d).standby)
  (hbelieved : (domainOf t d).pennant ≤ p) (hset : (tgetD t.fab.sby d {}).haveSet = true)
include hremote howner hsby hself hbelieved hset

theorem execSnapshotMessage_of_noRoom (sequence : Nat) (hroom : snapshotFits t l = false) :
    execSnapshotMessage h d kind p sequence (some l) s = .next (sendResync h.session d 3 sequence t) := by
  rw [execSnapshotMessage, onPeer_of_peer hmsg hpeer]
  simp [hnode, hremote, howner, hsby, hself, Nat.not_lt.mpr hbelieved, hset, hroom]

/-- A part of a full snapshot is stored behind what waits already, and not acknowledged (R298). -/
theorem execSnapshotMessage_of_part (sequence : Nat) (hroom : snapshotFits t l = true) :
    execSnapshotMessage h d 3 p sequence (some l) s =
      let b := tgetD t.fab.sby d {}
      .next { t with fab := { t.fab with sby := tset t.fab.sby d { b with
        haveSet := true
        pending := b.pending ++ [(sequence, l.filter fun i => !(i.handle == 0 && i.slice == 0))] } } } := by
  rw [execSnapshotMessage, onPeer_of_peer hmsg hpeer]
  simp [hnode, hremote, howner, hsby, hself, Nat.not_lt.mpr hbelieved, hset, hroom]

/-- A delta, or the end of a full snapshot, is stored and acknowledged (R298). -/
theorem execSnapshotMessage_of_deltaOrEnd (sequence : Nat) (hroom : snapshotFits t l = true) (hkind : kind = 1 ∨ kind = 4) :
    execSnapshotMessage h d kind p sequence (some l) s =
      let b := tgetD t.fab.sby d {}
      .next (sendResync h.session d 2 sequence { t with fab := { t.fab with sby := tset t.fab.sby d { b with
        haveSet := true
        pending := b.pending ++ [(sequence, l.filter fun i => !(i.handle == 0 && i.slice == 0))]
        stored := sequence } } }) := by
  have hbegin : kind ≠ 2 := by omega
  rw [execSnapshotMessage, onPeer_of_peer hmsg hpeer]
  simp [hnode, hremote, howner, hsby, hself, Nat.not_lt.mpr hbelieved, hset, hroom, hkind, hbegin]

end Snapshot

section FromStandby
variable (hlocal : (domainOf t d).state = 1) (hsby : (domainOf t d).sby = true) (hstandby : (domainOf t d).standby = n)
include hlocal hsby hstandby

theorem execResyncRequest_of_standby (p : Nat) : execResyncRequest h d p s = .next (sendFull d t) := by
  rw [execResyncRequest, onPeer_of_peer hmsg hpeer]
  simp [hlocal, hsby, hstandby, hnode]

/-- The limits up to the sequence commit, then a handover may go on (R218, R302). -/
theorem execResyncStored_of_standby (p q : Nat) :
    execResyncStored h d p q s =
      let o := tgetD t.fab.own d {}
      let hit := fun (l : Nat × Nat × Nat × Nat) => l.1 != 0 && l.1 ≤ q
      let u : State := { t with fab := { t.fab with own := tset t.fab.own d { o with
        stored := max o.stored q, rejected := false, limits := o.limits.filter fun l => !hit l } } }
      .next (askClaim d ((o.limits.filter hit).foldl
        (fun w l => storeLimit l.2.1 l.2.2.1 l.2.2.2 (useLimit l.2.1 l.2.2.1 l.2.2.2 w)) u)) := by
  rw [execResyncStored, onPeer_of_peer hmsg hpeer]
  simp only [hlocal, hsby, hstandby, hnode, and_self, if_true]

/-- The standby is noted as full, and a handover that waits for it is given up (R298, log entry 35). -/
theorem execResyncReject_of_standby (p : Nat) :
    execResyncReject h d p s =
      let v := fabEvent 7 (logEvent 0x505 (leBytes 2 d ++ leBytes 2 n)
        { t with fab := { t.fab with own := tupd t.fab.own d {} fun o => { o with rejected := true } } })
      .next (pump (if (tgetD v.fab.own d {}).handover then abandonHandover d v else v)) := by
  rw [execResyncReject, resyncReject, onPeer_of_peer hmsg hpeer]
  simp only [hlocal, hsby, hstandby, hnode, and_self, if_true]

end FromStandby

theorem execResyncHandover_of_owner (p : Nat) (hremote : (domainOf t d).state = 2) (howner : (domainOf t d).owner = n)
    (htake : mayTake t d = true) : execResyncHandover h d p s = .next (takeDomain d 3 n t) := by
  rw [execResyncHandover, onPeer_of_peer hmsg hpeer]
  simp [hremote, howner, hnode, htake]

end PeerMessages

theorem execSnapshotInstall_of_remote {s : State} {d : Nat} (hup : fabricUp s = true) (hremote : (domainOf s d).state = 2) :
    execSnapshotInstall d s = .next (installStored d 1 s) := by
  simp [execSnapshotInstall, hup, hremote]

/-- Settles O41: each clause is the equation of its message in the case that its hypotheses pick. -/
theorem domainMessagesComplete : Obligations.DomainMessagesComplete := by
  intro s h x t n hmsg hpeer hnode
  refine ⟨fun d reason p k sequence hfresh => ⟨fun hother => ?otherStandby, fun hself hnew => ?newStandby⟩,
    fun d kind p sequence l hremote howner hsby hself hbelieved hkind hset =>
      ⟨fun hroom => ?noRoom, fun hroom => ⟨?part, ?deltaOrEnd⟩⟩,
    fun d => execSnapshotInstall_of_remote,
    fun d p hlocal hsby hstandby => ⟨?request, fun q => ?stored, ?reject⟩,
    fun d p => execResyncHandover_of_owner hmsg hpeer hnode p⟩
  case otherStandby => exact execClaimMessage_of_otherStandby hmsg hpeer hnode hfresh reason sequence hother
  case newStandby => exact execClaimMessage_of_newStandby hmsg hpeer hnode hfresh reason sequence hself hnew
  case noRoom => exact execSnapshotMessage_of_noRoom hmsg hpeer hnode hremote howner hsby hself hbelieved hset sequence hroom
  case part =>
    rintro rfl
    exact execSnapshotMessage_of_part hmsg hpeer hnode hremote howner hsby hself hbelieved hset sequence hroom
  case deltaOrEnd =>
    exact execSnapshotMessage_of_deltaOrEnd hmsg hpeer hnode hremote howner hsby hself hbelieved hset sequence hroom
  case request => exact execResyncRequest_of_standby hmsg hpeer hnode hlocal hsby hstandby p
  case stored => exact execResyncStored_of_standby hmsg hpeer hnode hlocal hsby hstandby p q
  case reject => exact execResyncReject_of_standby hmsg hpeer hnode hlocal hsby hstandby p

end Sys2Proof.Machine

/-! What the lookup unit's commands leave as it was (R253, R269, R272). -/

namespace Sys2Proof.Machine

/-- A state without what a lookup command may change: the tables, the log, and the interrupt that LOOKUP raises (R269). -/
def State.sansLookup (s : State) : State :=
  { s.sansEntropy with ent := s.ent, lku := {} }

/-- A step that leaves the state without its entropy part, and that part too, changes no more than the reports. -/
theorem sansLookup_of_sansEntropy {s t : State} (hrest : t.sansEntropy = s.sansEntropy) (hent : t.ent = s.ent) :
    t.sansLookup = s.sansLookup := by
  rw [State.sansLookup, State.sansLookup, hrest, hent]

theorem sansLookup_logEvent (typ : Nat) (payload : Bytes) (s : State) : (logEvent typ payload s).sansLookup = s.sansLookup :=
  sansLookup_of_sansEntropy (sansEntropy_logEvent ..) (logEvent_ent ..)

theorem raise_ent (v : Nat) (s : State) : (raise v s).ent = s.ent := by
  simp only [raise, sendMsix]
  split_ifs <;> rfl

theorem sansLookup_raise (v : Nat) (s : State) : (raise v s).sansLookup = s.sansLookup :=
  sansLookup_of_sansEntropy (sansEntropy_raise ..) (raise_ent ..)

/-- What both branches leave of the rest, their choice leaves; `f` is the state in what a branch answers. -/
theorem sansLookup_ite {α : Type} (f : α → State) {g : Prop} [Decidable g] {s : State} {x y : α}
    (hx : (f x).sansLookup = s.sansLookup) (hy : (f y).sansLookup = s.sansLookup) :
    (f (if g then x else y)).sansLookup = s.sansLookup := by
  split
  · exact hx
  · exact hy

/-- The same for what an operation answers: code, result operand and state. -/
theorem sansLookup_opIte {g : Prop} [Decidable g] {s : State} {x y : Nat × Option Bytes × State}
    (hx : x.2.2.sansLookup = s.sansLookup) (hy : y.2.2.sansLookup = s.sansLookup) :
    (if g then x else y).2.2.sansLookup = s.sansLookup :=
  sansLookup_ite (α := Nat × Option Bytes × State) (·.2.2) hx hy

theorem sansLookup_noteTrie (bad : List Nat) (s : State) : (noteTrie bad s).sansLookup = s.sansLookup :=
  List.foldlRecOn (motive := fun t : State => t.sansLookup = s.sansLookup) bad _ rfl
    fun _ ih _ _ => (sansLookup_logEvent ..).trans ih

theorem sansLookup_stashLevel (s : State) : (stashLevel s).sansLookup = s.sansLookup :=
  sansLookup_ite id (sansLookup_logEvent ..) rfl

theorem sansLookup_stashMove (l : List (Nat × EmEntry)) (s : State) : (stashMove l s).sansLookup = s.sansLookup := by
  induction l generalizing s with
  | nil => rfl
  | cons e r ih =>
    rw [stashMove]
    split
    · exact ih _
    · exact ih s

theorem sansLookup_stashRetry (s : State) : (stashRetry s).sansLookup = s.sansLookup :=
  (sansLookup_stashLevel _).trans (sansLookup_stashMove ..)

/-! The operations, each in the state that it answers with. -/

theorem sansLookup_emInsert (e : EmEntry) (s : State) : (emInsert e s).2.sansLookup = s.sansLookup := by
  refine sansLookup_ite Prod.snd rfl ?_
  split
  · rfl
  · rfl
  · rfl
  · split
    · rfl
    · exact sansLookup_ite Prod.snd (sansLookup_stashLevel _) (sansLookup_logEvent ..)

theorem sansLookup_emDelete (slice handle : Nat) (s : State) : (emDelete slice handle s).2.sansLookup = s.sansLookup := by
  unfold emDelete
  split
  · exact sansLookup_stashRetry _
  · exact sansLookup_stashLevel _
  · rfl
  · rfl

theorem sansLookup_emReplace (e : EmEntry) (s : State) : (emReplace e s).2.sansLookup = s.sansLookup := by
  simp only [emReplace]
  split <;> rfl

theorem sansLookup_emOp (op : Nat) (b : Bytes) (s : State) : (emOp op b s).2.2.sansLookup = s.sansLookup := by
  refine sansLookup_opIte (sansLookup_opIte rfl (sansLookup_opIte (sansLookup_emDelete ..) ?read))
    (sansLookup_opIte rfl (sansLookup_opIte (sansLookup_emReplace ..)
      (sansLookup_opIte rfl (sansLookup_emInsert ..))))
  case read => split <;> rfl

theorem sansLookup_trieInsertOp (ds : List Nat) (dom : Nat) (s : State) :
    (trieInsertOp ds dom s).2.sansLookup = s.sansLookup := by
  simp only [trieInsertOp]
  split_ifs <;> rfl

theorem sansLookup_trieDeleteOp (ds : List Nat) (s : State) : (trieDeleteOp ds s).2.sansLookup = s.sansLookup := by
  unfold trieDeleteOp
  split <;> rfl

theorem sansLookup_trieReplaceOp (ds : List Nat) (dom : Nat) (s : State) :
    (trieReplaceOp ds dom s).2.sansLookup = s.sansLookup := by
  unfold trieReplaceOp
  split <;> rfl

theorem sansLookup_trieOp (op : Nat) (b : Bytes) (s : State) : (trieOp op b s).2.2.sansLookup = s.sansLookup := by
  refine sansLookup_opIte ?search ?other
  case search =>
    split
    · exact sansLookup_opIte rfl (sansLookup_noteTrie ..)
    · rfl
  case other =>
    split
    · rfl
    · refine sansLookup_opIte rfl (sansLookup_opIte (sansLookup_trieInsertOp ..)
        (sansLookup_opIte (sansLookup_trieDeleteOp ..) (sansLookup_opIte (sansLookup_trieReplaceOp ..) ?read)))
      case read => split <;> rfl

theorem tableRead_state (table index : Nat) (s : State) : (tableRead table index s).2.2 = s := by
  unfold tableRead
  split_ifs <;> rfl

/-- Whatever the operation, table and operand, and whether or not it is refused. -/
theorem sansLookup_lkuOp (op table index : Nat) (b : Bytes) (s : State) :
    (lkuOp op table index b s).2.2.sansLookup = s.sansLookup := by
  unfold lkuOp
  split_ifs
  · rfl
  · rfl
  · rfl
  · exact sansLookup_trieOp ..
  · exact sansLookup_emOp ..
  · rw [tableRead_state]

theorem sansLookup_lkuEnd (irq : Bool) (code : Nat) (out : Option Bytes) (s : State) :
    (lkuEnd irq code out s).sansLookup = s.sansLookup :=
  sansLookup_ite id (sansLookup_raise ..) rfl

theorem sansLookup_lkuRun (op table index : Nat) (irq : Bool) (s : State) :
    (lkuRun op table index irq s).sansLookup = s.sansLookup :=
  sansLookup_ite id (sansLookup_logEvent ..) ((sansLookup_lkuEnd ..).trans (sansLookup_lkuOp ..))

theorem sansLookup_of_lkuCmd {op table index : Nat} {irq : Bool} {s t : State} (h : lkuCmd op table index irq s = .next t) :
    t.sansLookup = s.sansLookup := by
  cases h
  exact sansLookup_ite id (sansLookup_lkuRun ..) rfl

/-- Settles O50: each of the twelve is one table command, which leaves the state without the lookup part as it was, and the
fields of the statement are fields of that rest. -/
theorem frameOfLookupCommands : Obligations.FrameOfLookupCommands := by
  intro s t i ⟨index, irq, hi⟩ hexec
  have hcmd : ∃ op table, exec i s = lkuCmd op table index.toNat irq s := by
    rcases hi with rfl | rfl | rfl | rfl | rfl | rfl | rfl | rfl | rfl | rfl | rfl | rfl <;> exact ⟨_, _, rfl⟩
  obtain ⟨op, table, hcmd⟩ := hcmd
  have hrest : t.sansLookup = s.sansLookup := sansLookup_of_lkuCmd (hcmd.symm.trans hexec)
  have field {α : Type} (f : State → α) : f t.sansLookup = f s.sansLookup := congrArg f hrest
  exact ⟨field (·.mtime), field (·.img), field (·.rqs), field (·.slices), field (·.adm), field (·.eng), field (·.ent),
    field (·.mem), field (·.kvt), field (·.fab), field (·.lcs), field (·.tmp), field (·.wdn), field (·.pwr), field (·.cust),
    field (·.ir), field (·.mgt.buf), field (·.pending)⟩

end Sys2Proof.Machine

/-! Membership, domains, engine abort and switchback at an idle mailbox (R195, R296, R301, R302, R304, R417). -/

namespace Sys2Proof.Machine

section Membership
variable {env : LaunchEnv} {inp : Bytes} {u : State}

/-- The module with the certificate and the seed addresses of the input (R304). -/
def memberInstalled (inp : Bytes) (s : State) : State :=
  { s with fab := { s.fab with
    cert := some (certOfBytes (inp.take 6832))
    seedAddrs := (List.range (fld inp 6832 1)).map fun i => bytesAt inp (6840 + 16 * i) 16 } }

/-- The first certificate, of this module and its cluster: every open session is rekeyed (R304). -/
theorem membershipRun_of_first {i : ImageCfg} (himage : u.img.cfg = some i) (hsigned : signed env.sig = true)
    (howner : u.kvt.ownerFpr = some (certOfBytes (inp.take 6832)).ownerFpr)
    (hself : (certOfBytes (inp.take 6832)).fpr = u.kvt.idFpr) (hnonzero : (certOfBytes (inp.take 6832)).cluster ≠ 0)
    (hcluster : (certOfBytes (inp.take 6832)).cluster = clusterId u) (hfirst : u.fab.cert = none) :
    membershipRun env inp u =
      let t := nodeSources i (memberInstalled inp u)
      okCmd ((t.fab.sessions.map fun e => e.2.fpr).foldl (fun v f => startHello f v) t) := by
  have hverified : (!signed env.sig || some (certOfBytes (inp.take 6832)).ownerFpr != u.kvt.ownerFpr ||
      (certOfBytes (inp.take 6832)).fpr != u.kvt.idFpr) = false := by simp [hsigned, howner, hself]
  have hmine : ¬ ((certOfBytes (inp.take 6832)).cluster = 0 ∨ (certOfBytes (inp.take 6832)).cluster ≠ clusterId u) :=
    not_or.mpr ⟨hnonzero, not_not_intro hcluster⟩
  simp only [membershipRun, hverified, hmine, hfirst, himage, Bool.false_eq_true, if_false]
  rfl

end Membership

section Domains
variable {d : Desc} {env : LaunchEnv} {inp : Bytes} {u : State}

theorem domainRun_of_create (path : MPath) (hop : d.p % 16 = 1) : domainRun path d env inp u = domainCreateRun env inp u := by
  simp only [domainRun, hop]

theorem domainRun_of_setStandby (path : MPath) (hop : d.p % 16 = 2) : domainRun path d env inp u = setStandbyRun d inp u := by
  simp only [domainRun, hop]

theorem domainRun_of_handover (path : MPath) (hop : d.p % 16 = 3) : domainRun path d env inp u = handoverRun path d u := by
  simp only [domainRun, hop]

section Create
variable (hsigned : signed env.sig = true) (howned : u.kvt.ownerFpr.isSome = true)
  (hcluster : BitVec.ofNat 64 (fld inp 8 8) = clusterId u) (hself : bytesAt inp 24 32 = u.kvt.idFpr)
  (howns : ownsDomains u = true) (hnewer : (domainOf u (fld inp 16 2)).pennant < fld inp 20 4)
include hsigned howned hcluster hself howns hnewer

/-- A domain that is LOCAL already is only claimed anew (R296, log entry 90). -/
theorem domainCreateRun_of_local (hlocal : (domainOf u (fld inp 16 2)).state = 1) :
    domainCreateRun env inp u = okCmd (ownClaim (fld inp 16 2) 1 (fld inp 20 4) (fld inp 18 2) u) := by
  simp [domainCreateRun, hsigned, Option.isNone_eq_false_iff.mpr howned, hcluster, hself, howns, Nat.not_le.mpr hnewer, hlocal]

/-- A domain that is not LOCAL gets a fresh key set and an empty snapshot before its claim (R296). -/
theorem domainCreateRun_of_foreign {t : State} (hforeign : (domainOf u (fld inp 16 2)).state ≠ 1)
    (hcall : wardenCalls 1 u = some t) :
    domainCreateRun env inp u =
      let n := fld inp 16 2
      okCmd (persistDomain n (ownClaim n 1 (fld inp 20 4) (fld inp 18 2) { t with
        freeCtr := t.freeCtr + 1, kvt := { t.kvt with dks := tset t.kvt.dks n t.freeCtr }
        fab := { t.fab with own := tset t.fab.own n {}, sby := terase t.fab.sby n } })) := by
  simp [domainCreateRun, hsigned, Option.isNone_eq_false_iff.mpr howned, hcluster, hself, howns, Nat.not_le.mpr hnewer,
    hforeign, hcall]

end Create

section Own
variable (howns : ownsDomains u = true) (hlocal : (domainOf u d.domain.toNat).state = 1)
  (hroom : (domainOf u d.domain.toNat).pennant ≠ 0xFFFFFFFF)
include howns hlocal hroom

/-- The standby is an alive peer that may stand by, or none (R301). -/
theorem setStandbyRun_of_admitted
    (hstandby : fld inp 0 2 = 0xFFFF ∨ ((peerOf u (fld inp 0 2)).state = 1 ∧ (peerOf u (fld inp 0 2)).mayStandby = true)) :
    setStandbyRun d inp u =
      okCmd (ownClaim d.domain.toNat 4 ((domainOf u d.domain.toNat).pennant + 1) (fld inp 0 2) u) := by
  rcases hstandby with hnone | ⟨halive, hmay⟩
  · simp [setStandbyRun, howns, hlocal, hroom, hnone]
  · simp [setStandbyRun, howns, hlocal, hroom, halive, hmay]

/-- The final delta is sent, and the command waits for the standby's claim (R302). -/
theorem handoverRun_of_stored (path : MPath) (hsby : (domainOf u d.domain.toNat).sby = true)
    (hstored : (tgetD u.fab.own d.domain.toNat {}).stored ≠ 0) :
    handoverRun path d u =
      let n := d.domain.toNat
      let v := askClaim n (sendDelta n
        { u with fab := { u.fab with own := tupd u.fab.own n {} fun o => { o with handover := true, asked := false } } })
      (none, { v with mgt := { v.mgt with running := some (.handover n path) } }) := by
  simp [handoverRun, howns, hlocal, hroom, hsby, hstored]

end Own

end Domains

theorem switchbackRun_of_standby {u : State} (hstandby : u.wdn.standby = true) (hidle : journalRuns u = false)
    (hunlocked : u.tmp.locked = false) : switchbackRun u = okCmd (failOver 6 u) := by
  simp [switchbackRun, hstandby, hidle, hunlocked]

/-- Settles O26: the mailbox takes each command, which then completes or waits with what its run answers. -/
theorem membershipAndWardenCommandsComplete : Obligations.MembershipAndWardenCommandsComplete := by
  intro s u l inp
  have hop {n : Nat} (hn : n < 16) : (launched 0x6016 (withOp 16 n l)).p % 16 = n := p_mod_withOp_sixteen 0x6016 hn l
  have hdomain {n : Nat} {x : Ran} (hrun : domainRun l.path (launched 0x6016 (withOp 16 n l)) l.env inp u = x) :
      mgtRun (withOp 16 n l).path (launched 0x6016 (withOp 16 n l)) (withOp 16 n l).env inp u = x :=
    (mgtRun_6016 (withOp 16 n l) inp u).trans hrun
  refine ⟨fun i htakes himage hsigned howner hself hnonzero hcluster hfirst => ?install,
    fun htakes hsigned howned hcluster hself howns hnewer =>
      ⟨fun hlocal => ?claimAnew, fun t hforeign hcall => ?create⟩,
    fun htakes howns hlocal hroom hstandby => ?setStandby, fun htakes howns hlocal hroom hsby hstored => ?handover,
    fun htakes => ?abort, fun htakes hstandby hidle hunlocked => ?switchback⟩
  case install =>
    exact next_of_mailbox_ends htakes (by decide) ((mgtRun_6015 l inp u).trans
      (membershipRun_of_first himage hsigned howner hself hnonzero hcluster hfirst))
  case claimAnew =>
    exact next_of_mailbox_ends htakes (by decide) (hdomain ((domainRun_of_create l.path (hop (by decide))).trans
      (domainCreateRun_of_local hsigned howned hcluster hself howns hnewer hlocal)))
  case create =>
    exact next_of_mailbox_ends htakes (by decide) (hdomain ((domainRun_of_create l.path (hop (by decide))).trans
      (domainCreateRun_of_foreign hsigned howned hcluster hself howns hnewer hforeign hcall)))
  case setStandby =>
    exact next_of_mailbox_ends htakes (by decide) (hdomain ((domainRun_of_setStandby l.path (hop (by decide))).trans
      (setStandbyRun_of_admitted howns hlocal hroom hstandby)))
  case handover =>
    exact next_of_mailbox_waits htakes (by decide) (hdomain ((domainRun_of_handover l.path (hop (by decide))).trans
      (handoverRun_of_stored howns hlocal hroom l.path hsby hstored)))
  case abort => exact next_of_mailbox_ends htakes (by decide) (mgtRun_6017 l inp u)
  case switchback =>
    exact next_of_mailbox_ends htakes (by decide) ((mgtRun_600C l inp u).trans
      (switchbackRun_of_standby hstandby hidle hunlocked))

end Sys2Proof.Machine

/-! Ports, time and discovery (R276, R277, R285, R288, R292): what each event leaves where its premise holds. -/

namespace Sys2Proof.Machine

section Ports
variable {s : State} {p : Nat} (hport : p < 2)
include hport

theorem execPortLinkChange_of_enabled (up : Bool) (henabled : portMode s p ≠ 0) (hwarden : wardenRuns s = true) :
    execPortLinkChange p up s = .next (setPort p { (portOf s p) with
      link := up, pcs := up, paused := up && (portOf s p).paused } s) := by
  simp [execPortLinkChange, Nat.not_le.mpr hport, henabled, hwarden]

theorem execPauseFrame_of_up (on : Bool) (hup : portUp s p = true) :
    execPauseFrame p on s = .next (setPort p { (portOf s p) with paused := on } s) := by
  simp [execPauseFrame, Nat.not_le.mpr hport, hup]

theorem execAddressResolution_of_own (hup : portUp s p = true) :
    execAddressResolution p true s = .next (emit (.address p) s) := by
  simp [execAddressResolution, hport, hup]

theorem execForeignFrame_of_up (hup : portUp s p = true) : execForeignFrame p s = .next (countDrop s) := by
  simp [execForeignFrame, hport, hup]

end Ports

/-- FAB_EVENT changes, and beyond it no more than the interrupt that it raises (R306, R470). -/
theorem sansEntropy_fabEvent (b : Nat) (s : State) :
    ∃ e, (fabEvent b s).sansEntropy = ({ s with fab := { s.fab with event := e } } : State).sansEntropy := by
  unfold fabEvent
  split
  · exact ⟨s.fab.event, rfl⟩
  · exact ⟨_, sansEntropy_raise ..⟩

theorem delays_of_mem_unmeasure {s : State} {e : Nat × PeerEntry} (hmem : e ∈ (unmeasure s).lku.peers) :
    e.2.delay0 = 0xFFFFFFFF ∧ e.2.delay1 = 0xFFFFFFFF := by
  obtain ⟨_, _, rfl⟩ := List.mem_map.mp hmem
  exact ⟨rfl, rfl⟩

/-- The state with an offset sample in FAB_PTP_OFFSET (R277). -/
def ptpSampled (off : Int) (s : State) : State :=
  { s with fab := { s.fab with ptpOffset := max (-2147483648) (min 2147483647 off) } }

/-- The same with MTIME unlocked and every delay forgotten (R277, R292). -/
def ptpUnlocked (off : Int) (s : State) : State :=
  unmeasure { ptpSampled off s with fab := { (ptpSampled off s).fab with ptpLocked := false, lockedAt := none } }

/-- The same with MTIME locked (R277). -/
def ptpLockedAt (off : Int) (s : State) : State :=
  { s with fab := { (ptpSampled off s).fab with ptpLocked := true, lockedAt := some s.mtime, ptpStepped := true } }

section Time
variable {s : State} (hwarden : wardenRuns s = true) (hmember : standalone s = false)
include hwarden hmember

theorem execPtpMessage_of_within {off : Int} (hwithin : s.fab.ptpLocked = false ∨ off.natAbs ≤ 1000) :
    execPtpMessage off s = .next (ptpSampled off s) := by
  rcases hwithin with hunlocked | hnear
  · simp [execPtpMessage, ptpSampled, hwarden, hmember, hunlocked]
  · simp [execPtpMessage, ptpSampled, hwarden, hmember, Nat.not_lt.mpr hnear]

theorem execPtpMessage_of_beyond {off : Int} (hlocked : s.fab.ptpLocked = true) (hfar : 1000 < off.natAbs) :
    execPtpMessage off s = .next (fabEvent 6 (ptpUnlocked off s)) := by
  simp only [execPtpMessage, hwarden, hmember, hlocked, hfar, decide_true, Bool.not_true, Bool.or_self, Bool.and_self,
    Bool.false_eq_true, if_true, if_false]
  rfl

section Lock
variable (off : Int) (hunlocked : s.fab.ptpLocked = false)
include hunlocked

theorem execPtpLock_of_later (hstepped : s.fab.ptpStepped = true) :
    execPtpLock off s = .next (fabEvent 6 (ptpLockedAt off s)) := by
  simp only [execPtpLock, hwarden, hmember, hunlocked, hstepped, Bool.not_true, Bool.or_self, Bool.false_eq_true, if_true,
    if_false]
  rfl

/-- The first lock steps MTIME forward by its lag and closes the sessions outside their validity (R277, R285). -/
theorem execPtpLock_of_first (hfirst : s.fab.ptpStepped = false) :
    execPtpLock off s =
      let t := fabEvent 6 (ptpLockedAt off { s with mtime := (s.mtime + (-off).toNat) % 2 ^ 64 })
      .next ((t.fab.sessions.filter fun e => outsideValidity t e.2.notBefore e.2.notAfter).foldl
        (fun u e => rejectHandshake 5 e.2.fpr (closeSession e.1 (some 5) u)) t) := by
  simp only [execPtpLock, hwarden, hmember, hunlocked, hfirst, Bool.not_true, Bool.or_self, Bool.false_eq_true, if_false]
  rfl

end Lock

/-- What a sample beyond 1 us leaves: no lock, no measured delay, and MTIME, requests and keys as they were (R277, R292). -/
theorem execPtpMessage_beyond_leaves {off : Int} (hlocked : s.fab.ptpLocked = true) (hfar : 1000 < off.natAbs) :
    ∃ t, execPtpMessage off s = .next t ∧ t.fab.ptpLocked = false ∧ t.fab.lockedAt = none ∧
      (∀ e ∈ t.lku.peers, e.2.delay0 = 0xFFFFFFFF ∧ e.2.delay1 = 0xFFFFFFFF) ∧
      t.mtime = s.mtime ∧ t.rqs = s.rqs ∧ t.kvt = s.kvt := by
  obtain ⟨e, hrest⟩ := sansEntropy_fabEvent 6 (ptpUnlocked off s)
  have field {α : Type} (f : State → α) := congrArg f hrest
  have hpeers : (fabEvent 6 (ptpUnlocked off s)).lku.peers = (ptpUnlocked off s).lku.peers := field (·.lku.peers)
  refine ⟨_, execPtpMessage_of_beyond hwarden hmember hlocked hfar, field (·.fab.ptpLocked), field (·.fab.lockedAt),
    fun e hmem => ?delays, field (·.mtime), field (·.rqs), field (·.kvt)⟩
  case delays => exact delays_of_mem_unmeasure (hpeers ▸ hmem)

end Time

section Discovery
variable {s : State} (hup : fabricUp s = true)
include hup

theorem execBeaconPeriod_of_up :
    execBeaconPeriod s = .next (([0, 1].filter (portUp s)).foldl (fun t _ => emit (.clear 0 0) t) s) := by
  simp only [execBeaconPeriod, hup, Bool.not_true, Bool.false_eq_true, if_false]

/-- The module of the lower fingerprint begins the handshake (R288). -/
theorem execBeacon_of_unknown {fpr : Bytes} (node : Nat) (flags : BitVec 8)
    (hsession : s.fab.sessions.any (fun e => !e.2.tenant && e.2.fpr == fpr) = false)
    (hhandshake : s.fab.hs.any (fun x => x.fpr == fpr) = false) (hlower : beNat s.kvt.idFpr < beNat fpr) :
    execBeacon (clusterId s) fpr node flags s = .next (startHello fpr s) := by
  simp only [execBeacon, hup, hsession, hhandshake, hlower, beq_self_eq_true, decide_true, Bool.or_self, Bool.not_false,
    Bool.and_self, if_true]

end Discovery

/-- Settles O38: each clause is the equation of its event in the case that its hypotheses pick; what a sample beyond 1 us
leaves is read off its end state. -/
theorem portAndTimeEventsComplete : Obligations.PortAndTimeEventsComplete := by
  intro s
  refine ⟨fun p up hport henabled hwarden => execPortLinkChange_of_enabled hport up henabled hwarden,
    fun p hport hup => ⟨fun on => execPauseFrame_of_up hport on hup, execAddressResolution_of_own hport hup, rfl,
      execForeignFrame_of_up hport hup⟩,
    fun hwarden hmember => ⟨?within, ?beyond, ?later, ?first⟩,
    execBeaconPeriod_of_up,
    fun fpr n fl hup hsession hhandshake hlower => execBeacon_of_unknown hup n fl hsession hhandshake hlower⟩
  case within => exact fun off hwithin => execPtpMessage_of_within hwarden hmember hwithin
  case beyond => exact fun off hlocked hfar => execPtpMessage_beyond_leaves hwarden hmember hlocked hfar
  case later => exact fun off hunlocked hstepped => execPtpLock_of_later hwarden hmember off hunlocked hstepped
  case first => exact fun off hunlocked hfirst => execPtpLock_of_first hwarden hmember off hunlocked hfirst

end Sys2Proof.Machine

/-! Received frames and messages (R90, R92, R279, R280, R286, R287, R293): what each leaves by whether its frame is accepted. -/

namespace Sys2Proof.Machine

section Frames
variable {s t : State} {h : FrameHead} {x : Session}

/-- A frame without a session, with a bad tag or with a repeated SEQUENCE is dropped and counted (R279). -/
theorem recvFrame_of_unauthentic (hup : fabricUp s = true)
    (hbad : session? s h.session = none ∨
      ∃ x, session? s h.session = some x ∧ (h.tagOk = false ∨ replayed x h.sequence = true)) :
    recvFrame h s = .inl (authDrop s) := by
  rcases hbad with hnone | ⟨x, hsession, htag | hreplay⟩
  · simp [recvFrame, hup, hnone]
  · simp [recvFrame, hup, hsession, htag]
  · simp [recvFrame, hup, hsession, hreplay]

/-- An accepted frame has its SEQUENCE noted and its ACK applied (R279, R280). -/
theorem recvFrame_of_authentic (hup : fabricUp s = true) (hsession : session? s h.session = some x) (htag : h.tagOk = true)
    (hfresh : replayed x h.sequence = false) :
    recvFrame h s = .inr (x, ackUpTo h.session h.ack (updSession h.session (noteSeq h.sequence) s)) := by
  simp [recvFrame, hup, hsession, htag, hfresh]

/-- A message whose frame is dropped is dropped with it. -/
theorem recvMsg_of_dropped (hframe : recvFrame h s = .inl t) : recvMsg h s = .inl t := by
  simp only [recvMsg, hframe]

theorem execRequestMessage_of_dropped (d : Desc) (input : Bytes) (hmsg : recvMsg h s = .inl t) :
    execRequestMessage h d input s = .next t := by
  simp only [execRequestMessage, hmsg]

/-- A fresh REQUEST lands as one of its peer or, with the slice of its session, of its tenant (R90, R287). -/
theorem execRequestMessage_of_fresh (d : Desc) (input : Bytes) (hmsg : recvMsg h s = .inr (x, t)) :
    execRequestMessage h d input s =
      let sl := if x.tenant then x.slice else d.slice.toNat
      let r : Req := {
        rid := t.rqs.nextRid, desc := { d with slice := BitVec.ofNat 8 sl }, slice := sl, heldAt := t.mtime, phase := .reading
        origin := if x.tenant then .tenant h.session h.message else .peer h.session h.message
        input := fit d.inLen.toNat input }
      .next (landReq r.rid (fit d.inLen.toNat input) (addReq r (if x.tenant then t else noteDelay h x t))) := by
  simp only [execRequestMessage, hmsg]

theorem execResponseMessage_of_dropped (b : RespBody) (hmsg : recvMsg h s = .inl t) : execResponseMessage h b s = .next t := by
  simp only [execResponseMessage, onPeer, hmsg]

section Response
variable {b : RespBody} (hmsg : recvMsg h s = .inr (x, t)) (hpeer : x.tenant = false)
include hmsg hpeer

/-- A RESPONSE ends the forwarded request of its tag, which its peer answers (R293). -/
theorem execResponseMessage_of_forwarded {r : Req}
    (hfound : t.rqs.live.find? (fun r => r.phase == .forwarded && r.fwdTag == b.tag.toNat && some r.owner == x.node) = some r) :
    execResponseMessage h b s = .next (wakeForward (finish r.rid
      { status := b.status.toNat, detail := b.detail.toNat, output := b.output, forwarded := true, node := r.owner
        skipped := b.skipped }
      (updReq r.rid (fun y => { y with
        retried := if b.retried ∧ b.status.toNat ≠ stOk then some (0, 0) else none }) t))) := by
  rw [execResponseMessage, onPeer_of_peer hmsg hpeer]
  simp only [hfound]

/-- A RESPONSE to no request is acknowledged, as every message, and discarded (R293). -/
theorem execResponseMessage_of_unmatched
    (hnone : t.rqs.live.find? (fun r => r.phase == .forwarded && r.fwdTag == b.tag.toNat && some r.owner == x.node) = none) :
    execResponseMessage h b s = .next t := by
  rw [execResponseMessage, onPeer_of_peer hmsg hpeer]
  simp only [hnone]

end Response

theorem execAckOnlyBurgee_of_dropped (hframe : recvFrame h s = .inl t) : execAckOnlyBurgee h s = .next t := by
  simp only [execAckOnlyBurgee, hframe]

theorem execAckOnlyBurgee_of_accepted (hframe : recvFrame h s = .inr (x, t)) : execAckOnlyBurgee h s = .next t := by
  simp only [execAckOnlyBurgee, hframe]

theorem execSessionClose_of_dropped (reason : Nat) (hframe : recvFrame h s = .inl t) :
    execSessionClose h reason s = .next t := by
  simp only [execSessionClose, hframe]

theorem execSessionClose_of_accepted (reason : Nat) (hframe : recvFrame h s = .inr (x, t)) :
    execSessionClose h reason s = .next (closeSession h.session none t) := by
  simp only [execSessionClose, hframe]

end Frames

/-- Settles O39: what the frame's check gives decides each message; a fresh one then follows its own equation. -/
theorem messagesOfASessionComplete : Obligations.MessagesOfASessionComplete := by
  intro s h
  refine ⟨fun hup hbad => ?dropped, fun x hup hsession htag hfresh => ?accepted,
    fun x t d i hmsg => execRequestMessage_of_fresh d i hmsg,
    fun x t b r hmsg hpeer hfound => execResponseMessage_of_forwarded hmsg hpeer hfound,
    fun x t b hmsg hpeer hnone => execResponseMessage_of_unmatched hmsg hpeer hnone, fun _ _ => rfl⟩
  case dropped =>
    have hframe := recvFrame_of_unauthentic hup hbad
    have hmsg := recvMsg_of_dropped hframe
    exact ⟨fun d i => execRequestMessage_of_dropped d i hmsg, fun b => execResponseMessage_of_dropped b hmsg,
      execAckOnlyBurgee_of_dropped hframe, fun n => execSessionClose_of_dropped n hframe⟩
  case accepted =>
    have hframe := recvFrame_of_authentic hup hsession htag hfresh
    exact ⟨execAckOnlyBurgee_of_accepted hframe, fun n => execSessionClose_of_accepted n hframe⟩

end Sys2Proof.Machine

/-! Handshakes and session timers (R280, R282-R286): what each event leaves where its premise holds. -/

namespace Sys2Proof.Machine

/-- With no handshake of its own towards a peer, this module has none to give up where two handshakes cross (R305). -/
theorem withoutOwnHello_of_none {s : State} {fpr : Bytes}
    (hnone : s.fab.hs.find? (fun x => x.initiator && x.fpr == fpr) = none) :
    ({ s with fab := { s.fab with hs := s.fab.hs.filter fun x => !(x.initiator && x.fpr == fpr) } } : State) = s := by
  have hkept : s.fab.hs.filter (fun x => !(x.initiator && x.fpr == fpr)) = s.fab.hs :=
    List.filter_eq_self.mpr fun x hx => by rw [Bool.eq_false_iff.mpr (List.find?_eq_none.mp hnone x hx), Bool.not_false]
  rw [hkept]

section Hello
variable {s : State} {h : Handshake} (hup : fabricUp s = true)
  (hnew : s.fab.hs.any (fun x => !x.initiator && x.hid == h.hid) = false)
  (hnone : s.fab.hs.find? (fun x => x.initiator && x.fpr == h.cert.fpr) = none) (hroom : s.fab.hs.length < 64)
include hup hnew hnone hroom

/-- A HELLO that fails a check other than that of its node ID is only rejected (R285). -/
theorem execSessionHello_of_fault {r : Nat}
    (hfault : handshakeFault h h.cert (h.certSig.mldsa && h.certSig.ecdsa) false s = some r) (hnode : r ≠ 8) :
    execSessionHello h s = .next (rejectHandshake r h.cert.fpr s) := by
  simp only [execSessionHello, hup, hnew, hnone, withoutOwnHello_of_none hnone, hfault, hnode, Option.isSome_none,
    Nat.not_le.mpr ((List.length_filter_le _ _).trans_lt hroom), Bool.not_true, Bool.false_and, Bool.false_eq_true, if_false]

/-- A HELLO that passes every check is answered with ACCEPT (R283). -/
theorem execSessionHello_of_passed {t : State}
    (hpass : handshakeFault h h.cert (h.certSig.mldsa && h.certSig.ecdsa) false s = none) (hcall : wardenCalls 1 s = some t) :
    execSessionHello h s = .next (emit (.clear 2 h.hid) { t with fab := { t.fab with
      hs := t.fab.hs ++ [{
        hid := h.hid, fpr := h.cert.fpr, index := t.fab.nextIndex, peer := sessionOf h h.cert, time := t.mtime }]
      nextIndex := t.fab.nextIndex + 1 } }) := by
  simp only [execSessionHello, hup, hnew, hnone, withoutOwnHello_of_none hnone, hpass, hcall, Option.isSome_none,
    Nat.not_le.mpr ((List.length_filter_le _ _).trans_lt hroom), Bool.not_true, Bool.false_and, Bool.false_eq_true, if_false]

end Hello

section Handshakes
variable {s : State} {h : Handshake} {x : Hs} (hup : fabricUp s = true)
include hup

/-- The initiator answers a good ACCEPT with FINISH, and opens the session (R284). -/
theorem execSessionAccept_of_passed (hfound : s.fab.hs.find? (fun x => x.initiator && x.hid == h.hid) = some x)
    (hpass : handshakeFault h h.cert (h.certSig.mldsa && h.certSig.ecdsa) true (dropHs h.hid s) = none) :
    execSessionAccept h s = .next (openSession x.index { (sessionOf h h.cert) with confirmed := false }
      (emit (.clear 3 h.hid) (dropHs h.hid s))) := by
  simp only [execSessionAccept, hup, hfound, hpass, if_true]

/-- The responder opens the session at a good FINISH, and sends a peer its first burgee (R284). -/
theorem execSessionFinish_of_passed (hfound : s.fab.hs.find? (fun x => !x.initiator && x.hid == h.hid) = some x)
    (hpass : handshakeFault h { h.cert with
        formatOk := true, role := if x.peer.tenant then 2 else 1, cluster := clusterId s, node := x.peer.node.getD 0xFFFF
        slice := x.peer.slice, notBefore := x.peer.notBefore, notAfter := x.peer.notAfter
        ownerFpr := s.kvt.ownerFpr.getD [], fpr := x.peer.fpr } s.kvt.ownerFpr.isSome true (dropHs h.hid s) = none) :
    execSessionFinish h s = .next (if x.peer.tenant then openSession x.index x.peer (dropHs h.hid s)
      else sendBurgee x.index (openSession x.index x.peer (dropHs h.hid s))) := by
  simp only [execSessionFinish, hup, hfound, hpass, if_true]

end Handshakes

section HandshakeTimers
variable {s : State} {hid : BitVec 32} {x : Hs} (hdue : x.time + 100000000 ≤ s.mtime)
include hdue

theorem execHelloResend_of_due (hfound : s.fab.hs.find? (fun x => x.initiator && x.hid == hid) = some x) :
    execHelloResend hid s = .next (startHello x.fpr (dropHs hid s)) := by
  simp only [execHelloResend, hfound, hdue, if_true]

theorem execFinishTimeout_of_due (hfound : s.fab.hs.find? (fun x => !x.initiator && x.hid == hid) = some x) :
    execFinishTimeout hid s = .next (dropHs hid s) := by
  simp only [execFinishTimeout, hfound, hdue, if_true]

end HandshakeTimers

section SessionTimers
variable {s : State} {i : Nat} {x : Session} (hsession : session? s i = some x)
include hsession

/-- A session that closes without a CLOSE only leaves the open ones (R280, R283). -/
theorem closeSession_of_open : closeSession i none s = dropSession i s := by
  simp only [closeSession, hsession]

/-- A message that is due goes out again under its ID (R280). -/
theorem execRetransmitTimer_of_due {id : Nat} {m : OutMsg} (hup : fabricUp s = true)
    (hfound : x.unacked.find? (fun m => m.id == id) = some m)
    (hdue : m.txAt + (if m.ensign then 50000 else 1000000) ≤ s.mtime) :
    execRetransmitTimer i id s = .next (emit (.message i m.typ id []) { s with fab := { s.fab with
      sessions := tset s.fab.sessions i { x with
        txSeq := x.txSeq + frames m.bytes
        unacked := x.unacked.map fun q => if q.id = id then { q with txAt := s.mtime } else q }
      retx := satAdd 32 s.fab.retx 1 } }) := by
  simp only [execRetransmitTimer, hup, hsession, hfound, hdue, if_true]

theorem execStaleSession_of_stale (hstale : x.unacked.any (fun m => m.sentAt + 1000000000 ≤ s.mtime) = true) :
    execStaleSession i s = .next (dropSession i s) := by
  simp only [execStaleSession, hsession, hstale, closeSession_of_open hsession, if_true]

theorem execAckDelayExpiry_of_due (hup : fabricUp s = true) (hdue : x.ackDue = true) :
    execAckDelayExpiry i s = .next (updSession i (fun y => { y with ackDue := false, txSeq := y.txSeq + 1 })
      (emit (.message i 3 0 [if x.tenant then 0xFFFF else announced s, 8, x.rxAcked]) s)) := by
  simp only [execAckDelayExpiry, hup, hsession, hdue, if_true]

theorem execSessionConfirmTimeout_of_due (hunconfirmed : x.confirmed = false) (hdue : x.openedAt + 100000000 ≤ s.mtime) :
    execSessionConfirmTimeout i s = .next (startHello x.fpr (dropSession i s)) := by
  simp only [execSessionConfirmTimeout, hsession, hunconfirmed, hdue, closeSession_of_open hsession, decide_true,
    Bool.not_false, Bool.and_self, if_true]

theorem execSessionRekey_of_day (hpeer : x.tenant = false) (hdue : x.openedAt + 86400000000000 ≤ s.mtime) :
    execSessionRekey i s = .next (startHello x.fpr s) := by
  simp only [execSessionRekey, hsession, hpeer, hdue, decide_true, Bool.true_or, Bool.not_false, Bool.and_self, if_true]

end SessionTimers

/-- Settles O40: each clause is the equation of its event in the case that its hypotheses pick. -/
theorem sessionEventsComplete : Obligations.SessionEventsComplete := by
  intro s
  refine ⟨fun h t hup hnew hnone hroom => ⟨fun r hfault hnode => ?rejected, fun hpass hcall => ?answered⟩,
    fun _ _ => execSessionAccept_of_passed, fun _ _ => execSessionFinish_of_passed,
    fun i id x m hup hsession hfound hdue => execRetransmitTimer_of_due hsession hup hfound hdue,
    fun i x hsession => ⟨execStaleSession_of_stale hsession, execAckDelayExpiry_of_due hsession,
      execSessionConfirmTimeout_of_due hsession, execSessionRekey_of_day hsession⟩,
    fun hid x hfound hdue => execHelloResend_of_due hdue hfound,
    fun hid x hfound hdue => execFinishTimeout_of_due hdue hfound⟩
  case rejected => exact execSessionHello_of_fault hup hnew hnone hroom hfault hnode
  case answered => exact execSessionHello_of_passed hup hnew hnone hroom hpass hcall

end Sys2Proof.Machine

/-! Burgees, lost peers and node IDs (R260, R287, R289-R292): what each event leaves where its premise holds. -/

namespace Sys2Proof.Machine

@[simp] theorem contestNode_nodeId (b : Burgee) (fpr : Bytes) (s : State) :
    (contestNode b fpr s).fab.nodeId = s.fab.nodeId := by
  unfold contestNode
  dsimp only
  split_ifs <;> rfl

section Heard
variable {s t : State} {h : FrameHead} {b : Burgee} {x : Session} (hframe : recvFrame h s = .inr (x, t))
  (hlive : b.flags.getLsbD 3 = false)
include hframe hlive

/-- A burgee with a node ID of the peer's own counts for its liveness (R290, R291). -/
theorem sessionBurgee_of_peer (hpeer : x.tenant = false) (hsettled : b.flags.getLsbD 4 = false) (hnode : b.node ≠ 0xFFFE)
    (hother : some b.node ≠ t.fab.nodeId) : sessionBurgee h b s = peerBurgee h b x b.node (contestNode b x.fpr t) := by
  simp only [sessionBurgee, hframe, hlive, hpeer, hsettled, hnode, contestNode_nodeId, hother, decide_false, Bool.or_self,
    Bool.false_eq_true, if_false]

/-- A tenant endpoint sends no burgee: its session closes with reason 1 (R287). -/
theorem sessionBurgee_of_tenant (htenant : x.tenant = true) : sessionBurgee h b s = closeSession h.session (some 1) t := by
  simp only [sessionBurgee, hframe, hlive, htenant, Bool.false_eq_true, if_false, if_true]

end Heard

theorem execBurgeePeriod_of_up {s : State} (hup : fabricUp s = true) :
    execBurgeePeriod s =
      let t := (peerSessions s).foldl (fun u i => sendBurgee i u) s
      let u := (t.fab.own.map (·.1)).foldl (fun v d => askClaim d (sendDelta d v)) t
      .next { u with fab := { u.fab with burgees := u.fab.burgees + 1 } } := by
  simp only [execBurgeePeriod, hup, Bool.not_true, Bool.false_eq_true, if_false]

section Missed
variable {s : State} {n : Nat} (halive : (peerOf s n).state = 1) (hwarden : wardenRuns s = true)
  (hdue : (peerOf s n).last + 10000000 * ((peerOf s n).missed + 1) ≤ s.mtime)
include halive hwarden hdue

theorem burgeeMissed_of_first (hfew : (peerOf s n).missed < 2) :
    burgeeMissed n s = updPeer n (fun x => { x with missed := x.missed + 1 }) s := by
  have hnotThird : (peerOf s n).missed + 1 < 3 := by omega
  simp [burgeeMissed, halive, hwarden, Nat.not_lt.mpr hdue, hnotThird]

/-- The third missed burgee loses the peer (R290). -/
theorem burgeeMissed_of_third (hthird : 2 ≤ (peerOf s n).missed) : burgeeMissed n s = losePeer n s := by
  have hnotBefore : ¬ (peerOf s n).missed + 1 < 3 := by omega
  simp [burgeeMissed, halive, hwarden, Nat.not_lt.mpr hdue, hnotBefore]

end Missed

theorem execPathUnmark_of_path0 {s : State} {n : Nat} (hmarked : (peerOf s n).path0 = true)
    (hdue : (peerOf s n).last0 + 30000000 ≤ s.mtime) :
    execPathUnmark n 0 s = .next (updPeer n (fun x => { x with path0 := false }) s) := by
  simp [execPathUnmark, hmarked, hdue]

theorem execPathUnmark_of_path1 {s : State} {n : Nat} (hmarked : (peerOf s n).path1 = true)
    (hdue : (peerOf s n).last1 + 30000000 ≤ s.mtime) :
    execPathUnmark n 1 s = .next (updPeer n (fun x => { x with path1 := false }) s) := by
  simp [execPathUnmark, hmarked, hdue]

section NodeId
variable {s : State} (hup : fabricUp s = true)
include hup

section Assign
variable (hunassigned : s.fab.nodeId = none) (huntried : s.fab.tentative = none)
  (hopen : s.fab.sessions.any (fun e => !e.2.tenant && e.2.openedAt + 100000000 ≤ s.mtime) = true)
include hunassigned huntried hopen

/-- The ID of an earlier start is taken again where no alive peer holds it (R291). -/
theorem execNodeIdAssign_of_flash {n : Nat} (hflash : s.fab.nodeFlash = some n) (hfree : (peerOf s n).state ≠ 1) :
    execNodeIdAssign s = .next { s with fab := { s.fab with nodeId := some n, nodeSource := 3 } } := by
  have hunheld : ((peerOf s n).state != 1) = true := bne_iff_ne.mpr hfree
  simp only [execNodeIdAssign, hup, hunassigned, huntried, hopen, hflash, hunheld, Option.isSome_none, Bool.not_true,
    Bool.or_false, Bool.false_eq_true, if_true, if_false]

/-- A module that never had an ID tries the lowest free one (R291). -/
theorem execNodeIdAssign_of_new (hflash : s.fab.nodeFlash = none) :
    execNodeIdAssign s = .next { s with fab := { s.fab with tentative := some (lowestNode s), tentativeAt := s.mtime } } := by
  simp only [execNodeIdAssign, hup, hunassigned, huntried, hopen, hflash, Option.isSome_none, Bool.not_true, Bool.or_false,
    Bool.false_eq_true, if_false]

end Assign

theorem execNodeIdConfirm_of_held {n : Nat} (htried : s.fab.tentative = some n)
    (hdue : s.fab.tentativeAt + 30000000 ≤ s.mtime) :
    execNodeIdConfirm s = .next { s with fab := { s.fab with
      nodeId := some n, nodeSource := 3, nodeFlash := some n, tentative := none } } := by
  simp [execNodeIdConfirm, htried, hup, hdue]

end NodeId

/-- Settles O42: each clause is the equation of its event in the case that its hypotheses pick. -/
theorem livenessEventsComplete : Obligations.LivenessEventsComplete := by
  intro s
  refine ⟨fun h b x t hframe hpeer hlive hsettled hnode hother => ?heard, fun h b x t hframe htenant hlive => ?tenant,
    fun hup => execBurgeePeriod_of_up hup, fun n halive hwarden hdue => ⟨fun hfew => ?missed, fun hthird => ?lost⟩,
    fun _ => execPathUnmark_of_path0, fun _ => execPathUnmark_of_path1,
    fun hup hunassigned huntried hopen => ⟨fun n hflash hfree => ?flash, fun hflash => ?new⟩,
    fun n htried hup hdue => execNodeIdConfirm_of_held hup htried hdue⟩
  case heard =>
    exact congrArg (fun u => Host.Outcome.next (pump u)) (sessionBurgee_of_peer hframe hlive hpeer hsettled hnode hother)
  case tenant => exact congrArg (fun u => Host.Outcome.next (pump u)) (sessionBurgee_of_tenant hframe hlive htenant)
  case missed => exact congrArg (fun u => Host.Outcome.next (pump u)) (burgeeMissed_of_first halive hwarden hdue hfew)
  case lost => exact congrArg (fun u => Host.Outcome.next (pump u)) (burgeeMissed_of_third halive hwarden hdue hthird)
  case flash => exact execNodeIdAssign_of_flash hup hunassigned huntried hopen hflash hfree
  case new => exact execNodeIdAssign_of_new hup hunassigned huntried hopen hflash

end Sys2Proof.Machine

/-! What every command and every step keep (R327, R392, R469): the queue behind the command, the canonical form of both
memories, and every blown fuse. -/

namespace Sys2Proof.Machine

/-- Whatever command runs, row by row of the table. -/
theorem exec_keeps (i : Instr) (s : State) : KeepsRes s (exec i s) :=
  match i with
  | .sqTailDoorbell w => execSqTailDoorbell_k w s (.refl s)
  | .cqHeadDoorbell w => execCqHeadDoorbell_k w s (.refl s)
  | .descriptorFetch => execDescriptorFetch_k s (.refl s)
  | .descriptorArrival slice queue descs => execDescriptorArrival_k slice queue descs s (.refl s)
  | .landingRoomFreed => execLandingRoomFreed_k s (.refl s)
  | .requestLand rid input => execRequestLand_k rid input s (.refl s)
  | .tokenRefill => execTokenRefill_k s (.refl s)
  | .nonEnsignDispatch seqr => execNonEnsignDispatch_k seqr s (.refl s)
  | .sequencerFree seqr => execSequencerFree_k seqr s (.refl s)
  | .operationBoundary pool unit => execOperationBoundary_k pool unit s (.refl s)
  | .pinTranslate rid spUe => execPinTranslate_k rid spUe s (.refl s)
  | .pinVerifyPvv rid spUe => execPinVerifyPvv_k rid spUe s (.refl s)
  | .pinVerifyOffset rid spUe => execPinVerifyOffset_k rid spUe s (.refl s)
  | .pinVerifyCompare rid spUe => execPinVerifyCompare_k rid spUe s (.refl s)
  | .pvvGenerate rid spUe => execPvvGenerate_k rid spUe s (.refl s)
  | .offsetGenerate rid spUe => execOffsetGenerate_k rid spUe s (.refl s)
  | .cvvVerify rid spUe => execCvvVerify_k rid spUe s (.refl s)
  | .cvvGenerate rid spUe => execCvvGenerate_k rid spUe s (.refl s)
  | .arqcVerify rid spUe => execArqcVerify_k rid spUe s (.refl s)
  | .arqcVerifyArpc rid spUe => execArqcVerifyArpc_k rid spUe s (.refl s)
  | .arpcGenerate rid spUe => execArpcGenerate_k rid spUe s (.refl s)
  | .scriptMac rid spUe => execScriptMac_k rid spUe s (.refl s)
  | .scriptEncrypt rid spUe => execScriptEncrypt_k rid spUe s (.refl s)
  | .macGenerate rid spUe => execMacGenerate_k rid spUe s (.refl s)
  | .macVerify rid spUe => execMacVerify_k rid spUe s (.refl s)
  | .dukptPinTranslate rid spUe => execDukptPinTranslate_k rid spUe s (.refl s)
  | .dukptMacVerify rid spUe => execDukptMacVerify_k rid spUe s (.refl s)
  | .dukptDecrypt rid spUe => execDukptDecrypt_k rid spUe s (.refl s)
  | .dukptIkExport rid spUe => execDukptIkExport_k rid spUe s (.refl s)
  | .encrypt rid spUe => execEncrypt_k rid spUe s (.refl s)
  | .decrypt rid spUe => execDecrypt_k rid spUe s (.refl s)
  | .gcmEncrypt rid spUe => execGcmEncrypt_k rid spUe s (.refl s)
  | .gcmDecrypt rid spUe => execGcmDecrypt_k rid spUe s (.refl s)
  | .keyImport rid spUe => execKeyImport_k rid spUe s (.refl s)
  | .keyExport rid spUe => execKeyExport_k rid spUe s (.refl s)
  | .keyGenerate rid spUe => execKeyGenerate_k rid spUe s (.refl s)
  | .keyDelete rid spUe => execKeyDelete_k rid spUe s (.refl s)
  | .keyInfo rid spUe => execKeyInfo_k rid spUe s (.refl s)
  | .keyComponentsCombine rid spUe => execKeyComponentsCombine_k rid spUe s (.refl s)
  | .keyAttest rid spUe => execKeyAttest_k rid spUe s (.refl s)
  | .publicKeyImport rid spUe => execPublicKeyImport_k rid spUe s (.refl s)
  | .publicKeyExport rid spUe => execPublicKeyExport_k rid spUe s (.refl s)
  | .sha256Blocks rid spUe => execSha256Blocks_k rid spUe s (.refl s)
  | .sha512Blocks rid spUe => execSha512Blocks_k rid spUe s (.refl s)
  | .keccakAbsorb rid spUe => execKeccakAbsorb_k rid spUe s (.refl s)
  | .keccakSqueeze rid spUe => execKeccakSqueeze_k rid spUe s (.refl s)
  | .hmacGenerate rid spUe => execHmacGenerate_k rid spUe s (.refl s)
  | .hmacVerify rid spUe => execHmacVerify_k rid spUe s (.refl s)
  | .random rid spUe => execRandom_k rid spUe s (.refl s)
  | .rsaSign rid spUe => execRsaSign_k rid spUe s (.refl s)
  | .rsaVerify rid spUe => execRsaVerify_k rid spUe s (.refl s)
  | .rsaDecrypt rid spUe => execRsaDecrypt_k rid spUe s (.refl s)
  | .rsaEncrypt rid spUe => execRsaEncrypt_k rid spUe s (.refl s)
  | .rsaKeygen rid spUe => execRsaKeygen_k rid spUe s (.refl s)
  | .ecdsaSign rid spUe => execEcdsaSign_k rid spUe s (.refl s)
  | .ecdsaVerify rid spUe => execEcdsaVerify_k rid spUe s (.refl s)
  | .eddsaSign rid spUe => execEddsaSign_k rid spUe s (.refl s)
  | .eddsaVerify rid spUe => execEddsaVerify_k rid spUe s (.refl s)
  | .ecdhDerive rid spUe => execEcdhDerive_k rid spUe s (.refl s)
  | .ecKeygen rid spUe => execEcKeygen_k rid spUe s (.refl s)
  | .modExp rid spUe => execModExp_k rid spUe s (.refl s)
  | .modMul rid spUe => execModMul_k rid spUe s (.refl s)
  | .mlkemKeygen rid spUe => execMlkemKeygen_k rid spUe s (.refl s)
  | .mlkemEncaps rid spUe => execMlkemEncaps_k rid spUe s (.refl s)
  | .mlkemDecaps rid spUe => execMlkemDecaps_k rid spUe s (.refl s)
  | .mldsaKeygen rid spUe => execMldsaKeygen_k rid spUe s (.refl s)
  | .mldsaSign rid spUe iters => execMldsaSign_k rid spUe iters s (.refl s)
  | .mldsaVerify rid spUe => execMldsaVerify_k rid spUe s (.refl s)
  | .slhdsaKeygen rid spUe => execSlhdsaKeygen_k rid spUe s (.refl s)
  | .slhdsaSign rid spUe => execSlhdsaSign_k rid spUe s (.refl s)
  | .slhdsaVerify rid spUe => execSlhdsaVerify_k rid spUe s (.refl s)
  | .statefulKeygen rid spUe => execStatefulKeygen_k rid spUe s (.refl s)
  | .statefulSign rid spUe => execStatefulSign_k rid spUe s (.refl s)
  | .statefulVerify rid spUe => execStatefulVerify_k rid spUe s (.refl s)
  | .statefulRemaining rid spUe => execStatefulRemaining_k rid spUe s (.refl s)
  | .hqcKeygen rid spUe => execHqcKeygen_k rid spUe s (.refl s)
  | .hqcEncaps rid spUe => execHqcEncaps_k rid spUe s (.refl s)
  | .hqcDecaps rid spUe => execHqcDecaps_k rid spUe s (.refl s)
  | .mcelieceKeygen rid spUe => execMcelieceKeygen_k rid spUe s (.refl s)
  | .mcelieceEncaps rid spUe => execMcelieceEncaps_k rid spUe s (.refl s)
  | .mcelieceDecaps rid spUe => execMcelieceDecaps_k rid spUe s (.refl s)
  | .hybridKemKeygen rid spUe => execHybridKemKeygen_k rid spUe s (.refl s)
  | .hybridEncaps rid spUe => execHybridEncaps_k rid spUe s (.refl s)
  | .hybridDecaps rid spUe => execHybridDecaps_k rid spUe s (.refl s)
  | .hybridSignKeygen rid spUe => execHybridSignKeygen_k rid spUe s (.refl s)
  | .hybridSign rid spUe iters => execHybridSign_k rid spUe iters s (.refl s)
  | .hybridVerify rid spUe => execHybridVerify_k rid spUe s (.refl s)
  | .echo rid spUe => execEcho_k rid spUe s (.refl s)
  | .meterLatch rid spUe => execMeterLatch_k rid spUe s (.refl s)
  | .meterRead rid spUe => execMeterRead_k rid spUe s (.refl s)
  | .sliceInfo rid spUe => execSliceInfo_k rid spUe s (.refl s)
  | .coreCompletionInterrupt pool unit => execCoreCompletionInterrupt_k pool unit s (.refl s)
  | .releaseStep seqr => execReleaseStep_k seqr s (.refl s)
  | .requestForward rid => execRequestForward_k rid s (.refl s)
  | .blindWaitResume => execBlindWaitResume_k s (.refl s)
  | .rngWaitResume => execRngWaitResume_k s (.refl s)
  | .powerStateRun l => execPowerStateRun_k l s (.refl s)
  | .powerStateReady l => execPowerStateReady_k l s (.refl s)
  | .powerStateSleep l => execPowerStateSleep_k l s (.refl s)
  | .readyDrainDone => execReadyDrainDone_k s (.refl s)
  | .imageStage l => execImageStage_k l s (.refl s)
  | .imageActivate l => execImageActivate_k l s (.refl s)
  | .queueCreate l => execQueueCreate_k l s (.refl s)
  | .queueDelete l => execQueueDelete_k l s (.refl s)
  | .sliceResetDrain l => execSliceResetDrain_k l s (.refl s)
  | .sliceResetSquash l => execSliceResetSquash_k l s (.refl s)
  | .sliceResetDone slice => execSliceResetDone_k slice s (.refl s)
  | .sliceFreeze l => execSliceFreeze_k l s (.refl s)
  | .sliceFreezeDone slice => execSliceFreezeDone_k slice s (.refl s)
  | .sliceThaw l => execSliceThaw_k l s (.refl s)
  | .sliceSave l => execSliceSave_k l s (.refl s)
  | .sliceRestorePrepare l => execSliceRestorePrepare_k l s (.refl s)
  | .sliceRestore l => execSliceRestore_k l s (.refl s)
  | .drainCeilingExpiry slice => execDrainCeilingExpiry_k slice s (.refl s)
  | .offerExpiry slice => execOfferExpiry_k slice s (.refl s)
  | .rosterReservationExpiry slice => execRosterReservationExpiry_k slice s (.refl s)
  | .meterLatchAll l => execMeterLatchAll_k l s (.refl s)
  | .minuteLatch => execMinuteLatch_k s (.refl s)
  | .ringEntryWritten slice => execRingEntryWritten_k slice s (.refl s)
  | .logClearMain l => execLogClearMain_k l s (.refl s)
  | .logClearReserve l => execLogClearReserve_k l s (.refl s)
  | .logClearBoth l => execLogClearBoth_k l s (.refl s)
  | .wardenSwitchback l => execWardenSwitchback_k l s (.refl s)
  | .unlock l => execUnlock_k l s (.refl s)
  | .lifecycleRequestIntegrator l => execLifecycleRequestIntegrator_k l s (.refl s)
  | .lifecycleRequestFielded l => execLifecycleRequestFielded_k l s (.refl s)
  | .lifecycleRequestReturned l => execLifecycleRequestReturned_k l s (.refl s)
  | .scrap l => execScrap_k l s (.refl s)
  | .lcsEnergyWait => execLcsEnergyWait_k s (.refl s)
  | .ownerEnrol l => execOwnerEnrol_k l s (.refl s)
  | .ownerEnrolRoster l => execOwnerEnrolRoster_k l s (.refl s)
  | .identityAttest l => execIdentityAttest_k l s (.refl s)
  | .vaultResealStage l => execVaultResealStage_k l s (.refl s)
  | .vaultResealCommit l => execVaultResealCommit_k l s (.refl s)
  | .vaultResealAbandon l => execVaultResealAbandon_k l s (.refl s)
  | .vaultRekey l => execVaultRekey_k l s (.refl s)
  | .rekeyRangeDone => execRekeyRangeDone_k s (.refl s)
  | .custodianSessionOpen l => execCustodianSessionOpen_k l s (.refl s)
  | .custodianSessionApprove l => execCustodianSessionApprove_k l s (.refl s)
  | .custodianSessionWithdraw l => execCustodianSessionWithdraw_k l s (.refl s)
  | .custodianSessionClose l => execCustodianSessionClose_k l s (.refl s)
  | .custodianSessionStatus l => execCustodianSessionStatus_k l s (.refl s)
  | .membershipInstall l => execMembershipInstall_k l s (.refl s)
  | .domainCreate l => execDomainCreate_k l s (.refl s)
  | .domainSetStandby l => execDomainSetStandby_k l s (.refl s)
  | .domainHandover l => execDomainHandover_k l s (.refl s)
  | .engineAbort l => execEngineAbort_k l s (.refl s)
  | .lkuTrieInsert index irq => execLkuTrieInsert_k index irq s (.refl s)
  | .lkuTrieDelete index irq => execLkuTrieDelete_k index irq s (.refl s)
  | .lkuTrieReplace index irq => execLkuTrieReplace_k index irq s (.refl s)
  | .lkuTrieRead index irq => execLkuTrieRead_k index irq s (.refl s)
  | .lkuTrieSearch index irq => execLkuTrieSearch_k index irq s (.refl s)
  | .lkuEmInsert index irq => execLkuEmInsert_k index irq s (.refl s)
  | .lkuEmDelete index irq => execLkuEmDelete_k index irq s (.refl s)
  | .lkuEmReplace index irq => execLkuEmReplace_k index irq s (.refl s)
  | .lkuEmRead index irq => execLkuEmRead_k index irq s (.refl s)
  | .lkuDomainRead index irq => execLkuDomainRead_k index irq s (.refl s)
  | .lkuPeerRead index irq => execLkuPeerRead_k index irq s (.refl s)
  | .lkuStashRead index irq => execLkuStashRead_k index irq s (.refl s)
  | .lkuBatch irq records => execLkuBatch_k irq records s (.refl s)
  | .stashRetry => execStashRetry_k s (.refl s)
  | .trieNodeFree => execTrieNodeFree_k s (.refl s)
  | .trieScrub node word bits => execTrieScrub_k node word bits s (.refl s)
  | .tmpFuseCmd key source => execTmpFuseCmd_k key source s (.refl s)
  | .fuseBurnDone readBack => execFuseBurnDone_k readBack s (.refl s)
  | .entRawCtrl path value => execEntRawCtrl_k path value s (.refl s)
  | .entRawData path => execEntRawData_k path s (.refl s)
  | .logSel path value => execLogSel_k path value s (.refl s)
  | .logSelFetchDone => execLogSelFetchDone_k s (.refl s)
  | .pwrCellFaultClear path value => execPwrCellFaultClear_k path value s (.refl s)
  | .reg64LowRead path offset => execReg64LowRead_k path offset s (.refl s)
  | .registerAccessInvalid path offset width write => execRegisterAccessInvalid_k path offset width write s (.refl s)
  | .registerWrite path offset value env => execRegisterWrite_k path offset value env s (.refl s)
  | .msixUnmask vector => execMsixUnmask_k vector s (.refl s)
  | .pasidUnmapped page pasid posted => execPasidUnmapped_k page pasid posted s (.refl s)
  | .pcieRequestRefused bar posted => execPcieRequestRefused_k bar posted s (.refl s)
  | .configRequest offset pasid => execConfigRequest_k offset pasid s (.refl s)
  | .pcieReset kind => execPcieReset_k kind s (.refl s)
  | .perstNRelease => execPerstNRelease_k s (.refl s)
  | .d3hotEntry => execD3hotEntry_k s (.refl s)
  | .d0Return => execD0Return_k s (.refl s)
  | .busMasterDisable => execBusMasterDisable_k s (.refl s)
  | .pasidEnableClear => execPasidEnableClear_k s (.refl s)
  | .spdmMessage secured keyProg => execSpdmMessage_k secured keyProg s (.refl s)
  | .ideStreamSecure => execIdeStreamSecure_k s (.refl s)
  | .ideStreamInsecure => execIdeStreamInsecure_k s (.refl s)
  | .modRstN low taken env => execModRstN_k low taken env s (.refl s)
  | .smbusTelemetry pec => execSmbusTelemetry_k pec s (.refl s)
  | .smbusPower target pec => execSmbusPower_k target pec s (.refl s)
  | .smbusSetAddr addr pec => execSmbusSetAddr_k addr pec s (.refl s)
  | .smbusRead => execSmbusRead_k s (.refl s)
  | .smbusWrite value pec env => execSmbusWrite_k value pec env s (.refl s)
  | .smbusReadBurst => execSmbusReadBurst_k s (.refl s)
  | .smbusWriteBurst values pec env => execSmbusWriteBurst_k values pec env s (.refl s)
  | .smbusUnknownCommand byte => execSmbusUnknownCommand_k byte s (.refl s)
  | .lcsRead => execLcsRead_k s (.refl s)
  | .dbgChallenge => execDbgChallenge_k s (.refl s)
  | .dbgAuth auth sig => execDbgAuth_k auth sig s (.refl s)
  | .dbgStatus => execDbgStatus_k s (.refl s)
  | .dbgMem addr len data => execDbgMem_k addr len data s (.refl s)
  | .extest => execExtest_k s (.refl s)
  | .samplePreload => execSamplePreload_k s (.refl s)
  | .idcode => execIdcode_k s (.refl s)
  | .highz => execHighz_k s (.refl s)
  | .clamp => execClamp_k s (.refl s)
  | .extestPulse => execExtestPulse_k s (.refl s)
  | .extestTrain => execExtestTrain_k s (.refl s)
  | .bypass => execBypass_k s (.refl s)
  | .tapReset => execTapReset_k s (.refl s)
  | .vinValid env => execVinValid_k env s (.refl s)
  | .domainReloadLocal domain => execDomainReloadLocal_k domain s (.refl s)
  | .startEndTimeout => execStartEndTimeout_k s (.refl s)
  | .vinLockout mv cellMv tempMax => execVinLockout_k mv cellMv tempMax s (.refl s)
  | .reserveEntry => execReserveEntry_k s (.refl s)
  | .reserveExhaustion cellMv => execReserveExhaustion_k cellMv s (.refl s)
  | .capFloorReached => execCapFloorReached_k s (.refl s)
  | .capFullReached => execCapFullReached_k s (.refl s)
  | .cellTempReading ohms temp => execCellTempReading_k ohms temp s (.refl s)
  | .chargeStepRestore => execChargeStepRestore_k s (.refl s)
  | .chargerPhaseChange cellMv cellUa => execChargerPhaseChange_k cellMv cellUa s (.refl s)
  | .prechargeTimeout => execPrechargeTimeout_k s (.refl s)
  | .chargeTimeout => execChargeTimeout_k s (.refl s)
  | .cellFault code => execCellFault_k code s (.refl s)
  | .cellFaultRecheck cellMv ohms => execCellFaultRecheck_k cellMv ohms s (.refl s)
  | .cellInserted cellMv => execCellInserted_k cellMv s (.refl s)
  | .coulombCounterTick ua => execCoulombCounterTick_k ua s (.refl s)
  | .qestDailyUpdate meanTemp => execQestDailyUpdate_k meanTemp s (.refl s)
  | .unitClockStop pool unit => execUnitClockStop_k pool unit s (.refl s)
  | .junctionTempSample temps => execJunctionTempSample_k temps s (.refl s)
  | .knownAnswerTest pool unit pass => execKnownAnswerTest_k pool unit pass s (.refl s)
  | .unitCheckFailure pool unit cause => execUnitCheckFailure_k pool unit cause s (.refl s)
  | .spareSwitchIn pool unit => execSpareSwitchIn_k pool unit s (.refl s)
  | .maskReseed pool unit => execMaskReseed_k pool unit s (.refl s)
  | .healthWindowEnd cell samples => execHealthWindowEnd_k cell samples s (.refl s)
  | .balancingPeriodEnd cell ones => execBalancingPeriodEnd_k cell ones s (.refl s)
  | .seedBlockClose => execSeedBlockClose_k s (.refl s)
  | .entCheckpoint => execEntCheckpoint_k s (.refl s)
  | .reseedDue inst => execReseedDue_k inst s (.refl s)
  | .drbgReseed inst => execDrbgReseed_k inst s (.refl s)
  | .drbgWardenReinstantiate => execDrbgWardenReinstantiate_k s (.refl s)
  | .scrubRead symbols => execScrubRead_k symbols s (.refl s)
  | .rowRemapCopyDone => execRowRemapCopyDone_k s (.refl s)
  | .keyStoreCommit => execKeyStoreCommit_k s (.refl s)
  | .keyStoreCompaction => execKeyStoreCompaction_k s (.refl s)
  | .cardInserted port => execCardInserted_k port s (.refl s)
  | .cardRemoved port => execCardRemoved_k port s (.refl s)
  | .cardOvercurrent port => execCardOvercurrent_k port s (.refl s)
  | .cardTimeout port => execCardTimeout_k port s (.refl s)
  | .cardSessionExpiry port => execCardSessionExpiry_k port s (.refl s)
  | .approvalWindowExpiry number => execApprovalWindowExpiry_k number s (.refl s)
  | .tamperAlarm source detail => execTamperAlarm_k source detail s (.refl s)
  | .seedKillDone => execSeedKillDone_k s (.refl s)
  | .wardenCoreFailure cause standbyOk selfTest => execWardenCoreFailure_k cause standbyOk selfTest s (.refl s)
  | .failedCoreSelfTest pass => execFailedCoreSelfTest_k pass s (.refl s)
  | .wardenCheckpoint => execWardenCheckpoint_k s (.refl s)
  | .logStagingFlush => execLogStagingFlush_k s (.refl s)
  | .portLinkChange port up => execPortLinkChange_k port up s (.refl s)
  | .pauseFrame port on => execPauseFrame_k port on s (.refl s)
  | .addressResolution port own => execAddressResolution_k port own s (.refl s)
  | .foreignFrame port => execForeignFrame_k port s (.refl s)
  | .ptpMessage offset => execPtpMessage_k offset s (.refl s)
  | .ptpLock offset => execPtpLock_k offset s (.refl s)
  | .reassemblyTimeout session message => execReassemblyTimeout_k session message s (.refl s)
  | .requestMessage head desc input => execRequestMessage_k head desc input s (.refl s)
  | .responseMessage head body => execResponseMessage_k head body s (.refl s)
  | .sessionBurgee head body => execSessionBurgee_k head body s (.refl s)
  | .ackOnlyBurgee head => execAckOnlyBurgee_k head s (.refl s)
  | .beacon cluster fpr node flags => execBeacon_k cluster fpr node flags s (.refl s)
  | .claimMessage head domain reason pennant owner standby sequence => execClaimMessage_k head domain reason pennant owner standby sequence s (.refl s)
  | .snapshotMessage head domain kind pennant sequence items => execSnapshotMessage_k head domain kind pennant sequence items s (.refl s)
  | .snapshotInstall domain => execSnapshotInstall_k domain s (.refl s)
  | .resyncRequest head domain pennant => execResyncRequest_k head domain pennant s (.refl s)
  | .resyncStored head domain pennant sequence => execResyncStored_k head domain pennant sequence s (.refl s)
  | .resyncReject head domain pennant => execResyncReject_k head domain pennant s (.refl s)
  | .resyncHandover head domain pennant => execResyncHandover_k head domain pennant s (.refl s)
  | .sessionHello h => execSessionHello_k h s (.refl s)
  | .sessionAccept h => execSessionAccept_k h s (.refl s)
  | .sessionFinish h => execSessionFinish_k h s (.refl s)
  | .sessionClose head reason => execSessionClose_k head reason s (.refl s)
  | .retransmitTimer session message => execRetransmitTimer_k session message s (.refl s)
  | .staleSession session => execStaleSession_k session s (.refl s)
  | .ackDelayExpiry session => execAckDelayExpiry_k session s (.refl s)
  | .helloResend hid => execHelloResend_k hid s (.refl s)
  | .finishTimeout hid => execFinishTimeout_k hid s (.refl s)
  | .sessionConfirmTimeout session => execSessionConfirmTimeout_k session s (.refl s)
  | .sessionRekey session => execSessionRekey_k session s (.refl s)
  | .beaconPeriod => execBeaconPeriod_k s (.refl s)
  | .burgeePeriod => execBurgeePeriod_k s (.refl s)
  | .burgeeMissed node => execBurgeeMissed_k node s (.refl s)
  | .pathUnmark node port => execPathUnmark_k node port s (.refl s)
  | .nodeIdAssign => execNodeIdAssign_k s (.refl s)
  | .nodeIdConfirm => execNodeIdConfirm_k s (.refl s)
  | .busMasterEnable => execBusMasterEnable_k s (.refl s)
  | .postedWriteCreditReturn => execPostedWriteCreditReturn_k s (.refl s)

theorem keeps_of_exec {s t : State} {i : Instr} (h : exec i s = .next t) : Keeps s t := (exec_keeps i s).all t h

/-- Time passing touches MTIME and its fraction alone (R447). -/
theorem idle_eq_with_time (s : State) : idle s = { s with mtime := (idle s).mtime, frac := (idle s).frac } := by
  unfold idle
  split <;> rfl

theorem keeps_idle (s : State) : Keeps s (idle s) := by
  rw [idle_eq_with_time]
  exact (Keeps.refl s).upd rfl rfl rfl rfl

/-- A step keeps what its command keeps of the state without that command, whose fuses and memories are those of the state. -/
theorem keeps_of_steps {s t : State} (h : Steps s t) : ∃ q, Keeps { s with pending := q } t := by
  cases hq : s.pending with
  | nil =>
    have hidle : idle s = t := Host.Outcome.next.inj ((step_of_pending_nil hq).symm.trans h)
    exact ⟨s.pending, hidle ▸ keeps_idle s⟩
  | cons c rest => exact ⟨rest, keeps_of_exec ((step_of_pending_cons hq).symm.trans h)⟩

theorem inv_of_keeps {s t : State} (hinv : Inv s) (h : Keeps s t) : Inv t := ⟨h.cells hinv.cells, h.buf hinv.buf⟩

/-- Settles O46: the command that the step runs keeps both memories canonical, and so does time passing. -/
theorem stepKeepsMemoryCanonical : Obligations.StepKeepsMemoryCanonical := by
  intro s t hinv hstep
  obtain ⟨q, hkeeps⟩ := keeps_of_steps hstep
  exact inv_of_keeps (s := { s with pending := q }) ⟨hinv.cells, hinv.buf⟩ hkeeps

theorem FusesKept.trans {f g h : BitVec 16384} (hfg : FusesKept f g) (hgh : FusesKept g h) : FusesKept f h := by
  unfold FusesKept at *
  rw [← hfg, BitVec.and_assoc, hgh]

theorem fusesKept_of_steps {s t : State} (h : Steps s t) : FusesKept s.lcs.fuse t.lcs.fuse := by
  obtain ⟨q, hkeeps⟩ := keeps_of_steps h
  exact hkeeps.fuses

/-- Settles O47, by induction on the run: each step keeps what was blown before it. -/
theorem fusesNeverReturnToZero : Obligations.FusesNeverReturnToZero := by
  intro s t hrun
  induction hrun with
  | refl => exact BitVec.and_self
  | tail _ hstep ih => exact ih.trans (fusesKept_of_steps hstep)

/-- Settles O48: the queue is among what every command keeps. -/
theorem commandsLeaveTheQueue : Obligations.CommandsLeaveTheQueue :=
  fun _ _ _ hexec => (keeps_of_exec hexec).pending

end Sys2Proof.Machine

/-! Time on an empty queue (R447) and the state at reset (R440, R458, R469, R472, R493). -/

namespace Sys2Proof.Machine

section Idle
variable {s : State}

theorem idle_of_off (hoff : s.pwr.state = .off) : idle s = s := by
  simp only [idle, hoff]

theorem idle_of_powered (hoff : s.pwr.state ≠ .off) (hreserve : s.pwr.state ≠ .reserve) :
    idle s = { s with mtime := (s.mtime + 1) % 2 ^ 64 } := by
  cases hstate : s.pwr.state <;> simp_all [idle]

/-- In RESERVE the always-on counter gains 3,906,250 units of 1/128 ns (R447). -/
theorem idle_of_reserve (hreserve : s.pwr.state = .reserve) :
    idle s = { s with mtime := (s.mtime + (s.frac + 3906250) / 128) % 2 ^ 64, frac := (s.frac + 3906250) % 128 } := by
  simp only [idle, hreserve]

end Idle

/-- Settles O44: an empty queue gives `idle`, which the power state decides. -/
theorem emptyQueueLetsTimePass : Obligations.EmptyQueueLetsTimePass := by
  intro s hempty
  refine ⟨step_of_pending_nil hempty, idle_eq_with_time s, idle_of_off, idle_of_powered, fun hreserve hfrac => ?reserve⟩
  case reserve =>
    rw [idle_of_reserve hreserve]
    refine ⟨Nat.mod_lt _ (by decide), fun hfits => ?_⟩
    simp only [Nat.mod_eq_of_lt hfits]
    omega

theorem inv_reset : Inv State.reset := ⟨rfl, rfl⟩

/-- Settles O45: every named field of the state at reset has its value by definition, and both memories list nothing. -/
theorem resetState : Obligations.ResetState :=
  ⟨rfl, rfl, rfl, rfl, rfl, rfl, rfl, rfl, rfl, rfl, rfl, rfl, rfl, rfl, rfl, rfl, rfl, rfl, rfl, rfl, rfl, rfl, rfl, rfl, rfl, rfl,
    rfl, inv_reset⟩

end Sys2Proof.Machine

/-! The test port (R491-R493): which instruction a scan selects, by the power state. -/

namespace Sys2Proof.Machine

section Tap
variable {s : State} (hup : tapUp s = true)
include hup

theorem scanIr_of_permitted {c : Nat} (hc : c ≠ 0xFF) (hrun : s.pwr.state ≠ .run) : scanIr c s = { s with ir := c } := by
  have hpermitted : (s.pwr.state != .run) = true := bne_iff_ne.mpr hrun
  simp only [scanIr, loadIr, hup, hpermitted, Bool.not_true, Bool.false_eq_true, if_true, if_false, if_neg hc]

theorem scanIr_of_run (c : Nat) (hrun : s.pwr.state = .run) : scanIr c s = emit (.jtag 1 0) { s with ir := 0xFF } := by
  have hrefused : (s.pwr.state != .run) = false := by rw [hrun]; rfl
  simp only [scanIr, loadIr, bypassOut, hup, hrefused, Bool.not_true, Bool.false_eq_true, if_true, if_false]

theorem execIdcode_of_up : execIdcode s = .next (emit (.jtag 32 0x1726054B) { s with ir := 0x02 }) := by
  simp only [execIdcode, loadIr, hup, if_true]

end Tap

/-- Settles O32: the five scans outside RUN and in RUN are the two cases of `scanIr`; the others select themselves. -/
theorem boundaryScanCompletes : Obligations.BoundaryScanCompletes := by
  intro s hup
  have scan (c : Nat) (hc : c ≠ 0xFF) (hrun : s.pwr.state ≠ .run) : (.next (scanIr c s) : Res) = .next { s with ir := c } :=
    congrArg _ (scanIr_of_permitted hup hc hrun)
  refine ⟨fun hrun => ⟨scan 0 (by decide) hrun, scan 3 (by decide) hrun, scan 4 (by decide) hrun, scan 5 (by decide) hrun,
    scan 6 (by decide) hrun⟩, fun hrun i hi => ?inRun, ?sample, execIdcode_of_up hup, ?bypass, ?reset, ?lifeCycle⟩
  case inRun =>
    rcases hi with rfl | rfl | rfl | rfl | rfl <;> exact congrArg Host.Outcome.next (scanIr_of_run hup _ hrun)
  case sample => exact congrArg Host.Outcome.next (if_pos hup)
  case bypass => exact congrArg Host.Outcome.next (if_pos hup)
  case reset => exact congrArg Host.Outcome.next (if_pos hup)
  case lifeCycle => exact congrArg Host.Outcome.next (if_pos hup)

/-- Settles O55: the register that IDCODE reads, whose fields are those of the number. -/
theorem idcodeReads : Obligations.IdcodeReads :=
  fun _ hup => ⟨execIdcode_of_up hup, by decide, by decide, by decide, by decide⟩

end Sys2Proof.Machine

/-! Where DMA is not possible (R94, R465), and a repeated event in the main logbook (R423). -/

namespace Sys2Proof.Machine

section NoDma
variable {s : State}
  (hno : s.pcie.busMaster = false ∨ s.pcie.d3hot = true ∨ s.pcie.link = false ∨ s.pcie.credits = false)
include hno

theorem canDma_eq_false : canDma s = false := by
  rcases hno with h | h | h | h <;> simp [canDma, h]

theorem queueDma_eq_false : queueDma s = false := by
  rw [queueDma, canDma_eq_false hno, Bool.false_and]

/-- A message that cannot be sent leaves nothing on the contacts, and its pending bit is set (R471). -/
theorem sendMsix_of_noDma (v : Nat) : (sendMsix v s).out = s.out ∧ (sendMsix v s).pcie.pba.contains v = true := by
  simp only [sendMsix, canDma_eq_false hno, Bool.and_false, Bool.false_eq_true, if_false]
  split
  case isTrue hheld => exact ⟨rfl, hheld⟩
  case isFalse => exact ⟨rfl, by simp⟩

end NoDma

/-- Settles O54: fetches and completions ask for DMA of the queues, which is not possible, and messages for DMA. -/
theorem noDmaNoFetch : Obligations.NoDmaNoFetch := by
  intro s hno
  have hqueue := queueDma_eq_false hno
  refine ⟨?fetch, fun r n x hfound horigin hresult => ?completion, sendMsix_of_noDma hno⟩
  case fetch => simp only [exec, execDescriptorFetch, hqueue, Bool.not_false, if_true]
  case completion => rw [tryWrite_of_host hfound horigin hresult, hqueue, if_neg Bool.false_ne_true]

section LogWrite
variable {e : LogEvent} {r : LogRec} {rest : List LogRec} {l : Log} (core : Bool) (now : Nat) (hroom : l.full = false)
  (hlast : l.main = r :: rest)
include hroom hlast

theorem logWrite_of_repeat (horiginal : r.replayed = false) (htype : r.typ = e.typ) (hpayload : r.payload = padWords e.payload) :
    logWrite core false e 1 now l = { l with main := { r with count := min 65535 (r.count + 1), last := now } :: rest } := by
  simp [logWrite, hroom, hlast, horiginal, htype, hpayload]

theorem logWrite_of_new (hdiffers : r.typ ≠ e.typ ∨ r.payload ≠ padWords e.payload)
    (hfits : l.used + recBytes e.payload + 64 ≤ l.size) :
    (logWrite core false e 1 now l).main =
      { typ := e.typ, replayed := false, hardware := e.hardware, core := core, count := 1, seqNo := l.next, first := e.time,
        last := now, payload := padWords e.payload } :: r :: rest := by
  have hnew : (decide (r.typ = e.typ) && decide (r.payload = padWords e.payload) && decide (r.replayed = false)) = false := by
    rcases hdiffers with h | h <;> simp [h]
  simp only [logWrite, hroom, hlast, hnew, hfits, Bool.false_eq_true, if_false, if_true]

end LogWrite

/-- Settles O57: the last record takes a repeat, whose count holds at its largest value; any other event is a record of
its own. -/
theorem repeatedEventsShareOneRecord : Obligations.RepeatedEventsShareOneRecord := by
  intro core e r rest l now hroom hlast horiginal
  refine ⟨fun htype hpayload => ?again, fun hdiffers hfits => ?new⟩
  case again =>
    have hwrite := logWrite_of_repeat core now hroom hlast horiginal htype hpayload
    refine ⟨hwrite, fun hfull => ?_⟩
    rw [hwrite, ← hfull, Nat.min_eq_left (Nat.le_succ _)]
  case new => exact ⟨_, logWrite_of_new core now hroom hlast hdiffers hfits, rfl, rfl, rfl, rfl, rfl⟩

end Sys2Proof.Machine

/-! The end of a tamper fuse burn (R405, R392). -/

namespace Sys2Proof.Machine

/-- Two fuses blown from bit `i` up, those that `bits` names. -/
theorem getLsbD_fuseBlow_two {f : BitVec 16384} {i bits k : Nat} (hbits : bits < 4) (hi : i + 2 ≤ 16384) :
    (fuseBlow f i bits).getLsbD k = (f.getLsbD k || decide (k = i) && bits.testBit 0 || decide (k = i + 1) && bits.testBit 1) := by
  have hshift : (bits * 2 ^ i).testBit k = (decide (i ≤ k) && bits.testBit (k - i)) := by
    rw [Nat.mul_comm, Nat.testBit_two_pow_mul]
  have hhigh (j : Nat) (hj : 2 ≤ j) : bits.testBit j = false :=
    Nat.testBit_lt_two_pow (hbits.trans_le (Nat.pow_le_pow_right Nat.zero_lt_two hj))
  rw [fuseBlow, BitVec.getLsbD_or, BitVec.getLsbD_ofNat, hshift, Bool.or_assoc]
  congr 1
  rcases Nat.lt_trichotomy k i with hk | rfl | hk
  · simp [Nat.not_le.mpr hk, hk.ne, (Nat.lt_succ_of_lt hk).ne]
  · simp; omega
  · obtain rfl | hk2 := Nat.eq_or_lt_of_le (Nat.succ_le_of_lt hk)
    · simp; omega
    · simp [hhigh (k - i) (by omega), hk.ne', hk2.ne']

section Burn
variable {s : State} {c : Nat} (hbusy : s.tmp.fuseBusy = some c) (hstage : tgetD s.wdn.stage 1 0 ≤ s.wdn.pennant)

/-- The fuses that a burn of code `c` blows: both where it reads back, else a free choice of less than both (R405). -/
def burnBits (readBack : Bool) (s : State) : Nat := if readBack then 3 else Config.freeNat s.freeCtr % 3

/-- The state after a burn of code `c`. -/
def fuseBurned (c : Nat) (readBack : Bool) (s : State) : State :=
  { s with
    freeCtr := s.freeCtr + 1
    wdn := { s.wdn with stage := tset s.wdn.stage 1 s.wdn.pennant }
    lcs := { s.lcs with fuse := fuseBlow s.lcs.fuse (5504 + 2 * (c - 1)) (burnBits readBack s) }
    tmp := { s.tmp with fuseBusy := none, fuseResult := if readBack then 0 else 5 } }

include hbusy hstage in
theorem execFuseBurnDone_of_stage (readBack : Bool) : execFuseBurnDone readBack s = .next (fuseBurned c readBack s) := by
  simp only [execFuseBurnDone, hbusy, stageWrite, Nat.not_lt.mpr hstage, if_false]
  rfl

end Burn

/-- Settles O28: the burn is admitted at its stage, and blows the named fuses among the two of its source. -/
theorem fuseBurnBlowsBothFuses : Obligations.FuseBurnBlowsBothFuses := by
  intro s c hbusy hlow hhigh hstage ok
  have hbits : burnBits ok s < 4 := by
    cases ok with
    | false => exact (Nat.mod_lt _ (Nat.succ_pos 2)).trans (Nat.lt_succ_self 3)
    | true => exact Nat.lt_succ_self 3
  have hfuse (i : Nat) := getLsbD_fuseBlow_two (f := s.lcs.fuse) (i := 5504 + 2 * (c - 1)) (k := i) hbits (by omega)
  refine ⟨fuseBurned c ok s, execFuseBurnDone_of_stage hbusy hstage ok, rfl, rfl, fun hok i => ?both, fun i hfirst hsecond => ?other,
    rfl, rfl, rfl, rfl, rfl, rfl, rfl, rfl, rfl, rfl⟩
  case both =>
    subst hok
    refine (hfuse i).trans ?_
    simp [burnBits, Bool.or_assoc, show Nat.testBit 3 1 = true from rfl]
  case other =>
    refine (hfuse i).trans ?_
    simp [hfirst, hsecond]

end Sys2Proof.Machine

/-! The end of a start (R442): RUN_HOLD decides between RUN and READY. -/

namespace Sys2Proof.Machine

theorem raise_pwr (v : Nat) (s : State) : (raise v s).pwr = s.pwr := (congrArg State.pwr (sansEntropy_raise v s) :)

theorem refreshHold_pwr (s : State) : (refreshHold s).pwr = { s.pwr with runHold := holdBits s } := by
  simp only [refreshHold]
  split
  · rfl
  · exact raise_pwr ..

theorem rrCalls_pwr (c : Nat) : ∀ (n : Nat) {s t : State}, rrCalls c n s = some t → t.pwr = s.pwr
  | 0, s, t, h => by cases h; rfl
  | n + 1, s, t, h => by
    rw [rrCalls] at h
    split at h
    · cases h
    · exact (rrCalls_pwr c n h).trans (by simp [countCalls])

theorem reseedLane_pwr (pool l : Nat) (s : State) : (reseedLane pool l s).pwr = s.pwr := by
  simp only [reseedLane, draw]
  split
  next t hcalls =>
    have hpwr := rrCalls_pwr 3 1 hcalls
    split <;> exact hpwr
  next => exact logEvent_pwr ..

theorem reseedMasks_pwr (s : State) : (reseedMasks s).pwr = s.pwr :=
  List.foldlRecOn (motive := fun t => t.pwr = s.pwr) _ _ rfl fun t ih e _ => (reseedLane_pwr e.1 e.2 t).trans ih

theorem tapForRun_pwr (s : State) : (tapForRun s).pwr = s.pwr := by
  unfold tapForRun
  split <;> rfl

theorem setPState_pwr (p : PState) (s : State) : (setPState p s).pwr = { s.pwr with state := p } := logEvent_pwr ..

/-- RUN entered where nothing holds it, else READY. -/
theorem runOrReady_pwr (t : State) :
    (if t.pwr.runHold = 0 then tapForRun (reseedMasks (setPState .run (setSelfRefresh false t))) else setPState .ready t).pwr =
      { t.pwr with state := if t.pwr.runHold = 0 then .run else .ready } := by
  split
  · rw [tapForRun_pwr, reseedMasks_pwr, setPState_pwr]; rfl
  · exact setPState_pwr ..

theorem endStart_pwr (s : State) :
    (endStart s).pwr = { s.pwr with runHold := holdBits s, state := if holdBits s = 0 then .run else .ready } := by
  rw [endStart, checkpoint_pwr, runOrReady_pwr, refreshHold_pwr]
  rfl

/-- Five conditions as the bits of RUN_HOLD: the bits read back, and the word is 0 where none holds. -/
theorem holdWord_bits : ∀ a b c d e : Bool,
    let h := BitVec.ofNat 5 (16 * b2n a + 8 * b2n b + 4 * b2n c + 2 * b2n d + b2n e)
    (h = 0 ↔ a = false ∧ b = false ∧ c = false ∧ d = false ∧ e = false) ∧ h.getLsbD 4 = a ∧ h.getLsbD 3 = b ∧ h.getLsbD 2 = c ∧
      h.getLsbD 1 = d ∧ h.getLsbD 0 = e := by
  decide

theorem execStartEndTimeout_of_waits {s : State} (hwaits : waitsToEnd s = true) : execStartEndTimeout s = .next (endStart s) :=
  if_pos hwaits

/-- Settles O59: the power state and RUN_HOLD after the start are those that RUN_HOLD's five conditions give. -/
theorem startEndsInRunOrReady : Obligations.StartEndsInRunOrReady := by
  intro s hwaits
  obtain ⟨hzero, himage, hseed, hlocked, hlife, hsource⟩ := holdWord_bits s.img.cfg.isNone s.kvt.vs.isNone s.tmp.locked
    (!(s.lcs.state == .integrator || s.lcs.state == .fielded)) (!s.ent.startupDone)
  change holdBits s = 0 ↔ _ at hzero
  refine ⟨endStart s, execStartEndTimeout_of_waits hwaits, ?_⟩
  rw [endStart_pwr]
  refine ⟨?run, fun hnot => ?ready, himage.trans ?image, hseed.trans ?seed, hlocked, hlife, hsource⟩
  case run =>
    have hstate : (if holdBits s = 0 then PState.run else .ready) = .run ↔ holdBits s = 0 := by
      split <;> simp_all
    refine hstate.trans (hzero.trans ?_)
    simp only [Option.isNone_eq_false_iff, Bool.not_eq_eq_eq_not, Bool.not_false, Bool.or_eq_true, beq_iff_eq]
  case ready =>
    split at hnot
    · exact absurd rfl hnot
    · next hhold => exact if_neg hhold
  case image => exact (Option.not_isSome _).symm
  case seed => exact (Option.not_isSome _).symm

end Sys2Proof.Machine

/-! Where a command stops (R433, R483): beyond an absolute maximum rating, and nowhere else. -/

namespace Sys2Proof.Machine

theorem execVinLockout_of_beyond {s : State} {mv cellMv : Nat} {temp : Int} (hbeyond : 65000 < mv ∨ 4500 < cellMv ∨ 125 < temp) :
    execVinLockout mv cellMv temp s = .fault .beyondAbsoluteMaximum :=
  if_pos hbeyond

theorem execVinLockout_of_within {s : State} {mv cellMv : Nat} {temp : Int} (hmv : mv ≤ 65000) (hcell : cellMv ≤ 4500)
    (htemp : temp ≤ 125) :
    execVinLockout mv cellMv temp s =
      let t : State := { s with pwr := { s.pwr with vinMv := mv, cellMv := cellMv } }
      .next (if 8500 ≤ mv ∧ mv ≤ 62000 then s
        else if s.pwr.state = .off ∨ s.pwr.state = .reserve ∨ s.pwr.lockout = true then
          { t with pwr := { t.pwr with vinValid := false, ovlo := t.pwr.ovlo || decide (62000 < mv) } }
        else loseVin (decide (62000 < mv)) t) := by
  have hrated : ¬(65000 < mv ∨ 4500 < cellMv ∨ 125 < temp) := by omega
  rw [execVinLockout, if_neg hrated]
  split_ifs <;> rfl

theorem runCmd_next (code : Nat) (pre : Pre) (f : Calc) (rid : Nat) (spUe : Option Nat) (s : State) :
    ∃ t, runCmd code pre f rid spUe s = .next t := by
  unfold runCmd
  split
  · exact ⟨_, rfl⟩
  · split <;> exact ⟨_, rfl⟩

/-- Every command but a lockout beyond a rating answers a next state: a command of the catalogue because its run does, a row
with one form because that form does, and a row with several because each of its branches does. -/
theorem exec_next (s : State) (i : Instr)
    (hrated : ∀ mv cellMv temp, i = .vinLockout mv cellMv temp → mv ≤ 65000 ∧ cellMv ≤ 4500 ∧ temp ≤ 125) :
    ∃ t, exec i s = .next t := by
  cases i
  case vinLockout mv cellMv temp =>
    obtain ⟨hmv, hcell, htemp⟩ := hrated mv cellMv temp rfl
    exact ⟨_, execVinLockout_of_within hmv hcell htemp⟩
  case pinTranslate | pinVerifyPvv | pinVerifyOffset | pinVerifyCompare | pvvGenerate | offsetGenerate | cvvVerify |
    cvvGenerate | arqcVerify | arqcVerifyArpc | arpcGenerate | scriptMac | scriptEncrypt | macGenerate | macVerify |
    dukptPinTranslate | dukptMacVerify | dukptDecrypt | dukptIkExport | encrypt | decrypt | gcmEncrypt | gcmDecrypt |
    keyImport | keyExport | keyGenerate | keyDelete | keyInfo | keyComponentsCombine | keyAttest | publicKeyImport |
    publicKeyExport | sha256Blocks | sha512Blocks | keccakAbsorb | keccakSqueeze | hmacGenerate | hmacVerify | random |
    rsaSign | rsaVerify | rsaDecrypt | rsaEncrypt | rsaKeygen | ecdsaSign | ecdsaVerify | eddsaSign | eddsaVerify | ecdhDerive
    | ecKeygen | modExp | modMul | mlkemKeygen | mlkemEncaps | mlkemDecaps | mldsaKeygen | mldsaSign | mldsaVerify |
    slhdsaKeygen | slhdsaSign | slhdsaVerify | statefulKeygen | statefulSign | statefulVerify | statefulRemaining | hqcKeygen
    | hqcEncaps | hqcDecaps | mcelieceKeygen | mcelieceEncaps | mcelieceDecaps | hybridKemKeygen | hybridEncaps | hybridDecaps
    | hybridSignKeygen | hybridSign | hybridVerify | echo | meterLatch | meterRead | sliceInfo =>
    exact runCmd_next ..
  case powerStateRun | powerStateReady | powerStateSleep | readyDrainDone | imageStage | imageActivate | queueCreate |
    queueDelete | sliceResetDrain | sliceResetSquash | sliceResetDone | sliceFreeze | sliceFreezeDone | sliceThaw | sliceSave
    | sliceRestorePrepare | sliceRestore | drainCeilingExpiry | rosterReservationExpiry | meterLatchAll | logClearMain |
    logClearReserve | logClearBoth | wardenSwitchback | unlock | lifecycleRequestIntegrator | lifecycleRequestFielded |
    lifecycleRequestReturned | scrap | lcsEnergyWait | ownerEnrol | ownerEnrolRoster | identityAttest | vaultResealStage |
    vaultResealCommit | vaultResealAbandon | vaultRekey | rekeyRangeDone | custodianSessionOpen | custodianSessionApprove |
    custodianSessionWithdraw | custodianSessionClose | custodianSessionStatus | membershipInstall | domainCreate |
    domainSetStandby | domainHandover | engineAbort | lkuTrieInsert | lkuTrieDelete | lkuTrieReplace | lkuTrieRead |
    lkuTrieSearch | lkuEmInsert | lkuEmDelete | lkuEmReplace | lkuEmRead | lkuDomainRead | lkuPeerRead | lkuStashRead |
    lkuBatch | stashRetry | trieNodeFree | tmpFuseCmd | entRawCtrl | entRawData | logSel | pwrCellFaultClear | reg64LowRead |
    registerAccessInvalid | registerWrite | msixUnmask | pcieRequestRefused | perstNRelease | d3hotEntry | d0Return |
    busMasterDisable | pasidEnableClear | ideStreamSecure | ideStreamInsecure | smbusTelemetry | smbusUnknownCommand | lcsRead
    | extest | samplePreload | idcode | highz | clamp | extestPulse | extestTrain | bypass | tapReset | capFloorReached |
    capFullReached | keyStoreCompaction | approvalWindowExpiry | tamperAlarm | wardenCoreFailure | reassemblyTimeout |
    responseMessage | sessionBurgee | claimMessage | snapshotMessage | resyncRequest | resyncStored | resyncReject |
    resyncHandover | burgeeMissed | busMasterEnable | postedWriteCreditReturn =>
    exact ⟨_, rfl⟩
  all_goals
    dsimp only [exec, execSqTailDoorbell, execCqHeadDoorbell, execDescriptorFetch, execDescriptorArrival,
      execLandingRoomFreed, execRequestLand, execTokenRefill, execNonEnsignDispatch, execSequencerFree, execOperationBoundary,
      execCoreCompletionInterrupt, execReleaseStep, execRequestForward, execBlindWaitResume, execRngWaitResume,
      execOfferExpiry, execMinuteLatch, execRingEntryWritten, execTrieScrub, execFuseBurnDone, execLogSelFetchDone,
      execPasidUnmapped, execConfigRequest, execPcieReset, execSpdmMessage, execModRstN, execSmbusPower, execSmbusSetAddr,
      execSmbusRead, execSmbusWrite, execSmbusReadBurst, execSmbusWriteBurst, execDbgChallenge, execDbgAuth, execDbgStatus,
      execDbgMem, execVinValid, execDomainReloadLocal, execStartEndTimeout, execReserveEntry, execReserveExhaustion,
      execCellTempReading, execChargeStepRestore, execChargerPhaseChange, execPrechargeTimeout, execChargeTimeout,
      execCellFault, execCellFaultRecheck, execCellInserted, execCoulombCounterTick, execQestDailyUpdate, execUnitClockStop,
      execJunctionTempSample, execKnownAnswerTest, execUnitCheckFailure, execSpareSwitchIn, execMaskReseed,
      execHealthWindowEnd, execBalancingPeriodEnd, execSeedBlockClose, execEntCheckpoint, execReseedDue, execDrbgReseed,
      execDrbgWardenReinstantiate, execScrubRead, execRowRemapCopyDone, execKeyStoreCommit, execCardInserted, execCardRemoved,
      execCardOvercurrent, execCardTimeout, execCardSessionExpiry, execSeedKillDone, execFailedCoreSelfTest,
      execWardenCheckpoint, execLogStagingFlush, execPortLinkChange, execPauseFrame, execAddressResolution, execForeignFrame,
      execPtpMessage, execPtpLock, execRequestMessage, execAckOnlyBurgee, execBeacon, execSnapshotInstall, execSessionHello,
      execSessionAccept, execSessionFinish, execSessionClose, execRetransmitTimer, execStaleSession, execAckDelayExpiry,
      execHelloResend, execFinishTimeout, execSessionConfirmTimeout, execSessionRekey, execBeaconPeriod, execBurgeePeriod,
      execPathUnmark, execNodeIdAssign, execNodeIdConfirm]
    repeat' first | exact ⟨_, rfl⟩ | split

/-- Settles O35: the fault is VIN_LOCKOUT's alone, and only beyond a rating. -/
theorem onlyAnExcessRatingStops : Obligations.OnlyAnExcessRatingStops :=
  ⟨fun _ _ _ _ hbeyond => execVinLockout_of_beyond hbeyond, exec_next⟩

end Sys2Proof.Machine

/-! What the events of cell, charger and gauge leave as it was (R449, R453, R455). -/

namespace Sys2Proof.Machine

/-- The supply's part of the power state: what no event of cell, charger or gauge touches. -/
def Pwr.supply (w : Pwr) : Pwr :=
  { state := w.state, vinMv := w.vinMv, cap := w.cap, profile := w.profile, cause := w.cause, vinValid := w.vinValid }

/-- A state without what a charger event may change: the charger and the gauge, the logbooks, and the interrupts that a cell
fault or a full logbook raises (R455). -/
def State.sansCharger (s : State) : State :=
  { s.sansEntropy with ent := s.ent, pwr := s.pwr.supply }

theorem sansCharger_of_sansEntropy {s t : State} (hrest : t.sansEntropy = s.sansEntropy) (hent : t.ent = s.ent)
    (hpwr : t.pwr = s.pwr) : t.sansCharger = s.sansCharger := by
  rw [State.sansCharger, State.sansCharger, hrest, hent, hpwr]

theorem sansCharger_ite {g : Prop} [Decidable g] {s x y : State} (hx : x.sansCharger = s.sansCharger)
    (hy : y.sansCharger = s.sansCharger) : (if g then x else y).sansCharger = s.sansCharger := by
  split
  · exact hx
  · exact hy

theorem sansCharger_raise (v : Nat) (s : State) : (raise v s).sansCharger = s.sansCharger :=
  sansCharger_of_sansEntropy (sansEntropy_raise ..) (raise_ent ..) (raise_pwr ..)

theorem sansCharger_logEvent (typ : Nat) (payload : Bytes) (s : State) :
    (logEvent typ payload s).sansCharger = s.sansCharger :=
  sansCharger_ite rfl rfl

theorem sansCharger_logReserve (typ : Nat) (payload : Bytes) (s : State) :
    (logReserve typ payload s).sansCharger = s.sansCharger := by
  unfold logReserve
  refine sansCharger_ite rfl (sansCharger_ite ?repeated (sansCharger_ite rfl rfl))
  case repeated => split <;> rfl

theorem sansCharger_noteFull (old s : State) : (noteFull old s).sansCharger = s.sansCharger :=
  sansCharger_ite (sansCharger_raise ..) rfl

/-! The shared operations of the charger and the gauge. -/

theorem sansCharger_setFault (code : Nat) (s : State) : (setFault code s).sansCharger = s.sansCharger :=
  sansCharger_ite rfl (sansCharger_ite ((sansCharger_raise ..).trans (sansCharger_logEvent ..))
    ((sansCharger_noteFull ..).trans (sansCharger_logReserve ..)))

theorem supply_enterPhase (now n : Nat) (w : Pwr) : (enterPhase now n w).supply = w.supply := by
  simp only [enterPhase]
  split_ifs <;> rfl

/-- A charger that has only moved within its own part leaves the rest. -/
theorem sansCharger_of_supply {s : State} {w : Pwr} (h : w.supply = s.pwr.supply) :
    ({ s with pwr := w } : State).sansCharger = s.sansCharger := by
  simp only [State.sansCharger, State.sansEntropy, h]

theorem sansCharger_recharge (s : State) : (recharge s).sansCharger = s.sansCharger :=
  sansCharger_of_supply (supply_enterPhase ..)

theorem sansCharger_rechargeFault (code : Nat) (s : State) : (recharge (setFault code s)).sansCharger = s.sansCharger :=
  (sansCharger_recharge _).trans (sansCharger_setFault ..)

theorem sansCharger_fade (loss : Nat) (s : State) : (fade loss s).sansCharger = s.sansCharger :=
  sansCharger_ite (sansCharger_setFault ..) rfl

theorem sansCharger_countCycles (p : Profile) (s : State) : (countCycles p s).sansCharger = s.sansCharger :=
  sansCharger_ite rfl (sansCharger_ite rfl (sansCharger_fade ..))

theorem sansCharger_newCell (s : State) : (newCell s).sansCharger = s.sansCharger := by
  unfold newCell
  split <;> rfl

/-! The events. -/

/-- What an event under a guard leaves. -/
theorem sansCharger_of_guarded {g : Prop} [Decidable g] {x y s t : State}
    (h : (if g then Host.Outcome.next x else .next y : Res) = .next t)
    (hx : x.sansCharger = s.sansCharger) (hy : y.sansCharger = s.sansCharger) : t.sansCharger = s.sansCharger := by
  rw [← apply_ite] at h
  cases h
  exact sansCharger_ite hx hy

variable {s t : State}

theorem sansCharger_of_execCellTempReading {ohms : Nat} {temp : Int} (h : execCellTempReading ohms temp s = .next t) :
    t.sansCharger = s.sansCharger := by
  simp only [execCellTempReading] at h
  split at h
  case h_1 =>
    cases h
    exact sansCharger_ite rfl rfl
  case h_2 =>
    split at h
    · cases h
      rfl
    · split at h
      · cases h
        exact sansCharger_rechargeFault ..
      · split at h
        · cases h
          rfl
        · exact sansCharger_of_guarded h ((sansCharger_recharge _).trans rfl) rfl

theorem sansCharger_of_execChargerPhaseChange {mv : Nat} {ua : Int} (h : execChargerPhaseChange mv ua s = .next t) :
    t.sansCharger = s.sansCharger := by
  simp only [execChargerPhaseChange] at h
  split at h
  · cases h
    rfl
  · exact sansCharger_of_guarded h rfl (sansCharger_of_supply (supply_enterPhase ..))

theorem sansCharger_of_execCellFault {code : Nat} (h : execCellFault code s = .next t) : t.sansCharger = s.sansCharger :=
  sansCharger_of_guarded h rfl ((sansCharger_rechargeFault ..).trans (sansCharger_ite rfl rfl))

theorem sansCharger_of_execCellFaultRecheck {mv ohms : Nat} (h : execCellFaultRecheck mv ohms s = .next t) :
    t.sansCharger = s.sansCharger :=
  sansCharger_of_guarded h rfl
    ((sansCharger_recharge _).trans (sansCharger_ite ((sansCharger_newCell _).trans rfl) rfl))

theorem sansCharger_of_execCoulombCounterTick {ua : Int} (h : execCoulombCounterTick ua s = .next t) :
    t.sansCharger = s.sansCharger := by
  refine sansCharger_of_guarded h rfl ?_
  split
  · exact (sansCharger_countCycles ..).trans rfl
  · rfl

theorem sansCharger_of_execQestDailyUpdate {temp : Int} (h : execQestDailyUpdate temp s = .next t) :
    t.sansCharger = s.sansCharger := by
  unfold execQestDailyUpdate at h
  split at h
  · cases h
    exact sansCharger_ite rfl (sansCharger_fade ..)
  · cases h
    rfl

/-- Settles O51: each of the ten events leaves the state without the charger's part as it was, and the fields of the statement
are fields of that rest. -/
theorem frameOfChargerEvents : Obligations.FrameOfChargerEvents := by
  intro s t i hi hexec
  have hrest : t.sansCharger = s.sansCharger := by
    rcases hi with ⟨_, _, rfl⟩ | rfl | ⟨_, _, rfl⟩ | rfl | rfl | ⟨_, rfl⟩ | ⟨_, _, rfl⟩ | ⟨_, rfl⟩ | ⟨_, rfl⟩ | ⟨_, rfl⟩
    · exact sansCharger_of_execCellTempReading hexec
    · exact sansCharger_of_guarded hexec rfl rfl
    · exact sansCharger_of_execChargerPhaseChange hexec
    · exact sansCharger_of_guarded hexec (sansCharger_rechargeFault ..) rfl
    · exact sansCharger_of_guarded hexec (sansCharger_rechargeFault ..) rfl
    · exact sansCharger_of_execCellFault hexec
    · exact sansCharger_of_execCellFaultRecheck hexec
    · exact sansCharger_of_guarded hexec ((sansCharger_newCell _).trans rfl) rfl
    · exact sansCharger_of_execCoulombCounterTick hexec
    · exact sansCharger_of_execQestDailyUpdate hexec
  have field {α : Type} (f : State → α) : f t.sansCharger = f s.sansCharger := congrArg f hrest
  exact ⟨field (·.mtime), field (·.img), field (·.rqs), field (·.slices), field (·.adm), field (·.eng), field (·.ent),
    field (·.lku), field (·.mem), field (·.kvt), field (·.fab), field (·.lcs), field (·.tmp), field (·.wdn), field (·.cust),
    field (·.ir), field (·.mgt.buf), field (·.pwr.state), field (·.pwr.vinMv), field (·.pwr.cap), field (·.pwr.profile),
    field (·.pwr.cause), field (·.pwr.vinValid)⟩

end Sys2Proof.Machine

/-! Slice migration (R315-R318): the runs of SLICE_SAVE and SLICE_RESTORE where their checks pass, and the two expiries. -/

namespace Sys2Proof.Machine

section Migration
variable {d : Desc} {env : LaunchEnv} {inp : Bytes} {u : State}

/-- PREPARE draws four values for the keys, the number and the signature of its offer (R315). -/
theorem sliceRestoreRun_of_prepare {t : State} (hop : d.p % 16 = 1) (henabled : enabled u d.slice.toNat = true)
    (hidentity : u.kvt.identity = true) (hcall : wardenCalls 1 u = some t) :
    sliceRestoreRun d inp u =
      let o : Offer := { id := leNat (freeBytes (t.freeCtr + 2) 8), expiry := u.mtime + 600000000000, keys := t.freeCtr }
      let body := offerBody d.slice.toNat (selfNode u) o
      outCmd (body ++ identitySign u "MORILATIK-MIG-1" body (t.freeCtr + 3))
        (updSlice d.slice.toNat (fun x => { x with offer := some o }) { t with freeCtr := t.freeCtr + 4 }) := by
  simp only [sliceRestoreRun, hop, restorePrepare, henabled, hidentity, hcall, drawMany, Bool.not_true, Bool.or_false,
    Bool.false_eq_true, if_true, if_false]

/-- A blob that the slice's own offer opens, and that the slice can take, is restored (R318). -/
theorem sliceRestoreRun_of_blob {o : Offer} {b : Bytes} (hop : d.p % 16 = 2) (hoffer : (slice u d.slice.toNat).offer = some o)
    (hnode : fld inp 10 2 = selfNode u) (hid : fld inp 16 8 = o.id) (hlive : u.mtime < o.expiry)
    (hopen : openBlob u d.slice.toNat o inp = some b) :
    let q := fld b 0 1
    let r := fld b 1 1
    let qs := (List.range q).map fun i => queueOfRecord (bytesAt b (8 + 32 * i) 32)
    let roster := (List.range r).map fun i => (bytesAt b (8 + 32 * q + 40 * i) 32, fld b (8 + 32 * q + 40 * i + 32) 8)
    b.length = 328 + 32 * q + 40 * r → q ≤ 16 → r ≤ 64 → fld inp 6 1 = d.slice.toNat →
    restorable u d.slice.toNat qs = true →
    sliceRestoreRun d inp u = okCmd
      (applyBlob d.slice.toNat (fld inp 8 2) qs roster (ringOfBytes (bytesAt b (b.length - 320) 320)) u) := by
  intro q r qs roster hlength hqueues hplaces hslice hrestorable
  have hmine : ¬ (fld inp 10 2 ≠ selfNode u ∨ fld inp 16 8 ≠ o.id ∨ o.expiry ≤ u.mtime) := by
    simp [hnode, hid, Nat.not_le.mpr hlive]
  have hwhole : ¬ (b.length ≠ 328 + 32 * q + 40 * r ∨ 16 < q ∨ 64 < r) := by omega
  have htakes : ¬ (fld inp 6 1 ≠ d.slice.toNat ∨ (!restorable u d.slice.toNat qs) = true) := by simp [hslice, hrestorable]
  have hrestore : ¬ d.p % 16 = 1 := by omega
  simp only [sliceRestoreRun, restoreRun, hoffer, hopen]
  rw [if_neg hrestore, if_neg hmine, if_neg hwhole, if_neg htakes]

/-- A frozen slice whose tenant may migrate is saved for the valid offer of an alive peer (R316, R317). -/
theorem sliceSaveRun_of_offer {t : State} (hfrozen : (slice u d.slice.toNat).state = .frozen)
    (hmay : (tenant u d.slice.toNat).flags.getLsbD 5 = true) (halive : (peerOf u (fld inp 8 2)).state = 1)
    (hsession : (peerOf u (fld inp 8 2)).session.isSome = true) (hsigned : signed env.sig = true)
    (hlive : u.mtime < fld inp 24 8) (hcall : wardenCalls 1 u = some t) :
    sliceSaveRun d env inp u =
      let sl := d.slice.toNat
      let e := saveEntry u sl
      let (ct, ssM) := pqEncapsOf "K" 2 (bytesAt inp 32 1184) t.freeCtr
      let x := freeBytes (t.freeCtr + 1) 32
      let c : Cipher := { aes := true, key := migrationKey ssM (xdh 4 x (bytesAt inp 1216 32)) inp }
      let body := blobPayload u sl e
      let head := ascii "SBLB" ++ leBytes 2 1 ++ [d.slice, 0] ++ leBytes 2 (selfNode u) ++ leBytes 2 (fld inp 8 2) ++
        leBytes 4 body.length ++ bytesAt inp 16 8 ++ leBytes 8 u.mtime ++ List.replicate 16 0 ++ ct ++ xdh 4 x (xBase 4)
      let iv := freeBytes (t.freeCtr + 2) 12
      let enc := gcmText c iv body
      outCmd (head ++ iv ++ enc ++ gcmTag c iv head enc)
        (checkpoint (dropQueues sl (updSlice sl (fun y => { (queueRing e y) with
          meter := { start := u.mtime }, state := .saved, roster := [] }) { t with freeCtr := t.freeCtr + 3 }))) := by
  have hpeer : ((slice u d.slice.toNat).state != .frozen || !(tenant u d.slice.toNat).flags.getLsbD 5 ||
      (peerOf u (fld inp 8 2)).state != 1 || (peerOf u (fld inp 8 2)).session.isNone) = false := by
    simp [hfrozen, hmay, halive, Option.isNone_eq_false_iff.mpr hsession]
  have hvalid : (!(env.sig.mldsa && env.sig.ecdsa) || decide (fld inp 24 8 ≤ u.mtime)) = false := by
    rw [show (env.sig.mldsa && env.sig.ecdsa) = true from hsigned]
    simpa using hlive
  simp only [sliceSaveRun, hpeer, hvalid, hcall, drawMany, Bool.false_eq_true, if_false]

end Migration

theorem execOfferExpiry_of_due {n : Nat} {o : Offer} {s : State} (hoffer : (slice s n).offer = some o)
    (hdue : o.expiry ≤ s.mtime) : execOfferExpiry n s = .next (updSlice n (fun x => { x with offer := none }) s) := by
  simp only [execOfferExpiry, hoffer, hdue, if_true]

/-- Settles O21: the mailbox takes each command, which completes with what its run answers. -/
theorem migrationCommandsComplete : Obligations.MigrationCommandsComplete := by
  intro s u l inp sl
  have hop {n : Nat} (hn : n < 16) : (launched 0x6009 (withOp 16 n l)).p % 16 = n := p_mod_withOp_sixteen 0x6009 hn l
  refine ⟨fun t htakes henabled hidentity hcall => ?prepare,
    fun t htakes hfrozen hmay halive hsession hsigned hlive hcall => ?save,
    fun o b htakes hoffer hnode hid hlive hopen hlength hqueues hplaces hslice hrestorable => ?restore,
    fun n o hoffer hdue => execOfferExpiry_of_due hoffer hdue, fun n => rfl⟩
  case prepare =>
    exact next_of_mailbox_ends htakes (by decide) ((mgtRun_6009 (withOp 16 1 l) inp u).trans
      (sliceRestoreRun_of_prepare (hop (by decide)) henabled hidentity hcall))
  case save =>
    exact next_of_mailbox_ends htakes (by decide) ((mgtRun_6008 l inp u).trans
      (sliceSaveRun_of_offer hfrozen hmay halive hsession hsigned hlive hcall))
  case restore =>
    exact next_of_mailbox_ends htakes (by decide) ((mgtRun_6009 (withOp 16 2 l) inp u).trans
      (sliceRestoreRun_of_blob (hop (by decide)) hoffer hnode hid hlive hopen hlength hqueues hplaces hslice hrestorable))

end Sys2Proof.Machine

/-! Metering and logbooks (R321, R322, R424-R427, R431), and the write of a register through BAR0 (R11). -/

namespace Sys2Proof.Machine

/-- An aligned write through BAR0 changes its register and serves the mailbox (R11, R421). -/
theorem writeReg_of_bar0 {s : State} {off : Nat} (v : Word) (env : LaunchEnv) (hopen : barOpen s = true)
    (haligned : off % 4 = 0) : writeReg .bar0 off v env s = pump (regWrite .bar0 off v env s) := by
  have hpath : pathOpen .bar0 s = true := hopen
  simp [writeReg, hpath, haligned]

/-- P0 [1:0] of a row with four operations is the number of its operation. -/
theorem nbit_withOp_four (code : Nat) {n j : Nat} (hn : n < 4) (hj : j < 2) (l : Launch) :
    nbit (launched code (withOp 4 n l)).p j = n.testBit j := by
  rw [launched_p, withOp_p 4 n l hn rfl, Nat.mul_comm, nbit, Nat.testBit_two_pow_mul_add (i := 2) _ hn, if_pos hj]

/-- With its approvals reserved, a command under dual control that completes with OK uses them up (R145, R148). -/
theorem dualControl_of_approved {n : Nat} {d : Desc} {inp : Bytes} {run : State → Ran} {s t v : State} {a : List Approval}
    (happroved : reserveApprovals n 0 (opStatement d 0xFFFF inp) s = .inl (a, t)) (hrun : run t = okCmd v) :
    dualControl n d inp run s = okCmd (settleApprovals true (opStatement d 0xFFFF inp) v) := by
  simp only [dualControl, happroved, hrun]
  rfl

theorem logClearRun_of_approved {d : Desc} {inp : Bytes} {u t : State} {a : List Approval} (hnext : fld inp 0 4 = u.log.next)
    (hrsvNext : fld inp 4 4 = u.log.rsvNext)
    (happroved : reserveApprovals 2 0 (opStatement d 0xFFFF inp) u = .inl (a, t)) :
    logClearRun d inp u = okCmd (settleApprovals true (opStatement d 0xFFFF inp)
      (let v := if nbit d.p 0 then clearMain t else t
        if nbit d.p 1 then clearReserve v else v)) := by
  have hnumbers : ¬ (fld inp 0 4 ≠ u.log.next ∨ fld inp 4 4 ≠ u.log.rsvNext) := by simp [hnext, hrsvNext]
  simp only [logClearRun, hnumbers, if_false]
  exact dualControl_of_approved happroved rfl

theorem execMinuteLatch_of_minute {s : State} (hup : s.pwr.state = .ready ∨ s.pwr.state = .run)
    (hminute : s.mgt.mtrLast / 60000000000 < s.mtime / 60000000000) :
    execMinuteLatch s = .next { latchAll 1 s with mgt := { (latchAll 1 s).mgt with mtrLast := s.mtime } } := by
  have hserves : (s.pwr.state == .ready || s.pwr.state == .run) = true := by simpa using hup
  simp [execMinuteLatch, hserves, Nat.not_le.mpr hminute]

theorem execRingEntryWritten_of_latching {n : Nat} {e : RingEntry} {rest : List RingEntry} {s : State}
    (hlatching : (slice s n).latching = e :: rest) :
    let q := ((slice s n).ringSeq + 1) % 2 ^ 32
    execRingEntryWritten n s = .next (finishLatches n (updSlice n (fun x => { x with
      latching := rest, ringSeq := q, ring := ({ e with seqNo := q } :: x.ring).take 64 }) s)) := by
  simp only [execRingEntryWritten, hlatching]

theorem execLogStagingFlush_of_store {s : State} (hwarden : wardenUp s = true) (hstore : s.log.size ≠ 0) :
    execLogStagingFlush s = .next (flushLog s) := by
  simp [execLogStagingFlush, hwarden, hstore]

theorem execLogSelFetchDone_of_busy {s : State} (hbusy : s.log.selBusy = true) (hwarden : wardenUp s = true) :
    let t := flushLog s
    execLogSelFetchDone s = .next { t with log := { t.log with
      selBusy := false
      window := (if t.log.selRsv then t.log.rsv else t.log.main).find? fun r => r.seqNo == t.log.selSeq } } := by
  simp [execLogSelFetchDone, hbusy, hwarden]

/-- Settles O22: the mailbox takes METER_LATCH_ALL and LOG_CLEAR, the write of LOG_SEL goes through BAR0, and the events follow
their own equations. -/
theorem meterAndLogCommandsComplete : Obligations.MeterAndLogCommandsComplete := by
  intro s u l inp
  refine ⟨fun htakes => ?latchAll, execMinuteLatch_of_minute, fun n e rest => execRingEntryWritten_of_latching,
    fun n i k a t hrow hk htakes hnext hrsvNext happroved => ?clear, execLogStagingFlush_of_store,
    fun v hopen => congrArg _ (writeReg_of_bar0 v {} hopen rfl), execLogSelFetchDone_of_busy⟩
  case latchAll => exact next_of_mailbox_ends htakes (by decide) (mgtRun_600A l inp u)
  case clear =>
    subst hk
    have hbit {j : Nat} (hn : n < 4) (hj : j < 2) : nbit (launched 0x600B (withOp 4 n l)).p j = n.testBit j :=
      nbit_withOp_four 0x600B hn hj l
    have hran := (mgtRun_600B (withOp 4 n l) inp u).trans (logClearRun_of_approved hnext hrsvNext happroved)
    rcases hrow with ⟨rfl, rfl⟩ | ⟨rfl, rfl⟩ | ⟨rfl, rfl⟩ <;>
      · rw [hbit (by decide) (by decide), hbit (by decide) (by decide)] at hran
        exact next_of_mailbox_ends htakes (by decide) hran

end Sys2Proof.Machine

/-! Life-cycle transitions (R384-R388, R443): the runs of LIFECYCLE_REQUEST and SCRAP where nothing refuses them, and the two events
of the charge. -/

namespace Sys2Proof.Machine

/-- An event after which the mailbox is served, by its effect. -/
theorem next_pump {t u : State} (h : t = u) : (.next (pump t) : Res) = .next (pump u) := by rw [h]

/-- What a launch gives whose command has not completed by its own answer: it waits, or has ended by itself. -/
theorem next_of_mailbox_leaves {code : Nat} {l : Launch} {s u v : State} {inp : Bytes} (htakes : MailboxTakes code l s inp u)
    (hcode : BitVec.ofNat 16 code ≠ 0) (hrun : mgtRun l.path (launched code l) l.env inp u = (none, v)) :
    (.next (pump (hostLaunch code l s)) : Res) = .next (pumpN 4 v) := by
  rw [mailbox_waits htakes hcode hrun]

/-- Where only the bits of the operation are set, P0 is its number. -/
theorem p_withOp_sixteen (code : Nat) {n : Nat} {l : Launch} (hn : n < 16) (hrest : l.desc.p / 16 = 0) :
    (launched code (withOp 16 n l)).p = n := by
  rw [launched_p, withOp_p 16 n l hn rfl, hrest, Nat.zero_mul, Nat.zero_add]

section Transition
variable {target code : Nat} {path : MPath} {readBack : Bool} {u : State}

/-- A transition that has its charge runs to its end (R384). -/
theorem startTransition_of_full (hfull : capFull u = true) :
    startTransition target code path readBack u =
      (none, completeTransition target code path readBack { u with lcs := { u.lcs with xtarget := target } }) :=
  if_pos hfull

/-- A transition without it waits (R384). -/
theorem startTransition_of_short (hshort : capFull u = false) :
    startTransition target code path readBack u =
      (let v : State := { u with lcs := { u.lcs with
        xtarget := target
        waiting := some { target := target, code := code, path := path, since := u.mtime, readBack := readBack } } }
      (none, { v with mgt := { v.mgt with running := some (.transition code path) } })) :=
  if_neg (Bool.eq_false_iff.mp hshort)

end Transition

section Request
variable {path : MPath} {d : Desc} {env : LaunchEnv} {inp : Bytes} {u : State}
variable (hready : u.pwr.state = .ready) (hunlocked : u.tmp.locked = false) (hwaiting : u.lcs.waiting = none)
include hready hunlocked hwaiting

/-- A request to INTEGRATOR carries no input and no signature (R386). -/
theorem lifecycleRun_of_integrator (hp : d.p = 2) (hinput : d.inLen = 0) (hmaker : u.lcs.state = .maker)
    (hsource : u.ent.startupDone = true) :
    lifecycleRun path d env inp u = startTransition 2 0x600E path env.readBack u := by
  have hlayout : requestBad d inp = none := by simp [requestBad, hp, hinput, malformed, firstBad]
  have hstate : requestRefused d u = false := by simp [requestRefused, hready, hunlocked, hwaiting, hp, hmaker, hsource]
  simp [lifecycleRun, hlayout, hstate, hp]

/-- A request to FIELDED or RETURNED is the owner's, for this module, from the state before it (R386). -/
theorem lifecycleRun_of_signed {n : Nat} (hp : d.p = n) (hlater : n ≠ 2) (hlayout : requestBad d inp = none)
    (hfrom : u.lcs.state.code = n - 1) (howned : u.kvt.ownerFpr.isSome = true) (hmine : bytesAt inp 8 32 = u.kvt.idFpr)
    (hsigned : signed env.sig = true) :
    lifecycleRun path d env inp u = startTransition n 0x600E path env.readBack u := by
  have hstate : requestRefused d u = false := by
    simp [requestRefused, hready, hunlocked, hwaiting, hp, hlater, hfrom, Option.isNone_eq_false_iff.mpr howned]
  simp [lifecycleRun, hlayout, hstate, hp, hmine, hsigned]

end Request

/-- With every copy reading its code word the target governs (R388). -/
theorem endTransition_of_copies {target : Nat} {s : State} (hcopies : copiesAre s target = true) :
    endTransition target s = ({}, enterState target (xstatus 0 target s)) :=
  if_pos hcopies

/-- After 1 s without the charge a transition is refused (R384). -/
theorem energyWait_of_expired {s : State} {w : Transition} (hwaiting : s.lcs.waiting = some w) (hshort : capFull s = false)
    (hdue : w.since + 1000000000 ≤ s.mtime) :
    let t := logEvent 0xA05 [BitVec.ofNat 8 w.target] (xstatus 4 w.target s)
    energyWait s = mgtDone w.code w.path stState (stateDetail t) 0 t := by
  simp [energyWait, hwaiting, hshort, Nat.not_lt.mpr hdue]

/-- A transition that waits goes on with the full charge (R384). -/
theorem chargeFull_of_waiting {s : State} {w : Transition} (hwaiting : s.lcs.waiting = some w) (hfull : capFull s = true)
    (hunlocked : s.tmp.locked = false) : chargeFull s = completeTransition w.target w.code w.path w.readBack s := by
  simp [chargeFull, hwaiting, hfull, hunlocked]

theorem chargeFull_of_idle {s : State} (hwaiting : s.lcs.waiting = none) : chargeFull s = s := by
  simp only [chargeFull, hwaiting]

/-- The state with the capacitor at its full charge (R443). -/
def fullyCharged (s : State) : State := { s with pwr := { s.pwr with cap := max s.pwr.cap 4400 } }

theorem capFull_fullyCharged (s : State) : capFull (fullyCharged s) = true := decide_eq_true (le_max_right ..)

theorem capFullReached_of_vin {s : State} (hvin : s.pwr.vinValid = true) : capFullReached s = chargeFull (fullyCharged s) :=
  if_pos hvin

theorem execCapFullReached_of_idle {s : State} (hvin : s.pwr.vinValid = true) (hwaiting : s.lcs.waiting = none) :
    execCapFullReached s = .next (pump (fullyCharged s)) := by
  have hidle : (fullyCharged s).lcs.waiting = none := hwaiting
  rw [execCapFullReached, capFullReached_of_vin hvin, chargeFull_of_idle hidle]

theorem execCapFullReached_of_waiting {s : State} {w : Transition} (hvin : s.pwr.vinValid = true)
    (hwaiting : s.lcs.waiting = some w) (hunlocked : s.tmp.locked = false) :
    execCapFullReached s = .next (pump (completeTransition w.target w.code w.path w.readBack (fullyCharged s))) := by
  have hwaits : (fullyCharged s).lcs.waiting = some w := hwaiting
  rw [execCapFullReached, capFullReached_of_vin hvin, chargeFull_of_waiting hwaits (capFull_fullyCharged s) hunlocked]

/-- Settles O23: the mailbox takes each command, whose transition runs or waits by the charge of the capacitor. -/
theorem lifecycleCommandsComplete : Obligations.LifecycleCommandsComplete := by
  intro s u l inp
  have hp {n : Nat} (hn : n < 16) (hrest : l.desc.p / 16 = 0) : (launched 0x600E (withOp 16 n l)).p = n :=
    p_withOp_sixteen 0x600E hn hrest
  refine ⟨fun htakes hready hunlocked hwaiting hmaker hsource hrest hinput hfull => ?integrator,
    fun n i hrow htakes hlayout hready hunlocked hwaiting hfrom howned hmine hsigned hrest => ?owner,
    fun htakes hfull => ?scrap, fun target ds t hcopies => endTransition_of_copies hcopies,
    fun w hwaiting hshort hdue => next_pump (energyWait_of_expired hwaiting hshort hdue),
    fun hvin => ⟨execCapFullReached_of_idle hvin, fun w => execCapFullReached_of_waiting hvin⟩⟩
  case integrator =>
    exact next_of_mailbox_leaves htakes (by decide) ((mgtRun_600E (withOp 16 2 l) inp u).trans
      ((lifecycleRun_of_integrator hready hunlocked hwaiting (hp (by decide) hrest) hinput hmaker hsource).trans
        (startTransition_of_full hfull)))
  case owner =>
    have hrow : 2 < n ∧ n < 16 ∧ exec i s = .next (pump (hostLaunch 0x600E (withOp 16 n l) s)) := by
      rcases hrow with ⟨rfl, rfl⟩ | ⟨rfl, rfl⟩ <;> exact ⟨by decide, by decide, rfl⟩
    obtain ⟨hlater, hn, hexec⟩ := hrow
    have hrun := (mgtRun_600E (withOp 16 n l) inp u).trans (lifecycleRun_of_signed hready hunlocked hwaiting (hp hn hrest)
      hlater.ne' hlayout hfrom howned hmine hsigned)
    rw [hexec]
    exact ⟨fun hfull => next_of_mailbox_leaves htakes (by decide) (hrun.trans (startTransition_of_full hfull)),
      fun hshort => next_of_mailbox_waits htakes (by decide) (hrun.trans (startTransition_of_short hshort))⟩
  case scrap =>
    exact next_of_mailbox_leaves htakes (by decide) ((mgtRun_600F l inp u).trans (startTransition_of_full hfull))

end Sys2Proof.Machine

/-! Owner, identity and vault seed (R365, R369, R371-R374): the runs of the commands where nothing refuses them, and a range of a
re-key. -/

namespace Sys2Proof.Machine

section Owner
variable {d : Desc} {env : LaunchEnv} {inp : Bytes} {u : State}

/-- In INTEGRATOR the first owner enrols with its own signature (R365). -/
theorem ownerEnrolRun_of_first (hop : d.p % 16 = 1) (hintegrator : u.lcs.state = .integrator) (hnone : u.kvt.ownerFpr = none)
    (hsigned : signed env.sig = true) :
    ownerEnrolRun d env inp u = okCmd { u with kvt := { u.kvt with ownerFpr := some (sha256 (inp.take 2689)) } } := by
  simp [ownerEnrolRun, hop, enrolRun, hintegrator, hnone, hsigned]

/-- The owner's roster for this module, of a higher serial (R365, R366). -/
theorem ownerEnrolRun_of_roster (hop : d.p % 16 = 2) (howned : u.kvt.ownerFpr.isSome = true)
    (hstate : u.lcs.state = .integrator ∨ u.lcs.state = .fielded) (hsigned : signed env.sig = true)
    (hbound : boundHere u (bytesAt inp 16 32) = true) (hnewer : u.kvt.rosterSerial < fld inp 8 8) :
    ownerEnrolRun d env inp u = okCmd (dropApprovals { u with kvt := { u.kvt with
      roster := (List.range (rosterCount inp)).map fun i => custodianOf (bytesAt inp (48 + 72 * i) 72)
      rosterSerial := fld inp 8 8 } }) := by
  have hin : (u.lcs.state == .integrator || u.lcs.state == .fielded) = true := by simpa using hstate
  simp [ownerEnrolRun, hop, rosterRun, Option.isNone_eq_false_iff.mpr howned, hin, hsigned, hbound, Nat.not_le.mpr hnewer]

theorem identityAttestRun_of_identity {t : State} (hidentity : u.kvt.identity = true) (hsigns : u.kvt.signsNothing = false)
    (hcall : wardenCalls 1 u = some t) :
    identityAttestRun inp u =
      let v : State := { t with freeCtr := t.freeCtr + 1 }
      outCmd (identityStatement v inp ++ identitySign v "MORILATIK-IDST-1" (identityStatement v inp) t.freeCtr) v := by
  simp [identityAttestRun, hidentity, hsigns, hcall, draw]

end Owner

section Reseal
variable {d : Desc} {env : LaunchEnv} {inp : Bytes} {u : State}

theorem vaultResealRun_of_stage (hop : d.p % 16 = 1) : vaultResealRun d env inp u = resealStage inp u := by
  simp only [vaultResealRun, hop]

theorem vaultResealRun_of_commit (hop : d.p % 16 = 2) : vaultResealRun d env inp u = resealCommit env inp u := by
  simp only [vaultResealRun, hop]

theorem vaultResealRun_of_abandon (hop : d.p % 16 = 3) : vaultResealRun d env inp u = resealAbandon env inp u := by
  simp only [vaultResealRun, hop]

section Authorised
variable (hsigned : signed env.sig = true) (hbound : boundHere u (bytesAt inp 8 32) = true)
include hsigned hbound

/-- The staged bundle that the authorisation names, of no lower version (R371, R372). -/
theorem resealCommit_of_bundle {ver : Nat} {mW mU : Bytes} {v : Nat} (hbundle : Config.bundleOf u.kvt.fwBytes = (ver, mW, mU))
    (hstaged : u.kvt.fwBytes ≠ []) (hbundleSigned : signed env.bundle = true) (hwarden : bytesAt inp 40 48 = fit 48 mW)
    (hunit : bytesAt inp 88 48 = fit 48 mU) (hversion : u.kvt.fw.version ≤ ver) (hseed : u.kvt.vs = some v) :
    resealCommit env inp u = okCmd { u with kvt := { u.kvt with
      fwNext := some { version := ver, mW := fit 48 mW, mU := fit 48 mU }
      reseal := some (measureOf (fit 48 mW) (fit 48 mU) (imageMeasure u), v) } } := by
  simp [resealCommit, hbundle, hstaged, hbundleSigned, hsigned, hbound, hwarden, hunit, Nat.not_lt.mpr hversion, hseed]

/-- An authorisation that names the running firmware (R371). -/
theorem resealAbandon_of_running {t : State} (hwarden : bytesAt inp 40 48 = fit 48 u.kvt.fw.mW)
    (hunit : bytesAt inp 88 48 = fit 48 u.kvt.fw.mU) (hcall : wardenCalls 1 u = some t) :
    resealAbandon env inp u =
      okCmd (refreshHold (newSeed t.freeCtr (endRekey stAborted { t with freeCtr := t.freeCtr + 1 }))) := by
  simp [resealAbandon, hsigned, hbound, hwarden, hunit, hcall, draw]

end Authorised

end Reseal

section Rekey
variable {u : State}

/-- A seed to replace, and no re-key that runs (R373). -/
theorem vaultRekeyRun_of_seed {path : MPath} {t : State} (hseed : u.kvt.vs.isSome = true) (hidle : u.kvt.rekey = none)
    (hcall : wardenCalls 1 u = some t) :
    vaultRekeyRun path u =
      let v : State := { t with freeCtr := t.freeCtr + 1 }
      (none, checkpoint { v with kvt := { v.kvt with
        rekey := some { seed := t.freeCtr, sealedFor := measureNow v, line := 0, path := some path }, rekeyLine := 0 } }) := by
  simp [vaultRekeyRun, Option.isNone_eq_false_iff.mpr hseed, hidle, hcall, draw]

section Range
variable {r : Rekey} (hrekey : u.kvt.rekey = some r) (hunlocked : u.tmp.locked = false)
variable (hserves : u.pwr.state = .ready ∨ u.pwr.state = .run)
include hrekey hunlocked hserves

theorem rekeyRangeDone_of_serving :
    rekeyRangeDone u =
      let line := (r.line / 262144 + 1) * 262144
      if line < 2 ^ 29 then { u with kvt := { u.kvt with rekey := some { r with line := line }, rekeyLine := line } }
      else rekeyDone r stOk (finishRekey r.seed u) := by
  have hup : (u.pwr.state == .ready || u.pwr.state == .run) = true := by simpa using hserves
  simp only [rekeyRangeDone, hrekey, hunlocked, hup, Bool.not_true, Bool.or_false, Bool.false_eq_true, if_false]

/-- A range before the last one (R373). -/
theorem rekeyRangeDone_of_more (hmore : (r.line / 262144 + 1) * 262144 < 2 ^ 29) :
    rekeyRangeDone u =
      let line := (r.line / 262144 + 1) * 262144
      { u with kvt := { u.kvt with rekey := some { r with line := line }, rekeyLine := line } } :=
  (rekeyRangeDone_of_serving hrekey hunlocked hserves).trans (if_pos hmore)

/-- The last range: the new seed governs (R373, R374). -/
theorem rekeyRangeDone_of_last (hlast : 2 ^ 29 ≤ (r.line / 262144 + 1) * 262144) :
    rekeyRangeDone u = rekeyDone r stOk (finishRekey r.seed u) :=
  (rekeyRangeDone_of_serving hrekey hunlocked hserves).trans (if_neg (Nat.not_lt.mpr hlast))

end Range

end Rekey

/-- Settles O24: the mailbox takes each command, which completes with what its run answers; a re-key leaves it free and goes on
by its ranges. -/
theorem ownerAndVaultCommandsComplete : Obligations.OwnerAndVaultCommandsComplete := by
  intro s u l inp
  have henrol {n : Nat} (hn : n < 16) : (launched 0x6010 (withOp 16 n l)).p % 16 = n := p_mod_withOp_sixteen 0x6010 hn l
  have hreseal {n : Nat} (hn : n < 16) : (launched 0x6012 (withOp 16 n l)).p % 16 = n := p_mod_withOp_sixteen 0x6012 hn l
  refine ⟨fun htakes hintegrator hnone hsigned => ?enrol,
    fun htakes howned hstate hsigned hbound hnewer => ?roster,
    fun t htakes hidentity hsigns hcall => ?attest, fun htakes => ?stage,
    fun ver mW mU v htakes hbundle hstaged hbundleSigned hsigned hbound hwarden hunit hversion hseed => ?commit,
    fun t htakes hsigned hbound hwarden hunit hcall => ?abandon, fun t htakes hseed hidle hcall => ?rekey,
    fun r hrekey hunlocked hserves => ⟨fun hmore => ?more, fun hlast => ?last⟩⟩
  case enrol =>
    exact next_of_mailbox_ends htakes (by decide) ((mgtRun_6010 (withOp 16 1 l) inp u).trans
      (ownerEnrolRun_of_first (henrol (by decide)) hintegrator hnone hsigned))
  case roster =>
    exact next_of_mailbox_ends htakes (by decide) ((mgtRun_6010 (withOp 16 2 l) inp u).trans
      (ownerEnrolRun_of_roster (henrol (by decide)) howned hstate hsigned hbound hnewer))
  case attest =>
    exact next_of_mailbox_ends htakes (by decide) ((mgtRun_6011 l inp u).trans
      (identityAttestRun_of_identity hidentity hsigns hcall))
  case stage =>
    exact next_of_mailbox_ends htakes (by decide) ((mgtRun_6012 (withOp 16 1 l) inp u).trans
      (vaultResealRun_of_stage (hreseal (by decide))))
  case commit =>
    exact next_of_mailbox_ends htakes (by decide) ((mgtRun_6012 (withOp 16 2 l) inp u).trans
      ((vaultResealRun_of_commit (hreseal (by decide))).trans
        (resealCommit_of_bundle hsigned hbound hbundle hstaged hbundleSigned hwarden hunit hversion hseed)))
  case abandon =>
    exact next_of_mailbox_ends htakes (by decide) ((mgtRun_6012 (withOp 16 3 l) inp u).trans
      ((vaultResealRun_of_abandon (hreseal (by decide))).trans
        (resealAbandon_of_running hsigned hbound hwarden hunit hcall)))
  case rekey =>
    exact next_of_mailbox_leaves htakes (by decide) ((mgtRun_6013 l inp u).trans (vaultRekeyRun_of_seed hseed hidle hcall))
  case more =>
    exact next_pump (rekeyRangeDone_of_more hrekey hunlocked hserves hmore)
  case last =>
    exact next_pump (rekeyRangeDone_of_last hrekey hunlocked hserves hlast)

end Sys2Proof.Machine

/-! POWER_STATE (R435-R437, R442): the run of the command from each state in force, and the end of its drain. -/

namespace Sys2Proof.Machine

section PowerRun
variable {path : MPath} {d : Desc} {env : LaunchEnv} {u : State}

/-- The state in force already (R435). -/
theorem powerRun_of_inForce (hop : d.p % 16 = u.pwr.state.code) : powerRun path d env u = okCmd u := if_pos hop

/-- RUN from READY where no bit of RUN_HOLD stands (R435, R442). -/
theorem powerRun_of_unheld (hop : d.p % 16 = 4) (hready : u.pwr.state = .ready) (hunheld : (refreshHold u).pwr.runHold = 0) :
    powerRun path d env u = okCmd (enterRun (refreshHold u)) := by
  simp [powerRun, hop, hready, PState.code, hunheld]

/-- READY from RUN waits for the drain (R436). -/
theorem powerRun_of_drain (hop : d.p % 16 = 3) (hrun : u.pwr.state = .run) : powerRun path d env u = (none, beginDrain path u) := by
  simp [powerRun, hop, hrun, PState.code]

/-- READY from SLEEP, through the path that SLEEP leaves open (R437). -/
theorem powerRun_of_wake (hop : d.p % 16 = 3) (hsleep : u.pwr.state = .sleep) (hsmbus : path = .smbus) :
    powerRun path d env u = okCmd (leaveSleep env u) := by
  simp [powerRun, hop, hsleep, PState.code, hsmbus]

/-- SLEEP from READY where the management path may wake the module (R437). -/
theorem powerRun_of_sleep (hop : d.p % 16 = 2) (hready : u.pwr.state = .ready) (hport : (mgtFlags u).getLsbD 0 = true)
    (hwakes : (mgtFlags u).getLsbD 2 = true) : powerRun path d env u = okCmd (enterSleep u) := by
  simp [powerRun, hop, hready, PState.code, hport, hwakes]

end PowerRun

/-- The drain ends once no request executes (R436). -/
theorem readyDrainDone_of_executed {s : State} (hdrain : s.rqs.readyDrain.isSome = true)
    (hexecuted : s.rqs.live.all executed = true) :
    readyDrainDone s = completes drains
      (moveTo .ready (stopClocks (setSelfRefresh true { s with rqs := { s.rqs with readyDrain := none } }))) := by
  have hidle : s.rqs.live.any (fun r => !executed r) = false := by simpa using hexecuted
  simp only [readyDrainDone, Option.isNone_eq_false_iff.mpr hdrain, hidle, Bool.or_self, Bool.false_eq_true, if_false]

/-- Settles O18: the mailbox takes each POWER_STATE, which completes or waits with what its run answers. -/
theorem powerStateCommandsComplete : Obligations.PowerStateCommandsComplete := by
  intro s u l inp
  have hop {n : Nat} (hn : n < 16) : (launched 0x6001 (withOp 16 n l)).p % 16 = n := p_mod_withOp_sixteen 0x6001 hn l
  have hran {n : Nat} {x : Ran} (hrun : powerRun l.path (launched 0x6001 (withOp 16 n l)) l.env u = x) :
      mgtRun (withOp 16 n l).path (launched 0x6001 (withOp 16 n l)) (withOp 16 n l).env inp u = x :=
    (mgtRun_6001 (withOp 16 n l) inp u).trans hrun
  refine ⟨fun htakes hready hunheld => ?enters, fun htakes hrun => ?stays, fun htakes hrun => ?drains,
    fun htakes hsleep hsmbus => ?wakes, fun htakes hready hport hwakes => ?sleeps,
    fun hdrain hexecuted => next_pump (readyDrainDone_of_executed hdrain hexecuted)⟩
  case enters =>
    exact next_of_mailbox_ends htakes (by decide) (hran (powerRun_of_unheld (hop (by decide)) hready hunheld))
  case stays =>
    exact next_of_mailbox_ends htakes (by decide) (hran (powerRun_of_inForce ((hop (by decide)).trans (by rw [hrun]; rfl))))
  case drains =>
    exact next_of_mailbox_leaves htakes (by decide) (hran (powerRun_of_drain (hop (by decide)) hrun))
  case wakes =>
    exact next_of_mailbox_ends htakes (by decide) (hran (powerRun_of_wake (hop (by decide)) hsleep hsmbus))
  case sleeps =>
    exact next_of_mailbox_ends htakes (by decide) (hran (powerRun_of_sleep (hop (by decide)) hready hport hwakes))

end Sys2Proof.Machine

/-! A management command that is turned away (R51, R381, R421, R466-R468): a launch of any row, one too many, and the checks in
their order. -/

namespace Sys2Proof.Machine

/-- Every management row launches its code with its descriptor; no code is 0 (R89, R466). -/
theorem exec_of_managed {i : Instr} {code : Nat} {l : Launch} (h : managed i = some (code, l)) (s : State) :
    exec i s = .next (pump (hostLaunch code l s)) ∧ BitVec.ofNat 16 code ≠ 0 := by
  unfold managed at h
  split at h <;> cases h <;> exact ⟨rfl, by decide⟩

theorem hostLaunch_of_reached (code : Nat) {l : Launch} {s : State} (hpath : mailboxReached l s = true) :
    hostLaunch code l s = writeCmd (BitVec.ofNat 16 code) l { s with mgt := { s.mgt with desc := l.desc } } := by
  unfold mailboxReached at hpath
  unfold hostLaunch
  split at hpath
  case h_1 hbar =>
    have hnotSmbus : (MPath.bar0 == .smbus) = false := rfl
    simp [hbar, hpath, hnotSmbus]
  case h_2 hsmbus =>
    obtain ⟨hup, hmailbox⟩ := Bool.and_eq_true_iff.mp hpath
    simp [hsmbus, hup, hmailbox]

theorem writeCmd_of_single {code : BitVec 16} {l : Launch} {s : State} (hcode : code ≠ 0) (hsingle : l.env.dual = none) :
    writeCmd code l s = launch code l { s with mgt := { s.mgt with cmd := code } } := by
  simp only [writeCmd, hsingle]
  exact if_neg hcode

/-- Three waiting commands and a running one fill the mailbox: the launch is ignored, and OVERRUN tells it (R468). -/
theorem launch_of_full {code : BitVec 16} {l : Launch} {s : State} (hheld : 3 ≤ s.mgt.held.length)
    (hrunning : s.mgt.running.isSome = true) :
    launch code l s = mgtInvalid 8 4 true { s with mgt := { s.mgt with overrun := true } } := by
  have hfull : 4 ≤ heldCount s := by
    rw [heldCount, hrunning]
    exact Nat.succ_le_succ hheld
  exact if_pos hfull

section Checks
variable {code : Nat} {l : Launch} {u : State}

theorem desc_launched : ({ l.desc with command := BitVec.ofNat 16 code } : Desc) = launched code l := rfl

/-- A command that its checks turn away leaves the state as it stands. -/
theorem runHeld_of_badDescriptor {st d : Nat} (hbad : mgtCheck l.path (launched code l) u = some (st, d)) :
    runHeld { code := BitVec.ofNat 16 code, launch := l } u =
      mgtEnd (launched code l) l.path { st := st, detail := d } u := by
  simp only [runHeld, desc_launched, hbad]

section Described
variable (hdesc : mgtCheck l.path (launched code l) u = none)
include hdesc

theorem runHeld_of_badField {st d : Nat} (hbad : mgtFieldBad (launched code l) u = some (st, d)) :
    runHeld { code := BitVec.ofNat 16 code, launch := l } u =
      mgtEnd (launched code l) l.path { st := st, detail := d } u := by
  simp only [runHeld, desc_launched, hdesc, hbad]

section Fields
variable (hfields : mgtFieldBad (launched code l) u = none)
include hfields

/-- An input that DMA cannot read (R467). -/
theorem runHeld_of_unread (hunread : mgtInput (launched code l) l.env u = none) :
    runHeld { code := BitVec.ofNat 16 code, launch := l } u =
      mgtEnd (launched code l) l.path { st := stMalformed, detail := malDetail 0x18 0x0B } u := by
  simp only [runHeld, desc_launched, hdesc, hfields, hunread]

section Input
variable {inp : Bytes} (hread : mgtInput (launched code l) l.env u = some inp)
include hread

theorem runHeld_of_badInput {st d : Nat} (hbad : mgtInputBad (launched code l) inp u = some (st, d)) :
    runHeld { code := BitVec.ofNat 16 code, launch := l } u =
      mgtEnd (launched code l) l.path { st := st, detail := d } u := by
  simp only [runHeld, desc_launched, hdesc, hfields, hread, hbad]

/-- Power state or life-cycle state do not accept the command (R51, R381, R421). -/
theorem runHeld_of_refused (hlayout : mgtInputBad (launched code l) inp u = none)
    (hrefused : mgtTurnedAway (launched code l) u = true) :
    runHeld { code := BitVec.ofNat 16 code, launch := l } u =
      mgtEnd (launched code l) l.path (refusedState (mgtRefuse (launched code l) u).2) (mgtRefuse (launched code l) u).2 := by
  simp only [runHeld, desc_launched, hdesc, hfields, hread, hlayout, hrefused, if_true]
  rfl

end Input

end Fields

end Described

end Checks

/-- Settles O17: a row is its launch, and at an idle mailbox the launch comes to the first check that fails. -/
theorem managementCommandsAreCheckedInOrder : Obligations.ManagementCommandsAreCheckedInOrder := by
  intro s u i code l hrow
  obtain ⟨hexec, hcode⟩ := exec_of_managed hrow s
  refine ⟨hexec, fun hpath hsingle _ hheld hrunning => ?overrun, fun hfree => ?checked⟩
  case overrun =>
    have hignored := (hostLaunch_of_reached code hpath).trans
      ((writeCmd_of_single hcode hsingle).trans (launch_of_full hheld hrunning))
    exact hexec.trans (next_pump hignored)
  case checked =>
    have ends {y : Done} {v : State} (hrun : runHeld { code := BitVec.ofNat 16 code, launch := l } u =
        mgtEnd (launched code l) l.path y v) : exec i s = .next (mailboxEnds code l y v) := by
      rw [hexec, pump_hostLaunch hfree hcode, hrun]
      rfl
    exact ⟨fun st d hbad => ends (runHeld_of_badDescriptor hbad), fun hdesc =>
      ⟨fun st d hbad => ends (runHeld_of_badField hdesc hbad), fun hfields =>
        ⟨fun hunread => ends (runHeld_of_unread hdesc hfields hunread), fun inp hread =>
          ⟨fun st d hbad => ends (runHeld_of_badInput hdesc hfields hread hbad), fun hlayout hrefused =>
            ⟨_, rfl, ends (runHeld_of_refused hdesc hfields hread hlayout hrefused)⟩⟩⟩⟩⟩

end Sys2Proof.Machine

/-! The debug instructions (R331, R339, R389-R391): challenge, authorisation, status, and the debug master's window. -/

namespace Sys2Proof.Machine

section Instructions
variable {s : State} (hup : tapUp s = true)
include hup

section Private
variable (hdebug : debugIr s = true)
include hdebug

/-- In RETURNED the challenge draws a nonce (R391). -/
theorem execDbgChallenge_of_returned {t : State} (hreturned : s.lcs.state = .returned)
    (hcall : wardenCalls 1 { s with ir := 0x21 } = some t) :
    execDbgChallenge s = .next (emit (.jtag 512 (leNat (fit 32 s.kvt.idFpr ++ freeBytes t.freeCtr 32)))
      { t with freeCtr := t.freeCtr + 1, lcs := { t.lcs with dbgNonce := some t.freeCtr } }) := by
  simp [execDbgChallenge, loadIr, draw, hup, hdebug, hreturned, hcall]

theorem execDbgChallenge_of_elsewhere (helsewhere : s.lcs.state ≠ .returned) :
    execDbgChallenge s = .next (emit (.jtag 512 0) { s with ir := 0x21 }) := by
  simp [execDbgChallenge, loadIr, hup, hdebug, helsewhere]

theorem execDbgAuth_of_authorised {auth : Bytes} {sig : Verdict} (hok : authOk auth sig s = true) :
    let t := openScope (BitVec.ofNat 2 (fld auth 6 1)) { s with ir := 0x22 }
    execDbgAuth auth sig s = .next { t with lcs := { t.lcs with dbgNonce := none } } := by
  simp [execDbgAuth, loadIr, hup, hdebug, hok]

theorem execDbgAuth_of_refused {auth : Bytes} {sig : Verdict} (hbad : authOk auth sig s = false) :
    let t := refuseAuth { s with ir := 0x22 }
    execDbgAuth auth sig s = .next { t with lcs := { t.lcs with dbgNonce := none } } := by
  simp [execDbgAuth, loadIr, hup, hdebug, hbad]

theorem execDbgStatus_of_debug :
    execDbgStatus s = .next (emit (.jtag 8 (wordOf [(4, s.lcs.dbgStatus), (0, s.lcs.scope.toNat)])) { s with ir := 0x23 }) := by
  simp [execDbgStatus, loadIr, hup, hdebug]

end Private

section Master
variable (hmaster : debugMaster s = true) {addr len : Nat}
include hmaster

theorem execDbgMem_of_read (hinside : debugFails addr len = none) (hgood : badWordIn addr len { s with ir := 0x30 } = none) :
    execDbgMem addr len none s =
      .next (emit (.jtag (8 * len) (leNat (cellsRead s.mem.cells addr len))) { s with ir := 0x30 }) := by
  simp [execDbgMem, loadIr, hup, hmaster, hinside, hgood]

theorem execDbgMem_of_write (b : Bytes) (hinside : debugFails addr len = none) :
    execDbgMem addr len (some b) s = .next { s with
      ir := 0x30
      mem := { s.mem with
        cells := cellsWrite s.mem.cells addr (fit len b), badWords := mendWords addr len s.mem.badWords } } := by
  simp [execDbgMem, loadIr, hup, hmaster, hinside]

theorem execDbgMem_of_deniedRead {a : Nat} (houtside : debugFails addr len = some a) :
    execDbgMem addr len none s = .next (emit (.jtag (8 * len) 0) (debugDenied a { s with ir := 0x30 })) := by
  simp [execDbgMem, loadIr, hup, hmaster, houtside]

theorem execDbgMem_of_deniedWrite {a : Nat} (b : Bytes) (houtside : debugFails addr len = some a) :
    execDbgMem addr len (some b) s = .next (debugDenied a { s with ir := 0x30 }) := by
  simp [execDbgMem, loadIr, hup, hmaster, houtside]

end Master

end Instructions

theorem length_fit (n : Nat) (b : Bytes) : (fit n b).length = n := by simp [fit]

/-- What has been written into a memory in canonical form is read back, whatever its length was cut or padded to. -/
theorem cellsRead_cellsWrite_fit {cells : List Host.Cell} (hwf : cellsWf cells = true) (addr len : Nat) (b : Bytes) :
    cellsRead (cellsWrite cells addr (fit len b)) addr len = fit len b := by
  have hback := cellsRead_cellsWrite (fit len b) cells addr hwf
  rwa [length_fit] at hback

/-- Settles O33: each instruction follows its own equation, and a write of the debug master changes the bytes of its window
alone. -/
theorem debugCommandsComplete : Obligations.DebugCommandsComplete := by
  intro s hup
  refine ⟨fun hdebug => ⟨fun t => execDbgChallenge_of_returned hup hdebug, execDbgChallenge_of_elsewhere hup hdebug,
      fun auth sig => execDbgAuth_of_authorised hup hdebug, fun auth sig => execDbgAuth_of_refused hup hdebug,
      execDbgStatus_of_debug hup hdebug⟩,
    fun hmaster addr len hinside => ⟨execDbgMem_of_read hup hmaster hinside, fun hwf b => ?write⟩,
    fun hmaster addr len a houtside =>
      ⟨execDbgMem_of_deniedRead hup hmaster houtside, fun b => execDbgMem_of_deniedWrite hup hmaster b houtside⟩⟩
  case write =>
    refine ⟨_, execDbgMem_of_write hup hmaster b hinside, cellsRead_cellsWrite_fit hwf addr len b, fun a houtside => ?outside,
      rfl, rfl, rfl, rfl, rfl⟩
    case outside => exact cellGet_cellsWrite_outside (fit len b) _ addr a hwf (by rwa [length_fit])

end Sys2Proof.Machine

/-! Supply, start and reserve (R407, R433, R440-R446, R362): what each event does where its premise holds. -/

namespace Sys2Proof.Machine

section Supply
variable {s : State}

section VinValid
variable (env : StartEnv) (hlockout : s.pwr.lockout = false)
include hlockout

theorem execVinValid_of_off (hoff : s.pwr.state = .off) : execVinValid env s = .next (start 1 0 env s) := by
  simp [execVinValid, hlockout, hoff]

theorem execVinValid_of_reserve (hreserve : s.pwr.state = .reserve) : execVinValid env s = .next (start 2 1 env s) := by
  simp [execVinValid, hlockout, hreserve]

/-- A start from OFF that lacked its charge begins again (R440). -/
theorem execVinValid_of_shortStart (hstarting : s.pwr.state = .starting) (hshort : s.pwr.startRun = false)
    (hcause : s.pwr.cause = 1) : execVinValid env s = .next (start 1 0 env s) := by
  simp [execVinValid, hlockout, hstarting, hshort, hcause]

end VinValid

section Reload
variable {d : Nat} (hstored : s.fab.reserveLocal.contains d = true) (hwarden : wardenUp s = true)
variable (hseed : s.kvt.vs.isSome = true)
include hstored hwarden hseed

theorem execDomainReloadLocal_of_stored :
    execDomainReloadLocal d s =
      let t := reloadDomain d s
      .next (if waitsToEnd t && t.fab.reserveLocal.isEmpty then endStart t else t) := by
  simp only [execDomainReloadLocal, hstored, hwarden, Option.isNone_eq_false_iff.mpr hseed, Bool.not_true, Bool.or_self,
    Bool.false_eq_true, if_false]

/-- While other domains are to come, or no start waits for them, the domain only becomes LOCAL (R362). -/
theorem execDomainReloadLocal_of_more
    (hmore : waitsToEnd (reloadDomain d s) = false ∨ (reloadDomain d s).fab.reserveLocal ≠ []) :
    execDomainReloadLocal d s = .next (reloadDomain d s) := by
  have hnotYet : ¬ (waitsToEnd (reloadDomain d s) && (reloadDomain d s).fab.reserveLocal.isEmpty) = true := by
    rcases hmore with hended | hlist
    · simp [hended]
    · simp [hlist]
  exact (execDomainReloadLocal_of_stored hstored hwarden hseed).trans (congrArg _ (if_neg hnotYet))

/-- The last stored domain ends the start that waits (R441). -/
theorem execDomainReloadLocal_of_last (hwaits : waitsToEnd (reloadDomain d s) = true)
    (hlast : (reloadDomain d s).fab.reserveLocal = []) :
    execDomainReloadLocal d s = .next (endStart (reloadDomain d s)) := by
  have hnow : (waitsToEnd (reloadDomain d s) && (reloadDomain d s).fab.reserveLocal.isEmpty) = true := by simp [hwaits, hlast]
  exact (execDomainReloadLocal_of_stored hstored hwarden hseed).trans (congrArg _ (if_pos hnow))

end Reload

section Lockout
variable {mv cellMv : Nat} {temp : Int} (hcell : cellMv ≤ 4500) (htemp : temp ≤ 125)
include hcell htemp

/-- Within the supply range nothing is lost (R433). -/
theorem execVinLockout_of_inRange (hlow : 8500 ≤ mv) (hhigh : mv ≤ 62000) : execVinLockout mv cellMv temp s = .next s := by
  rw [execVinLockout_of_within (hhigh.trans (by decide)) hcell htemp]
  exact congrArg _ (if_pos ⟨hlow, hhigh⟩)

/-- Outside it, and within the ratings, a module that runs on VIN loses it (R433, R445). -/
theorem execVinLockout_of_outOfRange (hout : mv < 8500 ∨ 62000 < mv) (hmax : mv ≤ 65000) (hoff : s.pwr.state ≠ .off)
    (hreserve : s.pwr.state ≠ .reserve) (hlockout : s.pwr.lockout = false) :
    execVinLockout mv cellMv temp s =
      .next (loseVin (decide (62000 < mv)) { s with pwr := { s.pwr with vinMv := mv, cellMv := cellMv } }) := by
  have hrange : ¬ (8500 ≤ mv ∧ mv ≤ 62000) := by omega
  have hvin : ¬ (s.pwr.state = .off ∨ s.pwr.state = .reserve ∨ s.pwr.lockout = true) := by simp [hoff, hreserve, hlockout]
  rw [execVinLockout_of_within hmax hcell htemp]
  exact congrArg _ ((if_neg hrange).trans (if_neg hvin))

end Lockout

/-- The end of the sequence of a lockout (R445 step 4). -/
theorem execReserveEntry_of_lockout (hlockout : s.pwr.lockout = true) :
    let t := finishBurn s
    let u := logReserve 0xE01 [BitVec.ofNat 8 t.pwr.state.code, 1] t
    execReserveEntry s = .next { u with frac := 0, pwr := { u.pwr with
      state := .reserve, lockout := false, startRun := false } } := by
  simp [execReserveEntry, hlockout]

/-- A reserve below its cut-off (R407, R454). -/
theorem execReserveExhaustion_of_cutoff {mv : Nat} (hreserve : s.pwr.state = .reserve) (hlow : mv < cutoffMv s) :
    let t := killSeeds (exhaustReserve mv s)
    execReserveExhaustion mv s = .next { t with
      tmp := { t.tmp with killRunning := false, seedKilled := true }
      log := { t.log with rsv := [], rsvUsed := 0, rsvFull := false, rsvNext := 0, rsvDropped := 0 }
      wdn := { t.wdn with ckptValid := false }
      pwr := { t.pwr with state := .off, cellMv := mv, cap := 0, qest := if 1500 ≤ mv then t.pwr.sinceDone else t.pwr.qest } } := by
  have hexhausted : ¬ (s.pwr.state ≠ .reserve ∨ cutoffMv s ≤ mv) := by simp [hreserve, hlow]
  simp only [execReserveExhaustion, if_neg hexhausted]

theorem execCapFloorReached_of_vin (hvin : s.pwr.vinValid = true) :
    execCapFloorReached s = .next { s with pwr := { s.pwr with cap := max s.pwr.cap 1600 } } :=
  congrArg _ (if_pos hvin)

end Supply

/-- Settles O34: each event follows its own equation where its premise holds. -/
theorem supplyEventsComplete : Obligations.SupplyEventsComplete := by
  intro s
  exact ⟨fun env => execVinValid_of_off env, fun env => execVinValid_of_reserve env, fun env => execVinValid_of_shortStart env,
    fun d hstored hwarden hseed => ⟨execDomainReloadLocal_of_more hstored hwarden hseed,
      execDomainReloadLocal_of_last hstored hwarden hseed⟩,
    execStartEndTimeout_of_waits,
    fun mv cellMv temp hout hmax hcell htemp => execVinLockout_of_outOfRange hcell htemp hout hmax,
    fun mv cellMv temp hlow hhigh hcell htemp => execVinLockout_of_inRange hcell htemp hlow hhigh,
    execReserveEntry_of_lockout, fun mv => execReserveExhaustion_of_cutoff, execCapFloorReached_of_vin⟩

end Sys2Proof.Machine

/-! The SMBus and MOD_RST_N (R472-R475, R490, R498): what each command does with the port answering. -/

namespace Sys2Proof.Machine

section Smbus
variable {s : State} (hup : smbusUp s = true)
include hup

theorem execSmbusTelemetry_of_up (pec : Bool) : execSmbusTelemetry pec s = .next (emit (.smbus (telemetry s)) s) :=
  congrArg _ (if_pos hup)

theorem execSmbusPower_of_allowed (target : BitVec 8) (hallowed : (mgtFlags s).getLsbD 2 = true) :
    execSmbusPower target true s =
      .next (pump (launch 0x6001 { path := .smbus, desc := { command := 0x6001, p0 := target.setWidth 16 } } s)) := by
  simp [execSmbusPower, hup, hallowed]

theorem execSmbusPower_of_nack (target : BitVec 8) {pec : Bool} (hnack : pec = false ∨ (mgtFlags s).getLsbD 2 = false) :
    execSmbusPower target pec s = .next (emit .nack s) := by
  have hno : (!pec || !(mgtFlags s).getLsbD 2) = true := by
    rcases hnack with hpec | hforbidden
    · rw [hpec, Bool.not_false, Bool.true_or]
    · rw [hforbidden, Bool.not_false, Bool.or_true]
  simp only [execSmbusPower, hup, hno, Bool.not_true, Bool.false_eq_true, if_false, if_true]

theorem execSmbusSetAddr_of_pec (a : Word) :
    execSmbusSetAddr a true s = .next { s with mgt := { s.mgt with smbAddr := a.toNat } } := by
  simp [execSmbusSetAddr, hup]

theorem execSmbusSetAddr_of_badPec (a : Word) : execSmbusSetAddr a false s = .next (emit .nack s) := by
  simp [execSmbusSetAddr, hup]

theorem execSmbusRead_of_up :
    execSmbusRead s = .next (smbusAdvance 4
      (emit (.smbus (leBytes 4 (smbusWord s.mgt.smbAddr s).1.toNat)) (smbusWord s.mgt.smbAddr s).2)) := by
  simp [execSmbusRead, hup]

theorem execSmbusWrite_of_pec (v : Word) (env : LaunchEnv) :
    execSmbusWrite v true env s = .next (smbusAdvance 4 (writeReg .smbus s.mgt.smbAddr v env s)) := by
  simp [execSmbusWrite, hup]

theorem execSmbusWrite_of_badPec (v : Word) (env : LaunchEnv) : execSmbusWrite v false env s = .next (emit .nack s) := by
  simp [execSmbusWrite, hup]

theorem execSmbusReadBurst_of_up :
    execSmbusReadBurst s = .next (smbusAdvance 32
      (emit (.smbus (smbusWords 8 s.mgt.smbAddr s).1) (smbusWords 8 s.mgt.smbAddr s).2)) := by
  simp [execSmbusReadBurst, hup]

theorem execSmbusUnknownCommand_of_up (b : BitVec 8) : execSmbusUnknownCommand b s = .next (emit .nack s) :=
  congrArg _ (if_pos hup)

section Burst
variable {l : List Word} (env : LaunchEnv) (hlength : l.length = 8)
include hlength

/-- Eight words at registers that the mailbox may write (R473). -/
theorem execSmbusWriteBurst_of_writable (haligned : s.mgt.smbAddr % 4 = 0) (hmailbox : (mgtFlags s).getLsbD 1 = true)
    (hwritable : ∀ k, k < 8 → smbusWritable (s.mgt.smbAddr + 4 * k) = true) :
    execSmbusWriteBurst l true env s = .next (smbusAdvance 32 (pump (smbusPut env l s.mgt.smbAddr s))) := by
  have hall : ((List.range 8).all fun k => smbusWritable (s.mgt.smbAddr + 4 * k)) = true :=
    List.all_eq_true.mpr fun k hk => hwritable k (List.mem_range.mp hk)
  simp [execSmbusWriteBurst, hup, hlength, haligned, hmailbox, hall]

/-- One word elsewhere, and the whole burst is ignored (R473). -/
theorem execSmbusWriteBurst_of_forbidden {k : Nat} (hk : k < 8)
    (hforbidden : s.mgt.smbAddr % 4 ≠ 0 ∨ (mgtFlags s).getLsbD 1 = false ∨ smbusWritable (s.mgt.smbAddr + 4 * k) = false) :
    execSmbusWriteBurst l true env s = .next (smbusAdvance 32 (mgtInvalid s.mgt.smbAddr 32 true s)) := by
  have hnotOk : ((mgtFlags s).getLsbD 1 && s.mgt.smbAddr % 4 == 0 &&
      (List.range 8).all fun k => smbusWritable (s.mgt.smbAddr + 4 * k)) = false := by
    rcases hforbidden with hmisaligned | hmailbox | hword
    · simp [hmisaligned]
    · rw [hmailbox, Bool.false_and, Bool.false_and]
    · have hsome : ((List.range 8).all fun k => smbusWritable (s.mgt.smbAddr + 4 * k)) = false :=
        List.all_eq_false.mpr ⟨k, List.mem_range.mpr hk, Bool.eq_false_iff.mp hword⟩
      rw [hsome, Bool.and_false]
  simp only [execSmbusWriteBurst, hup, hlength, hnotOk, bne_self_eq_false, Bool.not_true, Bool.or_self, Bool.false_eq_true,
    if_false]

end Burst

end Smbus

/-- MOD_RST_N held low long enough: the burn completes, provisional changes are reversed, events are written out, and the module
starts with its third cause (R475, R490, R498). -/
theorem execModRstN_of_low {s : State} {low : Nat} {taken : Bool} (env : StartEnv) (hlow : 1000 ≤ low)
    (htaken : 10000 ≤ low ∨ taken = true) (hlockout : s.pwr.lockout = false) (hvin : onVin s = true)
    (hstarted : s.pwr.startRun = true) (hstore : s.log.size ≠ 0) :
    execModRstN low taken env s = .next (start 3 s.pwr.state.code env (flushLog
      (s.fab.prov.foldl (fun u p => reverseProv p u) (finishBurn s)))) := by
  have hlong : (decide (low < 10000) && !taken) = false := by
    rcases htaken with hlength | htaken
    · simp [Nat.not_lt.mpr hlength]
    · simp [htaken]
  simp [execModRstN, Nat.not_lt.mpr hlow, hlong, hlockout, hvin, hstarted, hstore]

/-- Settles O31: each command follows its own equation where its premise holds. -/
theorem sidebandCommandsComplete : Obligations.SidebandCommandsComplete := by
  intro s
  exact ⟨fun hup => ⟨execSmbusTelemetry_of_up hup, execSmbusPower_of_allowed hup, fun target pec => execSmbusPower_of_nack hup target,
      fun a => ⟨execSmbusSetAddr_of_pec hup a, execSmbusSetAddr_of_badPec hup a⟩, execSmbusRead_of_up hup,
      fun v env => ⟨execSmbusWrite_of_pec hup v env, execSmbusWrite_of_badPec hup v env⟩, execSmbusReadBurst_of_up hup,
      fun l env => execSmbusWriteBurst_of_writable hup env, fun l env k hlength => execSmbusWriteBurst_of_forbidden hup env hlength,
      execSmbusUnknownCommand_of_up hup⟩,
    fun low taken env => execModRstN_of_low env⟩

end Sys2Proof.Machine

/-! Register reads, register writes and MSI-X (R11, R13, R247, R405, R464, R471, R473): what each access does on an open path. -/

namespace Sys2Proof.Machine

section Writes
variable {p : MPath} {off : Nat} {s : State} (v : Word) (env : LaunchEnv) (hopen : pathOpen p s = true)
include hopen

/-- Aligned, and through the SMBus at a register that the mailbox may write (R13, R473). -/
theorem writeReg_of_permitted (haligned : off % 4 = 0)
    (hpermitted : p = .bar0 ∨ ((mgtFlags s).getLsbD 1 = true ∧ smbusWritable off = true)) :
    writeReg p off v env s = pump (regWrite p off v env s) := by
  have hnotForbidden : ¬ (p = .smbus ∧ (!((mgtFlags s).getLsbD 1 && smbusWritable off)) = true) := by
    rcases hpermitted with rfl | ⟨hmailbox, hwritable⟩
    · exact fun hsmbus => nomatch hsmbus.1
    · rw [hmailbox, hwritable]
      exact fun hforbidden => nomatch hforbidden.2
  rw [writeReg, if_neg (by simp [hopen]), if_neg (not_not_intro haligned), if_neg hnotForbidden]

theorem writeReg_of_forbidden
    (hforbidden : off % 4 ≠ 0 ∨ (p = .smbus ∧ ((mgtFlags s).getLsbD 1 = false ∨ smbusWritable off = false))) :
    writeReg p off v env s = mgtInvalid off 4 true s := by
  rw [writeReg, if_neg (by simp [hopen])]
  by_cases haligned : off % 4 = 0
  · obtain ⟨hsmbus, hregister⟩ := hforbidden.resolve_left (not_not_intro haligned)
    have hno : (!((mgtFlags s).getLsbD 1 && smbusWritable off)) = true := by
      rw [Bool.not_eq_true', Bool.and_eq_false_iff]
      exact hregister
    rw [if_neg (not_not_intro haligned), if_pos ⟨hsmbus, hno⟩]
  · rw [if_pos haligned]

end Writes

section Reads
variable {p : MPath} {off : Nat} {s : State}

/-- The low words of the 64-bit registers: none is the port of the captured words, and neither their high words (R11, R247). -/
theorem wideLow_apart :
    ∀ off ∈ wideLow, off ≠ 0x070034 ∧ off + 4 ≠ 0x070034 ∧ wideLow.contains (off + 4) = false := by decide

theorem latchOf_answer_setLatch (x : Option (Nat × Word)) (v : Word) :
    latchOf p (answer p v (setLatch p x s)).mgt = x := by
  cases p <;> rfl

/-- The low word of a 64-bit register latches its high word (R11). -/
theorem readReg_of_low (hlow : wideLow.contains off = true) :
    readReg p off s = (regWord off s, setLatch p (some (off, regWord (off + 4) s)) s) := by
  obtain ⟨hport, -, -⟩ := wideLow_apart off (List.contains_iff_mem.mp hlow)
  rw [readReg, if_neg hport, if_pos hlow]

/-- The latched word answers the next read of the high word on the same path (R11). -/
theorem readReg_of_latched {w : Word} (hlow : wideLow.contains off = true) (hlatch : latchOf p s.mgt = some (off, w)) :
    readReg p (off + 4) s = (w, setLatch p none s) := by
  obtain ⟨-, hport, hhigh⟩ := wideLow_apart off (List.contains_iff_mem.mp hlow)
  rw [readReg, if_neg hport, if_neg (Bool.eq_false_iff.mp hhigh), hlatch]
  exact if_pos rfl

variable (hopen : pathOpen p s = true)
include hopen

theorem execReg64LowRead_of_low (hlow : wideLow.contains off = true) :
    execReg64LowRead p off s = .next (answer p (regWord off s) (setLatch p (some (off, regWord (off + 4) s)) s)) := by
  simp [execReg64LowRead, hopen, List.contains_iff_mem.mp hlow, readReg_of_low hlow]

theorem execRegisterAccessInvalid_of_disallowed {width : Nat} (wr : Bool) (hbad : accessOk off width = false) :
    execRegisterAccessInvalid p off width wr s =
      .next (if wr then mgtInvalid off width wr s else answer p 0 (mgtInvalid off width wr s)) := by
  simp [execRegisterAccessInvalid, hopen, hbad]

/-- The oldest captured word (R247). -/
theorem execEntRawData_of_captured {w : Word} {rest : List Word} (hstate : captureState s = true)
    (hbuffer : s.ent.buffer = w :: rest) :
    execEntRawData p s = .next (answer p w { s with ent := { s.ent with buffer := rest } }) := by
  simp [execEntRawData, hopen, readReg, rawPop, hstate, hbuffer]

theorem execEntRawData_of_nothing (hnothing : captureState s = false ∨ s.ent.buffer = []) :
    execEntRawData p s = .next (answer p 0 s) := by
  have hpop : rawPop s = (0, s) := by
    rcases hnothing with hstate | hbuffer
    · simp [rawPop, hstate]
    · simp [rawPop, hbuffer]
  simp [execEntRawData, hopen, readReg, hpop]

end Reads

section Bar0
variable {s : State}

theorem rawCtrl_of_elsewhere (v : Word) (hstate : captureState s = false) :
    rawCtrl v s = logEvent 0x705 [BitVec.ofNat 8 s.lcs.state.code] s := by
  simp [rawCtrl, hstate]

/-- Every condition of R405 holds: the burn of the source starts. -/
theorem tmpFuseWrite_of_allowed {source : BitVec 8} (hidle : s.tmp.fuseBusy = none) (hintegrator : s.lcs.state = .integrator)
    (hready : s.pwr.state = .ready) (hunlocked : s.tmp.locked = false) (hsource : source ≠ 0) (hlast : source.toNat ≤ 7)
    (hcharge : burnEnergy 2 ≤ s.pwr.cap) :
    tmpFuseWrite 0xD15A source s = { s with tmp := { s.tmp with fuseBusy := some source.toNat } } := by
  have hno : ¬ (source = 0 ∨ 7 < source.toNat) := not_or.mpr ⟨hsource, Nat.not_lt.mpr hlast⟩
  have hstate : (s.lcs.state != .integrator || s.pwr.state != .ready || s.tmp.locked) = false := by
    simp [hintegrator, hready, hunlocked]
  simp only [tmpFuseWrite, hidle, hno, hstate, Nat.not_lt.mpr hcharge, Option.isSome_none, bne_self_eq_false, Bool.false_eq_true,
    if_false]

/-- The key and the source in the two fields of TMP_FUSE_CMD (R405). -/
theorem tmpWrite_fuseCmd (key : BitVec 16) (source : BitVec 8) :
    tmpWrite 0x78 (BitVec.ofNat 32 (key.toNat * 65536 + source.toNat)) s = tmpFuseWrite key source s := by
  have hk := key.isLt
  have hs := source.isLt
  have hvalue : (BitVec.ofNat 32 (key.toNat * 65536 + source.toNat)).toNat = key.toNat * 65536 + source.toNat := by
    rw [BitVec.toNat_ofNat]
    omega
  have hkey : BitVec.ofNat 16 ((BitVec.ofNat 32 (key.toNat * 65536 + source.toNat)).toNat / 65536) = key := by
    apply BitVec.eq_of_toNat_eq
    rw [hvalue, BitVec.toNat_ofNat]
    omega
  have hsource : (BitVec.ofNat 32 (key.toNat * 65536 + source.toNat)).setWidth 8 = source := by
    apply BitVec.eq_of_toNat_eq
    rw [BitVec.toNat_setWidth, hvalue]
    omega
  have hwritten : tmpWrite 0x78 (BitVec.ofNat 32 (key.toNat * 65536 + source.toNat)) s =
      tmpFuseWrite (BitVec.ofNat 16 ((BitVec.ofNat 32 (key.toNat * 65536 + source.toNat)).toNat / 65536))
        ((BitVec.ofNat 32 (key.toNat * 65536 + source.toNat)).setWidth 8) s := rfl
  rw [hwritten, hkey, hsource]

theorem execMsixUnmask_of_masked {v : Nat} (hopen : barOpen s = true) (hv : v < 2048)
    (hmasked : s.pcie.unmasked.contains v = false) :
    execMsixUnmask v s = .next (flushMsix { s with pcie := { s.pcie with unmasked := v :: s.pcie.unmasked } }) := by
  have hnew : ¬ (!barOpen s || decide (2048 ≤ v) || s.pcie.unmasked.contains v) = true := by
    rw [hopen, hmasked]
    simpa using hv
  exact congrArg _ (if_neg hnew)

section Refused
variable {bar : Nat} (hlink : s.pcie.link = true) (hblocks : ideBlocks s = true) (hbar : bar = 0 ∨ bar = 2 ∨ bar = 4)
include hlink hblocks hbar

/-- Without the Secure stream that the image asks for, a request that wants an answer gets Unsupported Request (R464). -/
theorem execPcieRequestRefused_of_nonPosted : execPcieRequestRefused bar false s = .next (emit (.pcie 1) s) := by
  have hmine : (bar == 0 || bar == 2 || bar == 4) = true := by simpa [or_assoc] using hbar
  simp only [execPcieRequestRefused, hlink, hblocks, hmine, Bool.not_false, Bool.and_self, if_true]

end Refused

theorem execPcieRequestRefused_of_posted (bar : Nat) : execPcieRequestRefused bar true s = .next s := by
  simp only [execPcieRequestRefused, Bool.not_true, Bool.and_false, Bool.false_eq_true, if_false]

end Bar0

/-- Settles O27: each access follows its own equation; those of one register are a write through BAR0 at its offset. -/
theorem registerEventsComplete : Obligations.RegisterEventsComplete := by
  intro s
  have written {off : Nat} {v : Word} {t : State} (hopen : barOpen s = true) (haligned : off % 4 = 0)
      (hregister : regWrite .bar0 off v {} s = t) : (.next (writeReg .bar0 off v {} s) : Res) = .next (pump t) := by
    rw [writeReg_of_bar0 v {} hopen haligned, hregister]
  refine ⟨fun p off v env hopen haligned hpermitted => congrArg _ (writeReg_of_permitted v env hopen haligned hpermitted),
    fun p off v env hopen hforbidden => congrArg _ (writeReg_of_forbidden v env hopen hforbidden),
    fun p off hopen hlow => ⟨execReg64LowRead_of_low hopen hlow, fun t hread => ?latched⟩,
    fun p off width wr hopen => execRegisterAccessInvalid_of_disallowed hopen wr,
    fun v hopen hstate => written hopen rfl (rawCtrl_of_elsewhere v hstate), fun v hopen hstate => written hopen rfl rfl,
    fun p w rest hopen => execEntRawData_of_captured hopen, fun p hopen => execEntRawData_of_nothing hopen,
    fun source hopen hidle hintegrator hready hunlocked hsource hlast hcharge => written hopen rfl
      ((tmpWrite_fuseCmd 0xD15A source).trans
        (tmpFuseWrite_of_allowed hidle hintegrator hready hunlocked hsource hlast hcharge)),
    fun v hopen => written hopen rfl rfl, fun v hopen hv => execMsixUnmask_of_masked hopen hv,
    fun bar hlink hblocks hbar =>
      ⟨execPcieRequestRefused_of_nonPosted hlink hblocks hbar, execPcieRequestRefused_of_posted bar⟩⟩
  case latched =>
    obtain rfl := Host.Outcome.next.inj ((execReg64LowRead_of_low hopen hlow).symm.trans hread)
    rw [readReg_of_latched hlow (latchOf_answer_setLatch ..)]

end Sys2Proof.Machine

/-! PCIe events (R94, R460, R463-R465, R475, R476): what each event does where its premise holds. -/

namespace Sys2Proof.Machine

section Pcie
variable {s : State}

/-- Before step 7 of a start: Retry (R460, R476). -/
theorem execConfigRequest_of_retry (off : Nat) (w : Option Bool) (hperst : s.pcie.perst = false)
    (hstarting : s.pwr.state = .starting) (hearly : s.pwr.startRun = false) :
    execConfigRequest off w s = .next (emit (.pcie 3) s) := by
  simp [execConfigRequest, hperst, hstarting, hearly]

section Config
variable (hperst : s.pcie.perst = false) (hlink : s.pcie.link = true)
variable (hlate : ¬ (s.pwr.state = .starting ∧ (!s.pwr.startRun) = true))
include hperst hlink hlate

/-- A read of a dword that R460 fixes. -/
theorem execConfigRequest_of_header {off : Nat} {v : Word} (hheader : headerWord off = some v) :
    execConfigRequest off none s = .next (emit (.pcie 0) (emit (.value v) s)) := by
  simp only [execConfigRequest, hperst, hlate, hlink, hheader, Bool.not_true, Bool.false_eq_true, if_false]

theorem execConfigRequest_of_pasidEnable (off : Nat) :
    execConfigRequest off (some true) s =
      .next (emit (.pcie 0) (flushWaiting { s with pcie := { s.pcie with pasidEnable := true } })) := by
  simp only [execConfigRequest, hperst, hlate, hlink, Bool.not_true, Bool.false_eq_true, if_false]

theorem execConfigRequest_of_pasidClear (off : Nat) :
    execConfigRequest off (some false) s = .next (emit (.pcie 0) (clearPasid s)) := by
  simp only [execConfigRequest, hperst, hlate, hlink, Bool.not_true, Bool.false_eq_true, if_false]

end Config

theorem execPcieReset_perst_of_core (hcore : s.pwr.state = .ready ∨ s.pwr.state = .run ∨ s.pwr.state = .starting) :
    execPcieReset .perst s = .next { dropLink (hostReset s) with
      pcie := { (dropLink (hostReset s)).pcie with perst := true } } := by
  rcases hcore with hready | hrun | hstarting
  · simp only [execPcieReset, hready]
  · simp only [execPcieReset, hrun]
  · simp only [execPcieReset, hstarting]

/-- PERST_N is ignored with the core off (R475). -/
theorem execPcieReset_perst_of_coreOff (hoff : s.pwr.state = .off ∨ s.pwr.state = .reserve ∨ s.pwr.state = .sleep) :
    execPcieReset .perst s = .next s := by
  rcases hoff with hoff | hreserve | hsleep
  · simp only [execPcieReset, hoff]
  · simp only [execPcieReset, hreserve]
  · simp only [execPcieReset, hsleep]

/-- PASID Enable cleared with no queue is that bit alone; with queues the host path is reset (R463). -/
theorem clearPasid_of_empty (hqueues : s.rqs.queues = []) :
    clearPasid s = { s with pcie := { s.pcie with pasidEnable := false } } := by
  simp [clearPasid, hqueues]

theorem clearPasid_of_queues (hqueues : s.rqs.queues ≠ []) : clearPasid s = hostReset s := by
  simp [clearPasid, hqueues]

theorem execPasidEnableClear_of_set (hlink : s.pcie.link = true) (hpasid : s.pcie.pasidEnable = true) :
    execPasidEnableClear s = .next (clearPasid s) := by
  simp [execPasidEnableClear, hlink, hpasid]

/-- The release of PERST_N trains the link where it may train (R476). -/
theorem execPerstNRelease_of_trains (htrains : linkTrains s = true) :
    let t : State := { s with pcie := { s.pcie with perst := false } }
    execPerstNRelease s = .next (resumeDma (trainLink t)) :=
  congrArg _ (if_pos htrains)

section Ide
variable (hlink : s.pcie.link = true) (hide : (mgtFlags s).getLsbD 3 = true)
include hlink hide

theorem execSpdmMessage_of_ide (secured keyProg : Bool) :
    execSpdmMessage secured keyProg s = .next (emit .doe { s with pcie := { s.pcie with
      spdm := s.pcie.spdm || (secured && s.kvt.identity && !s.kvt.signsNothing)
      keyed := s.pcie.keyed || (secured && keyProg && s.pcie.spdm) } }) := by
  have hanswers : ¬ (!s.pcie.link || !(mgtFlags s).getLsbD 3) = true := by
    rw [hlink, hide]
    exact Bool.false_ne_true
  rw [execSpdmMessage, if_neg hanswers, Bool.and_assoc secured s.kvt.identity]

/-- The stream becomes Secure after its keys (R464). -/
theorem execIdeStreamSecure_of_keyed (hkeyed : s.pcie.keyed = true) :
    execIdeStreamSecure s = .next (resumeDma { s with pcie := { s.pcie with secure := true } }) := by
  have hsecure : (s.pcie.link && (mgtFlags s).getLsbD 3 && s.pcie.keyed) = true := by rw [hlink, hide, hkeyed]; rfl
  exact congrArg _ (if_pos hsecure)

end Ide

end Pcie

/-- Settles O29: each event follows its own equation; with the link up those that need it do what they say. -/
theorem pcieEventsComplete : Obligations.PcieEventsComplete := by
  intro s
  refine ⟨fun off w => execConfigRequest_of_retry off w, fun hperst hlink hstarted => ?config, execPcieReset_perst_of_core,
    execPcieReset_perst_of_coreOff, fun hlink => ?link, fun hd3hot => congrArg _ (if_pos hd3hot),
    fun hlink hpasid => ?pasid, execPerstNRelease_of_trains,
    fun hlink hide => ⟨execSpdmMessage_of_ide hlink hide, execIdeStreamSecure_of_keyed hlink hide⟩, rfl⟩
  case config =>
    have hlate : ¬ (s.pwr.state = .starting ∧ (!s.pwr.startRun) = true) := by simpa using hstarted
    have header {off : Nat} {v : Word} (h : headerWord off = some v) := execConfigRequest_of_header hperst hlink hlate h
    exact ⟨header (off := 0x00) rfl, header (off := 0x08) rfl, header (off := 0x2C) rfl, execConfigRequest_of_pasidEnable hperst hlink hlate,
      execConfigRequest_of_pasidClear hperst hlink hlate⟩
  case link =>
    have linked {x : State} : (.next (if s.pcie.link then x else s) : Res) = .next x := congrArg _ (if_pos hlink)
    exact ⟨linked, linked, linked, linked, linked, linked, linked⟩
  case pasid =>
    have hclear := execPasidEnableClear_of_set hlink hpasid
    exact ⟨fun hqueues => hclear.trans (congrArg _ (clearPasid_of_empty hqueues)),
      fun hqueues => hclear.trans (congrArg _ (clearPasid_of_queues hqueues))⟩

end Sys2Proof.Machine

/-! Card ports, approvals, the patrol scrub and the flash store (R147, R341, R347, R360, R367, R485, R486). -/

namespace Sys2Proof.Machine

section Cards
variable {s : State} {p : Nat} (hport : p < 2)
include hport

/-- An event of a port that the module has. -/
theorem next_of_port {x : State} : (if 2 ≤ p then .next s else .next x : Res) = .next x := if_neg (Nat.not_le.mpr hport)

/-- A session that has stood for 900 s (R367). -/
theorem execCardSessionExpiry_of_due (hopen : (cardPort s p).custodian.isSome = true)
    (hdue : (cardPort s p).openedAt + 900000000000 ≤ s.mtime) : execCardSessionExpiry p s = .next (updPort p closeCard s) := by
  simp [execCardSessionExpiry, Nat.not_le.mpr hport, hopen, hdue]

end Cards

section Memory
variable {s : State}

/-- A line without an error only moves the scrubber on (R341). -/
theorem execScrubRead_of_goodLine (hrun : s.pwr.state = .run) (htrained : s.mem.trained = true)
    (hawake : s.mem.selfRefresh = false) (hgood : s.mem.badLines.contains s.mem.scrub = false) :
    execScrubRead 0 s = .next { s with mem := { s.mem with
      scrub := if s.mem.scrub + 1 = 2 ^ 29 then 0 else s.mem.scrub + 1
      passes := if s.mem.scrub + 1 = 2 ^ 29 then (s.mem.passes + 1) % 2 ^ 32 else s.mem.passes } } := by
  have hserves : (s.pwr.state != .run || !s.mem.trained || s.mem.selfRefresh) = false := by simp [hrun, htrained, hawake]
  have hclean : ¬ (4 ≤ 0 ∨ s.mem.badLines.contains s.mem.scrub = true) :=
    not_or.mpr ⟨by decide, Bool.eq_false_iff.mp hgood⟩
  simp only [execScrubRead, hserves, if_neg hclean, Bool.false_eq_true, if_false, if_true, beq_iff_eq]

theorem execRowRemapCopyDone_of_copied {row : Nat} {rest : List Nat} (hcopy : s.mem.remapCopy = row :: rest) :
    execRowRemapCopyDone s = .next { s with mem := { s.mem with remapCopy := rest, remap := s.mem.remap ++ [row] } } := by
  simp only [execRowRemapCopyDone, hcopy]

/-- The pending changes are made in their order (R360). -/
theorem execKeyStoreCommit_of_up (hup : s.pwr.state = .ready ∨ s.pwr.state = .run) :
    execKeyStoreCommit s = .next (finishCommitted (s.kvt.storePending.foldl (fun u o => commitOp o u)
      { s with kvt := { s.kvt with storePending := [] } })) := by
  have hserves : (s.pwr.state == .ready || s.pwr.state == .run) = true := by simpa using hup
  simp only [execKeyStoreCommit, hserves, Bool.not_true, Bool.false_eq_true, if_false]

end Memory

/-- Settles O16: each event follows its own equation where its premise holds. -/
theorem cardAndMemoryEventsComplete : Obligations.CardAndMemoryEventsComplete := by
  intro s
  exact ⟨fun p hport => ⟨next_of_port hport, next_of_port hport, next_of_port hport, next_of_port hport,
      execCardSessionExpiry_of_due hport⟩,
    fun n => rfl, execScrubRead_of_goodLine, fun row rest => execRowRemapCopyDone_of_copied, execKeyStoreCommit_of_up, rfl⟩

end Sys2Proof.Machine

/-! KEY_DELETE, STATEFUL_SIGN, METER_LATCH and the commands under dual control (R148, R150, R218, R219, R321, R363): the
calculations that change the state. -/

namespace Sys2Proof.Machine

section StoredState
variable {c : Nat} {pre : Pre} {f : Calc} {s u t : State} {rid : Nat} {r : Req} {k : Keys} {x : Answer}

/-- A command whose calculation answers `x` in `t`, within the output that the descriptor allows. -/
theorem runCmd_of_calc (hat : AtCommand c pre s rid r k u) (hcalc : f u.drawn r k u.freeCtr = (x, t))
    (hfits : x.output.length ≤ r.desc.outCap.toNat) :
    runCmd c pre f rid none s = .next (delivered r k x (countOps x.ops t)) := by
  rw [runCmd_of_atCommand hat]
  simp only [State.drawn] at hcalc
  simp only [runCalc, hcalc, Nat.not_lt.mpr hfits, if_false]
  rfl

/-- Without output and without counted slots. -/
theorem runCmd_of_bareCalc (hat : AtCommand c pre s rid r k u) (hcalc : f u.drawn r k u.freeCtr = (x, t))
    (hout : x.output = []) (hops : x.ops = []) : runCmd c pre f rid none s = .next (delivered r k x t) := by
  have hrun := runCmd_of_calc hat hcalc (by rw [hout]; exact Nat.zero_le _)
  rwa [hops] at hrun

end StoredState

/-- The deletion of a key of the requester's own module: entry and cached copy, then the record (R363). -/
theorem calcDelete_of_present {v : State} {r : Req} {k : Keys} {n i : Nat} {e : EmEntry} {x : KeyRec} (hown : r.viaPeer = false)
    (hhit : emFind v r.slice r.desc.keyA.toNat = .bucket i e ∨ emFind v r.slice r.desc.keyA.toNat = .stash i e)
    (hrecord : recordAt v e = some x) :
    let d := finalDelete e.record x (uncache r.slice r.desc.keyA.toNat (emDelete r.slice r.desc.keyA.toNat v).2)
    calcDelete v r k n =
      ({ wait := if d.1 || signOutstanding v r.slice r.desc.keyA.toNat then some r.desc.keyA.toNat else none }, d.2) := by
  rcases hhit with hbucket | hstash
  · simp only [calcDelete, hbucket, hrecord, hown, Bool.false_eq_true, if_false]
  · simp only [calcDelete, hstash, hrecord, hown, Bool.false_eq_true, if_false]

/-- A signature takes the next index of its key, and asks for the next block where few remain (R218). -/
theorem calcStatefulSign_of_index {v : State} {r : Req} {k : Keys} {line : Nat} {x : KeyRec} (n : Nat)
    (hrecord : liveRecord v r.slice r.desc.keyA.toNat = some (line, x)) (hleft : x.nextIdx < totalIndices x.bits)
    (hlimit : x.nextIdx < x.limit) :
    let y := { x with nextIdx := x.nextIdx + 1 }
    calcStatefulSign v r k n =
      ({ output := pqSignOf "F" x.bits (matOf k.a) [] r.input false x.nextIdx ++ leBytes 8 x.nextIdx, ops := hashOps false n },
        askBlock y (setRecord line y (updReq r.rid (fun q => { q with index := some x.nextIdx }) v))) := by
  simp only [calcStatefulSign, hrecord, Nat.not_le.mpr hleft, Nat.not_le.mpr hlimit, if_false]

theorem calcCombine_of_approved {v t : State} {r : Req} {k : Keys} {n : Nat} {l : List Approval}
    (happroved : reserveApprovals (partCount r) 1 (opStatement r.desc r.slice r.input) v = .inl (l, t)) :
    calcCombine v r k n =
      (combineParts r (l.map fun a => a.component.getD []), updReq r.rid (fun x => { x with approvals := true }) t) := by
  simp only [calcCombine, happroved]

/-- A key under dual control leaves with the two approvals that the command reserves (R145, R148). -/
theorem calcExport_of_approved {v t : State} {r : Req} {a b : KeyRec} {n : Nat} {l : List Approval} (hdual : nbit b.flags 3 = true)
    (happroved : reserveApprovals 2 0 (opStatement r.desc r.slice r.input) v = .inl (l, t)) :
    calcExport v r { a := some a, b := some b } n =
      (exportAnswer r a b n, updReq r.rid (fun x => { x with approvals := true }) t) := by
  simp only [calcExport, hdual, happroved, if_true]

/-- Settles O8: each command delivers what its calculation answers, in the state that the calculation leaves. -/
theorem storedStateCommandsAnswer : Obligations.StoredStateCommandsAnswer := by
  intro s u rid r k v
  refine ⟨fun i e x hat hown hhit hrecord => ?delete, fun p line x hat hp hrecord hleft hlimit => ?sign, fun hat => ?latch,
    fun l t hat happroved => ?combine, fun a b l t hat hkeys hdual happroved => ?leaves⟩
  case delete => exact runCmd_of_bareCalc hat (calcDelete_of_present hown hhit hrecord) rfl rfl
  case sign =>
    subst hp
    exact fun hfits => ⟨hashOps false u.freeCtr, runCmd_of_calc hat (calcStatefulSign_of_index _ hrecord hleft hlimit) hfits⟩
  case latch => exact runCmd_of_bareCalc hat rfl rfl rfl
  case combine => exact fun hfits => runCmd_of_calc hat (calcCombine_of_approved happroved) hfits
  case leaves =>
    subst hkeys
    exact fun hfits => runCmd_of_calc hat (calcExport_of_approved hdual happroved) hfits

end Sys2Proof.Machine

/-! What a PCIe reset leaves of the host path (R65, R475): a request that vanishes gives back what it held, and nothing else. -/

namespace Sys2Proof.Machine

section Vanish
variable (s : State)

/-- A state without what a request holds: its place among the live ones, its work, its calls, its unit contexts and its
approvals. -/
def State.sansHeld (s : State) : State :=
  { s with rqs := { s.rqs with live := [] }, adm := {}, eng := {}, ent := {}, cust := {} }

theorem sansHeld_dropCalls (l : List (Nat × Nat)) : (dropCalls l s).sansHeld = s.sansHeld :=
  List.foldlRecOn (motive := fun t : State => t.sansHeld = s.sansHeld) l _ rfl fun _ ih _ _ => ih

theorem live_dropCalls (l : List (Nat × Nat)) : (dropCalls l s).rqs.live = s.rqs.live :=
  List.foldlRecOn (motive := fun t : State => t.rqs.live = s.rqs.live) l _ rfl fun _ ih _ _ => ih

/-- The end of PARK_PENDING's wait parks units, and touches the admission and engine state alone (R104). -/
theorem parkAfter_eq (rid : Nat) : ∃ a e, parkAfter rid s = { s with adm := a, eng := e } := by
  unfold parkAfter parkReserved
  split
  · split <;> exact ⟨_, _, rfl⟩
  · exact ⟨_, _, rfl⟩

theorem countBurned_eq (r : Req) (st : Nat) : ∃ e, countBurned r st s = { s with eng := e } := by
  unfold countBurned
  split <;> exact ⟨_, rfl⟩

/-- What a request has given back when it is taken from the live ones (R65). -/
theorem vanish_eq (r : Req) : ∃ t, vanish r s = dropReq r.rid t ∧ t.sansHeld = s.sansHeld ∧ t.rqs.live = s.rqs.live := by
  refine ⟨_, rfl, ?_⟩
  generalize hu : (if r.approvals then settleApprovals false (opStatement r.desc r.slice r.input) s else s) = u
  obtain ⟨hrest, hlive⟩ : u.sansHeld = s.sansHeld ∧ u.rqs.live = s.rqs.live := by
    rw [← hu]
    split <;> exact ⟨rfl, rfl⟩
  obtain ⟨a, e, hpark⟩ := parkAfter_eq (clearContexts r.rid (dropWork r.work (dropCalls r.calls u))) r.rid
  obtain ⟨e', hburned⟩ := countBurned_eq (parkAfter r.rid (clearContexts r.rid (dropWork r.work (dropCalls r.calls u)))) r stAborted
  rw [hburned, hpark]
  exact ⟨(sansHeld_dropCalls u r.calls).trans hrest, (live_dropCalls u r.calls).trans hlive⟩

theorem sansHeld_vanish (r : Req) : (vanish r s).sansHeld = s.sansHeld := by
  obtain ⟨t, ht, hrest, -⟩ := vanish_eq s r
  rw [ht]
  exact hrest

theorem live_vanish (r : Req) : (vanish r s).rqs.live = s.rqs.live.filter fun x => x.rid != r.rid := by
  obtain ⟨t, ht, -, hlive⟩ := vanish_eq s r
  rw [ht, dropReq_live, hlive]

theorem sansHeld_foldl_vanish (l : List Req) : (l.foldl (fun u r => vanish r u) s).sansHeld = s.sansHeld :=
  List.foldlRecOn (motive := fun t : State => t.sansHeld = s.sansHeld) l _ rfl fun t ih r _ => (sansHeld_vanish t r).trans ih

/-- After some requests have vanished, those that are live were live before and carry none of their numbers. -/
theorem mem_live_foldl_vanish (l : List Req) {x : Req} (hx : x ∈ (l.foldl (fun u r => vanish r u) s).rqs.live) :
    x ∈ s.rqs.live ∧ ∀ r ∈ l, x.rid ≠ r.rid := by
  induction l generalizing s with
  | nil => exact ⟨hx, fun r hr => nomatch hr⟩
  | cons r l ih =>
    obtain ⟨hkept, hothers⟩ := ih (vanish r s) hx
    rw [live_vanish, List.mem_filter, bne_iff_ne] at hkept
    obtain ⟨hlive, hother⟩ := hkept
    exact ⟨hlive, List.forall_mem_cons.mpr ⟨hother, hothers⟩⟩

end Vanish

/-- No request that came through a host queue is live after a PCIe reset (R65, R475). -/
theorem viaHost_of_mem_hostReset {s : State} {r : Req} (hr : r ∈ (hostReset s).rqs.live) : viaHost r = false := by
  obtain ⟨hlive, hgone⟩ := mem_live_foldl_vanish s _ hr
  by_contra hhost
  exact hgone r (List.mem_filter.mpr ⟨hlive, Bool.eq_true_of_not_eq_false hhost⟩) rfl

/-- The launches that a PCIe reset leaves waiting are those of the SMBus (R469). -/
theorem smbus_of_mem_mgtReset {m : Mgt} {h : Held} (hh : h ∈ (mgtReset m).held) : h.launch.path = .smbus :=
  have hkept : (h.launch.path == MPath.smbus) = true := (List.mem_filter.mp hh).2
  eq_of_beq hkept

/-- Settles O30: the reset writes queues, host registers and MGT_ registers itself, and the requests that it ends leave the rest of
the statement as it was. -/
theorem hostResetClosesTheHostPath : Obligations.HostResetClosesTheHostPath := by
  intro s hlink
  have hrest := sansHeld_foldl_vanish s (s.rqs.live.filter viaHost)
  have field {α : Type} (f : State → α) :
      f ((s.rqs.live.filter viaHost).foldl (fun u r => vanish r u) s).sansHeld = f s.sansHeld := congrArg f hrest
  exact ⟨hostReset s, congrArg _ (if_pos hlink), rfl, rfl, rfl, rfl, rfl, rfl, rfl, rfl, rfl, rfl, rfl, rfl, rfl, rfl,
    fun h => smbus_of_mem_mgtReset, fun r => viaHost_of_mem_hostReset, field (·.pending), field (·.mtime), field (·.lcs),
    field (·.img)⟩

end Sys2Proof.Machine

/-! What a LOCK and an ERASE leave of the tamper registers (R395-R399): requests that end, sessions that close and records that are
written do not touch them. -/

namespace Sys2Proof.Machine

section Tamper
variable (s : State)

theorem raise_tmp (v : Nat) : (raise v s).tmp = s.tmp := (congrArg State.tmp (sansEntropy_raise v s) :)

theorem noteFull_tmp (old : State) : (noteFull old s).tmp = s.tmp := (congrArg State.tmp (sansCharger_noteFull old s) :)

theorem logReserve_tmp (typ : Nat) (payload : Bytes) : (logReserve typ payload s).tmp = s.tmp :=
  (congrArg State.tmp (sansCharger_logReserve typ payload s) :)

theorem sendMsix_tmp (v : Nat) : (sendMsix v s).tmp = s.tmp := (congrArg State.tmp (sansEntropy_sendMsix v s) :)

/-- What either branch leaves of the tamper registers, their choice leaves. -/
theorem tmp_ite {g : Prop} [Decidable g] {s x y : State} (hx : x.tmp = s.tmp) (hy : y.tmp = s.tmp) :
    (if g then x else y).tmp = s.tmp := by
  split
  · exact hx
  · exact hy

theorem refreshHold_tmp : (refreshHold s).tmp = s.tmp := tmp_ite rfl (raise_tmp ..)

theorem copyReserve_tmp : (copyReserve s).tmp = s.tmp := tmp_ite rfl rfl

theorem logErased_tmp : (logErased s).tmp = s.tmp := tmp_ite rfl rfl

theorem entropyClear_tmp : (entropyClear s).tmp = s.tmp := rfl

/-! A message on a session. -/

theorem stampProv_tmp (rid : Option Nat) (sess id : Nat) : (stampProv rid sess id s).tmp = s.tmp := by
  unfold stampProv
  split <;> rfl

theorem sendMsg_tmp (i : Nat) (ens : Bool) (m : WaitMsg) : (sendMsg i ens m s).tmp = s.tmp := by
  unfold sendMsg
  split
  · rfl
  · exact tmp_ite (stampProv_tmp ..) rfl

theorem closeSession_tmp (i : Nat) (reason : Option Nat) : (closeSession i reason s).tmp = s.tmp := by
  unfold closeSession
  split <;> rfl

theorem closeAll_tmp (reason : Option Nat) : (closeAll reason s).tmp = s.tmp :=
  List.foldlRecOn (motive := fun t : State => t.tmp = s.tmp) _ _ rfl fun t ih i _ => (closeSession_tmp t i reason).trans ih

/-! A request that ends. -/

theorem meter_tmp (sl : Nat) (c : RClass) (f : ClassMeter → ClassMeter) : (meter sl c f s).tmp = s.tmp := tmp_ite rfl rfl

theorem meterEnd_tmp (r : Req) (x : Result) : (meterEnd r x s).tmp = s.tmp :=
  tmp_ite (tmp_ite (meter_tmp ..) rfl) (tmp_ite rfl (meter_tmp ..))

theorem deadlineCheck_tmp (r : Req) : (deadlineCheck r s).tmp = s.tmp := tmp_ite (logEvent_tmp ..) rfl

theorem pauseCheck_tmp (sl q : Nat) : (pauseCheck sl q s).tmp = s.tmp := by
  unfold pauseCheck
  split
  · rfl
  · exact tmp_ite rfl (tmp_ite rfl rfl)

theorem writeHost_tmp (r : Req) (q : Nat) (x : Result) : (writeHost r q x s).tmp = s.tmp := by
  unfold writeHost
  split
  · rfl
  · have hwritten (s1 : State) (h : s1.tmp = s.tmp) : (if x.written = [] then s else s1).tmp = s.tmp := tmp_ite rfl h
    exact (countLate_tmp ..).trans (tmp_ite (hwritten _ rfl) ((sendMsix_tmp ..).trans (hwritten _ rfl)))

theorem writeResponse_tmp (r : Req) (sess : Nat) (x : Result) : (writeResponse r sess x s).tmp = s.tmp :=
  (countLate_tmp ..).trans (sendMsg_tmp ..)

theorem tryWrite_tmp (rid : Nat) : (tryWrite rid s).tmp = s.tmp := by
  unfold tryWrite
  split
  · rfl
  · split
    · rfl
    · exact tmp_ite (writeHost_tmp ..) rfl
    · exact writeResponse_tmp ..
    · exact writeResponse_tmp ..

theorem dropCalls_tmp (l : List (Nat × Nat)) : (dropCalls l s).tmp = s.tmp := (congrArg State.tmp (sansHeld_dropCalls s l) :)

theorem parkAfter_tmp (rid : Nat) : (parkAfter rid s).tmp = s.tmp := by
  obtain ⟨a, e, h⟩ := parkAfter_eq s rid
  rw [h]

theorem countBurned_tmp (r : Req) (st : Nat) : (countBurned r st s).tmp = s.tmp := tmp_ite rfl rfl

theorem finish_tmp (rid : Nat) (x : Result) : (finish rid x s).tmp = s.tmp := by
  unfold finish
  split
  · rfl
  case h_2 r _ =>
    refine (tryWrite_tmp ..).trans ?_
    have hgiven (ok : Bool) (st : Bytes) :
        (parkAfter rid (clearContexts rid (dropWork r.work (dropCalls r.calls
          (if r.approvals then settleApprovals ok st s else s))))).tmp = s.tmp :=
      (parkAfter_tmp ..).trans ((dropCalls_tmp ..).trans (tmp_ite rfl rfl))
    have hended (y : Result) (s2 : State) (h : s2.tmp = s.tmp) :
        (deadlineCheck r (meterEnd r y (if y.forwarded then s2 else countBurned r y.status (countReleased r y.status s2)))).tmp =
          s.tmp :=
      (deadlineCheck_tmp ..).trans ((meterEnd_tmp ..).trans (tmp_ite h ((countBurned_tmp ..).trans h)))
    split
    · exact tmp_ite ((pauseCheck_tmp ..).trans (hended _ _ (hgiven ..))) (hended _ _ (hgiven ..))
    · exact hended _ _ (hgiven ..)

theorem endLive_tmp (p : Req → Bool) (st : Nat) : (endLive p st s).tmp = s.tmp :=
  List.foldlRecOn (motive := fun t : State => t.tmp = s.tmp) _ _ rfl fun t ih _ _ => (finish_tmp t ..).trans ih

/-! LOCK and ERASE. -/

theorem lockNow_of_locked (hlocked : s.tmp.locked = true) : lockNow s = s := if_pos hlocked

/-- A LOCK counts itself, and changes no other tamper register (R397). -/
theorem lockNow_tmp (hunlocked : s.tmp.locked = false) :
    (lockNow s).tmp = { s.tmp with locked := true, lockSeq := (s.tmp.lockSeq + 1) % 2 ^ 32 } := by
  simp only [lockNow, hunlocked, Bool.false_eq_true, if_false, apply_ite State.tmp, refreshHold_tmp, raise_tmp, dropApprovals,
    setApprovals_tmp, entropyClear_tmp, closeAll_tmp, endLive_tmp, ite_self]

theorem lockNow_locked : (lockNow s).tmp.locked = true := by
  cases hlocked : s.tmp.locked with
  | true => rwa [lockNow_of_locked s hlocked]
  | false => rw [lockNow_tmp s hlocked]

/-- The first ERASE since the last UNLOCK starts the seed kill, and changes no other tamper register (R398). -/
theorem eraseNow_tmp (hkept : s.tmp.erased = false) :
    (eraseNow s).tmp = { s.tmp with erased := true, seedKilled := false, killRunning := true } := by
  rw [eraseNow, if_neg (Bool.eq_false_iff.mp hkept), logErased_tmp]
  rfl

/-- An ERASE leaves the module erased, and a LOCK as it was. -/
theorem eraseNow_registers :
    (eraseNow s).tmp.erased = true ∧ (eraseNow s).tmp.locked = s.tmp.locked ∧ (eraseNow s).tmp.lockSeq = s.tmp.lockSeq := by
  cases herased : s.tmp.erased with
  | true =>
    rw [show eraseNow s = s from if_pos herased]
    exact ⟨herased, rfl, rfl⟩
  | false =>
    rw [eraseNow_tmp s herased]
    exact ⟨rfl, rfl, rfl⟩

/-- What an alarm does before it is recorded: the LOCK, and the ERASE that its response includes (R395, R396). -/
def alarmResponse (n : Nat) : State := if responseErases n s then eraseNow (lockNow s) else lockNow s

theorem alarmResponse_registers (n : Nat) :
    (alarmResponse s n).tmp.locked = true ∧ (alarmResponse s n).tmp.lockSeq = (lockNow s).tmp.lockSeq ∧
      (responseErases n s = true → (alarmResponse s n).tmp.erased = true) := by
  unfold alarmResponse
  split
  case isTrue =>
    obtain ⟨herased, hlocked, hseq⟩ := eraseNow_registers (lockNow s)
    exact ⟨hlocked.trans (lockNow_locked s), hseq, fun _ => herased⟩
  case isFalse hno => exact ⟨lockNow_locked s, rfl, fun herases => absurd herases hno⟩

/-- The record of an alarm changes no more than its own tamper registers: the source is latched (R397, R406). -/
theorem confirmAlarm_registers (n : Nat) (d : Word) :
    (confirmAlarm n d s).tmp.locked = (alarmResponse s n).tmp.locked ∧
      (confirmAlarm n d s).tmp.latched = (alarmResponse s n).tmp.latched ||| BitVec.ofNat 11 (2 ^ n) ∧
      (confirmAlarm n d s).tmp.erased = (alarmResponse s n).tmp.erased ∧
      (confirmAlarm n d s).tmp.lockSeq = (alarmResponse s n).tmp.lockSeq := by
  simp only [confirmAlarm, alarmResponse, noteFull_tmp, apply_ite State.tmp, copyReserve_tmp, logReserve_tmp, ite_self,
    and_self]

end Tamper

end Sys2Proof.Machine

/-! Tamper alarms and Warden cores (R395-R398, R414-R418): what each event does where its premise holds. -/

namespace Sys2Proof.Machine

section Alarm
variable {s : State} {n : Nat} (d : Word)

/-- A source that is not dead confirms, but for the one that RESERVE does not monitor (R395, R405). -/
theorem tamperAlarm_of_alive (hn : n < 11) (hon : s.pwr.state ≠ .off) (halive : sourceDead n d s = false)
    (hmonitored : ¬ (s.pwr.state = .reserve ∧ n = 9)) : tamperAlarm n d s = confirmAlarm n d s := by
  have hgo : (decide (11 ≤ n) || s.pwr.state == .off || sourceDead n d s || (s.pwr.state == .reserve && n == 9)) = false := by
    simpa [Nat.not_le.mpr hn, hon, halive] using hmonitored
  simp only [tamperAlarm, hgo, Bool.false_eq_true, if_false]

theorem getLsbD_or_two_pow (x : BitVec 11) (hn : n < 11) : (x ||| BitVec.ofNat 11 (2 ^ n)).getLsbD n = true := by
  rw [BitVec.getLsbD_or, BitVec.getLsbD_ofNat, Nat.testBit_two_pow_self, decide_eq_true hn, Bool.and_self, Bool.or_true]

/-- A confirmed alarm locks, latches its source and erases where its response says so (R395-R398). -/
theorem confirmAlarm_locks (hn : n < 11) :
    (confirmAlarm n d s).tmp.locked = true ∧ (confirmAlarm n d s).tmp.latched.getLsbD n = true ∧
      (responseErases n s = true → (confirmAlarm n d s).tmp.erased = true) ∧
      (s.tmp.locked = false → (confirmAlarm n d s).tmp.lockSeq = (s.tmp.lockSeq + 1) % 2 ^ 32) := by
  obtain ⟨hlocked, hlatched, herased, hseq⟩ := confirmAlarm_registers s n d
  obtain ⟨hlock, hcounted, herases⟩ := alarmResponse_registers s n
  refine ⟨hlocked.trans hlock, ?latched, fun h => herased.trans (herases h), fun hunlocked => ?counted⟩
  case latched =>
    rw [hlatched]
    exact getLsbD_or_two_pow _ hn
  case counted => rw [hseq, hcounted, lockNow_tmp s hunlocked]

end Alarm

section Cores
variable {s : State} {c : Nat} (hfirst : 1 ≤ c) (hlast : c ≤ 5) (hup : wardenUp s = true)
include hfirst hlast hup

theorem coreFailure_of_cause (measured selfTest : Bool) :
    coreFailure c measured selfTest s =
      if !s.wdn.standby then loseWarden c s
      else if !selfTest then loseWarden 4 (replaceCore c s)
      else if !measured then loseWarden 5 (replaceCore c s)
      else abortCommand (failOver c s) := by
  have hcause : ¬ (!wardenUp s || c == 0 || decide (5 < c)) = true := by
    simpa [hup] using ⟨Nat.one_le_iff_ne_zero.mp hfirst, hlast⟩
  exact if_neg hcause

/-- A standby that passes its self-test and its measurement takes over (R416). -/
theorem coreFailure_of_goodStandby (hstandby : s.wdn.standby = true) :
    coreFailure c true true s = abortCommand (failOver c s) := by
  simp [coreFailure_of_cause hfirst hlast hup, hstandby]

/-- Without a standby the Warden is lost (R418). -/
theorem coreFailure_of_noStandby (hstandby : s.wdn.standby = false) (measured selfTest : Bool) :
    coreFailure c measured selfTest s = loseWarden c s := by
  simp [coreFailure_of_cause hfirst hlast hup, hstandby]

theorem coreFailure_of_failedSelfTest (hstandby : s.wdn.standby = true) (measured : Bool) :
    coreFailure c measured false s = loseWarden 4 (replaceCore c s) := by
  simp [coreFailure_of_cause hfirst hlast hup, hstandby]

theorem coreFailure_of_failedMeasurement (hstandby : s.wdn.standby = true) :
    coreFailure c false true s = loseWarden 5 (replaceCore c s) := by
  simp [coreFailure_of_cause hfirst hlast hup, hstandby]

end Cores

theorem execFailedCoreSelfTest_of_failing {s : State} {b : Bool} (pass : Bool) (hfailing : s.wdn.failing = some b) :
    execFailedCoreSelfTest pass s =
      let t : State := { s with wdn := { s.wdn with failing := none } }
      .next (if pass then { t with wdn := { t.wdn with standby := true } } else retireCore b t) := by
  simp only [execFailedCoreSelfTest, hfailing]

/-- Settles O37: each event follows its own equation, and a confirmed alarm leaves what the LOCK, the ERASE and its record write
into the tamper registers. -/
theorem tamperAndWardenEventsComplete : Obligations.TamperAndWardenEventsComplete := by
  intro s
  refine ⟨fun n d hn hon halive hmonitored => ?alarm, fun n d hn _ _ _ => confirmAlarm_locks d hn,
    fun hrunning => if_pos hrunning, fun c hfirst hlast hup => ⟨fun hstandby => ?takesOver, fun hstandby ok ok2 => ?lost,
      fun hstandby ok => ?selfTest, fun hstandby => ?measurement⟩,
    fun b hfailing => ⟨execFailedCoreSelfTest_of_failing true hfailing, execFailedCoreSelfTest_of_failing false hfailing⟩,
    fun hup => if_pos hup⟩
  case alarm =>
    rw [← tamperAlarm_of_alive d hn hon halive hmonitored]
    rfl
  case takesOver => exact next_pump (coreFailure_of_goodStandby hfirst hlast hup hstandby)
  case lost => exact next_pump (coreFailure_of_noStandby hfirst hlast hup hstandby ok ok2)
  case selfTest => exact next_pump (coreFailure_of_failedSelfTest hfirst hlast hup hstandby ok)
  case measurement =>
    exact next_pump (coreFailure_of_failedMeasurement hfirst hlast hup hstandby)

end Sys2Proof.Machine
